-- ==== Sys2Proof/Word.lean ====
section
/-! DEFINITION. The byte, the one word the manual treats as bits on the line and in flash. -/

namespace Sys2Proof

/-- One byte of the serial line, of a record or of the flash array. -/
abbrev Byte := BitVec 8

end Sys2Proof
end

