-- ==== Sys2Proof/Config.lean ====
section
/-! DEFINITION. What the part fixes: its sizes and times, and the values the manual leaves open.
Times are in microseconds. -/

namespace Sys2Proof.Config

/-- Sectors of the flash array (section 1.1). -/
def sectors : Nat := 2048
/-- Bytes of a sector (section 1.1). -/
def sectorSize : Nat := 4096
/-- Bytes of a program page (section 1.1). -/
def pageSize : Nat := 256
/-- Pages of the array: 16 a sector (section 1.1). -/
def pages : Nat := 32768

/-- A page read takes 40 µs (Table 1-1). -/
def readTime : Nat := 40
/-- A page program not reported ended after 3 ms has failed (R2). -/
def programLimit : Nat := 3000
/-- A suspension takes effect 30 µs after it was taken (R20). -/
def suspendLatency : Nat := 30
/-- The progress window after a resume is 2 ms (R20). -/
def progressWindow : Nat := 2000
/-- A completion is reported after at most 400 ms of accumulated erase time (R22). -/
def eraseLimit : Nat := 400000
/-- An erase is given up at 500 ms of accumulated time (R23). -/
def eraseGiveUp : Nat := 500000
/-- The upload idle timer runs to 10 seconds (R52). -/
def uploadIdle : Nat := 10000000
/-- The first microsecond that is more than 100 ms after the last byte (R181). -/
def byteTimeout : Nat := 100001
/-- RESTART waits 2 seconds for its mark (R191). -/
def restartLimit : Nat := 2000000
/-- Head samples are 10 ms apart (R143). -/
def samplePeriod : Nat := 10000
/-- The first step of a motion comes 50 ms after a wake (R175). -/
def wakeDelay : Nat := 50000
/-- Loading and latching of a line (R152). -/
def loadTime : Nat := 60
/-- A stop of 20 ms clears the history (R150). -/
def coolStop : Nat := 20000
/-- A line of a feed that burns nothing, at 100 mm/s (R161). -/
def feedPeriod : Nat := 1250

/-- Head dots (section 1.4). -/
def headDots : Nat := 832
/-- Lines of a band buffer (R120). -/
def bandLines : Nat := 64
/-- Input buffer in bytes (R183). -/
def inputSize : Nat := 4096
/-- CTS falls at this fill (R183). -/
def ctsLow : Nat := 3072
/-- CTS rises at this fill (R183). -/
def ctsHigh : Nat := 1024
/-- Output queue in bytes (R184). -/
def outputSize : Nat := 2048
/-- Jobs the queue holds (R95). -/
def maxJobs : Nat := 32
/-- Tickets the list holds (R95). -/
def maxTickets : Nat := 4
/-- Counters of the table (Table 4-1). -/
def counters : Nat := 64

/-- FREE VALUE. A byte the manual leaves open: what a cell holds after a program cut short or not
reported ended, or after an erase cut short or given up (log entry 8). Its argument counts the uses. -/
opaque freeByte : Nat → Byte

/-- FREE VALUE. The dot at a glyph column and row of a built-in font's character: fixed data of the
part that the manual does not give (R38, log entry 9). Arguments: font, code, column, row. -/
opaque glyphDot : Nat → Nat → Nat → Nat → Bool

end Sys2Proof.Config
end

