-- ==== Sys2Proof/Syntax.lean ====
section
/-! DEFINITION. The commands: one constructor for each row of spec/opcode_table.json. A request
command carries nothing: the request stands in the frame at the head of the input buffer. An event of
the board, of the flash array or of the mechanism carries what the part senses at it (log entry 5). -/

namespace Sys2Proof

/-- The levels of the two baud straps, read at the start of a start-up (R179). -/
structure BaudStraps where
  first : Bool
  second : Bool
  deriving DecidableEq, Repr

/-- The commands of the 2608. -/
inductive Instr where
  /-- POWER_ON (R192). -/
  | powerOn (straps : BaudStraps)
  /-- RESET_LINE: the line is released (R192). -/
  | resetLine (straps : BaudStraps)
  /-- MAIN_POWER_LOSS (R90). -/
  | mainPowerLoss
  /-- BATTERY_RETENTION_LOSS (R90). -/
  | batteryRetentionLoss
  /-- BATTERY_LOW: the battery is below its warning level, or no longer below it (R93). -/
  | batteryLow (below : Bool)
  /-- READY (R199). -/
  | ready
  /-- SERIAL_BYTE_RECEIVED: a byte, and its stop bit as read (R179, R180). -/
  | serialByteReceived (b : Byte) (stopBit : Bool)
  /-- BYTE_TIMEOUT (R181). -/
  | byteTimeout
  /-- RTS_CHANGE: the level after the change (R184). -/
  | rtsChange (high : Bool)
  /-- BYTE_TRANSMITTED; the straps are read only when the byte ends a RESTART (R184, R191). -/
  | byteTransmitted (straps : BaudStraps)
  /-- NAK (R181). -/
  | nak
  /-- UNKNOWN_KIND (R186). -/
  | unknownKind
  /-- RECORD_BEGIN (R55). -/
  | recordBegin
  /-- RECORD_DATA (R57). -/
  | recordData
  /-- RECORD_END (R59). -/
  | recordEnd
  /-- RECORD_ABANDON (R66). -/
  | recordAbandon
  /-- UPLOAD_TIMEOUT (R52). -/
  | uploadTimeout
  /-- RECORD_RETIRE (R67). -/
  | recordRetire
  /-- RECORD_QUERY (R24). -/
  | recordQuery
  /-- DIRECTORY_LIST (R25). -/
  | directoryList
  /-- STORE_USAGE (R26). -/
  | storeUsage
  /-- STORE_WIPE, with the service strap as sampled when it is taken (R71, R72). -/
  | storeWipe (service : Bool)
  /-- PAGE_PROGRAM_END: the bytes the array left where they differ from what was asked (R2). -/
  | pageProgramEnd (left : Option (List Byte))
  /-- PROGRAM_TIMEOUT (R2). -/
  | programTimeout
  /-- PAGE_READ_END (R1). -/
  | pageReadEnd
  /-- ERASE_START (R19). -/
  | eraseStart
  /-- SUSPENSION_EFFECT (R20). -/
  | suspensionEffect
  /-- PROGRESS_WINDOW_END (R21). -/
  | progressWindowEnd
  /-- ERASE_COMPLETE: the offsets in the sector that did not erase, with their bytes (R22). -/
  | eraseComplete (residue : List (Nat × Byte))
  /-- ERASE_GIVE_UP (R23). -/
  | eraseGiveUp
  /-- COUNTER_DEFINE (R85). -/
  | counterDefine
  /-- COUNTER_SET (R86). -/
  | counterSet
  /-- COUNTER_UNDEFINE (R87). -/
  | counterUndefine
  /-- COUNTER_CLEAR_RETURNS (R88). -/
  | counterClearReturns
  /-- COUNTER_READ (R89). -/
  | counterRead
  /-- JOB_SUBMIT (R100). -/
  | jobSubmit
  /-- JOB_CANCEL (R112). -/
  | jobCancel
  /-- JOB_HOLD (R102). -/
  | jobHold
  /-- JOB_RELEASE (R102). -/
  | jobRelease
  /-- JOB_QUERY (R119). -/
  | jobQuery
  /-- QUEUE_LIST (R119). -/
  | queueList
  /-- REPRINT (R117). -/
  | reprint
  /-- REPRINT_CLEAR (R118). -/
  | reprintClear
  /-- JOB_END (R114). -/
  | jobEnd
  /-- BAND_DRAWN (R124). -/
  | bandDrawn
  /-- HEAD_SAMPLE: the temperature in °C and the supply in tenths of a volt (R143). -/
  | headSample (theta : Int) (supply : Nat)
  /-- SUPPLY_CLEARED (R157). -/
  | supplyCleared
  /-- LOADING_END (R154). -/
  | loadingEnd
  /-- STROBE_PHASE_END (R151). -/
  | strobePhaseEnd
  /-- LINE_END (R154). -/
  | lineEnd
  /-- MOTOR_STEP: whether the media sensor reads gap after the step (R161, R163). -/
  | motorStep (gap : Bool)
  /-- MISSED_GAP (R163). -/
  | missedGap
  /-- MEDIA_OUT (R168). -/
  | mediaOut
  /-- RESYNC_NO_EDGE (R165). -/
  | resyncNoEdge
  /-- RECOVERY_LIMIT (R166). -/
  | recoveryLimit
  /-- CALIBRATION_LIMIT (R167). -/
  | calibrationLimit
  /-- HEAD_SWITCH_CHANGE: whether the switch now reads open (R168). -/
  | headSwitchChange (isOpen : Bool)
  /-- MEDIA_SENSOR_CHANGE: whether the sensor now reads gap (R168). -/
  | mediaSensorChange (gap : Bool)
  /-- LABEL_TAKEN: whether the label-taken sensor now reads no label (R171). -/
  | labelTaken (noLabel : Bool)
  /-- PAUSE (R172). -/
  | pause
  /-- RESUME (R172). -/
  | resume
  /-- FEED (R173). -/
  | feed
  /-- CALIBRATE (R173). -/
  | calibrate
  /-- SETTINGS_SET (R174). -/
  | settingsSet
  /-- SETTINGS_GET, with the service strap when the request is taken (R190). -/
  | settingsGet (service : Bool)
  /-- IDLE_TIMEOUT (R175). -/
  | idleTimeout
  /-- WAKE_DELAY_END (R175). -/
  | wakeDelayEnd
  /-- ENGINE (R177). -/
  | engine
  /-- STATUS (R188). -/
  | status
  /-- STATUS_CLEAR (R189). -/
  | statusClear
  /-- RESTART (R191). -/
  | restart
  /-- RESTART_LIMIT (R191). -/
  | restartLimit (straps : BaudStraps)
  /-- RESET_LINE_ASSERTED (R192). -/
  | resetLineAsserted
  deriving DecidableEq, Repr

end Sys2Proof
end

