-- ==== Sys2Proof/Machine/Types.lean ====
section
/-! DEFINITION. The parts of the state, block by block, as the manual's tables name them. All of it is
plain data. Times are microseconds of the model's clock (log entry 2). -/

namespace Sys2Proof.Machine

/-! ## Record Store (chapters 1 to 3) -/

/-- The flash contents: the listed cells, addresses strictly rising, no byte FFh listed. An unlisted
byte reads FFh, the erased value (section 1.1, log entry 11). -/
abbrev Memory := List Host.Cell

/-- Record kinds F, G and S (section 1.4). -/
inductive RecKind where
  | format | image | table
  deriving DecidableEq, Repr

/-- One version of a record: kind, number and revision. -/
structure RecRef where
  kind : RecKind
  number : Nat
  revision : Nat
  deriving DecidableEq, Repr

/-- Directory states that an entry of the directory can be in (Table 1-5; a DEAD entry has left it, R7). -/
inductive DirState where
  | writing | live | superseded | retired
  deriving DecidableEq, Repr

/-- A directory entry (Table 1-4). -/
structure DirEntry where
  kind : RecKind
  number : Nat
  revision : Nat
  firstSector : Nat
  extentLen : Nat
  bodyLen : Nat
  lock : Bool
  state : DirState
  pins : Nat
  deriving DecidableEq, Repr

/-- One mapping of the number index: the LIVE entry of a kind and number, by its first sector (R8). -/
structure IndexEntry where
  kind : RecKind
  number : Nat
  firstSector : Nat
  deriving DecidableEq, Repr

/-- Sector states (Table 1-7). -/
inductive SectorState where
  | free | held | queued | erasing | bad
  deriving DecidableEq, Repr

/-- An extent on which a stale program failed, counted by R54 until its first sector is FREE. -/
structure FailedStale where
  kind : RecKind
  number : Nat
  revision : Nat
  firstSector : Nat
  deriving DecidableEq, Repr

/-- The upload context while it is OPEN (Table 3-1). `timer` is the time the idle timer started, or
none while it is stopped. -/
structure Upload where
  kind : RecKind
  number : Nat
  revision : Nat
  firstSector : Nat
  bodyLen : Nat
  received : Nat
  timer : Option Nat
  deriving DecidableEq, Repr

/-- The Record Store's RAM (section 1.1 to 1.8). `sectorMap` lists the sectors that are not FREE. -/
structure RecordStore where
  directory : List DirEntry
  index : List IndexEntry
  sectorMap : List (Nat × SectorState)
  eraseQueue : List Nat
  failedStale : List FailedStale
  upload : Option Upload
  deriving DecidableEq, Repr

/-! ## Flash array and erase service (sections 1.1 and 1.9) -/

/-- The partner an access is issued for. -/
inductive Client where
  /-- the request in execution -/
  | decoder
  /-- the band in hand -/
  | renderer
  /-- the start-up scan -/
  | scan
  /-- a band drawing that has been abandoned; its access is still carried out (log entry 12) -/
  | orphan
  deriving DecidableEq, Repr

/-- A page read, or a program of bytes within one page (Table 1-1). -/
inductive AccessOp where
  | read (page : Nat)
  | program (addr : Nat) (data : List Byte)
  deriving DecidableEq, Repr

/-- An access (R1). -/
structure Access where
  client : Client
  op : AccessOp
  deriving DecidableEq, Repr

/-- The access in progress and when it began. -/
structure ArrayOp where
  access : Access
  started : Nat
  deriving DecidableEq, Repr

/-- A sector erase that is running: the time accumulated before `since`, the end of its progress
window if one is open, and when a suspension was taken if one was (R17 to R21). -/
structure EraseRun where
  sector : Nat
  accumulated : Nat
  since : Nat
  window : Option Nat
  suspension : Option Nat
  deriving DecidableEq, Repr

/-- State of the erase service (R18). -/
inductive EraseService where
  | idle
  | erasing (run : EraseRun)
  | suspended (sector : Nat) (accumulated : Nat)
  deriving DecidableEq, Repr

/-- The array's accesses and its erase (R1, R18, R20). -/
structure FlashArray where
  busy : Option ArrayOp
  waiting : List Access
  serving : List Access
  erase : EraseService
  deriving DecidableEq, Repr

/-! ## Content validation (chapter 2) -/

/-- Check rules of a symbol table (Table 2-8). -/
inductive CheckRule where
  | none | rightWeighted | leftPositional
  deriving DecidableEq, Repr

/-- The item a validation pass judges next (Tables 2-10 to 2-12). -/
inductive Item where
  | labelLength | labelWidth | darkness | speed | fieldCount
  | fieldId | fieldKind | originX | originY | rotation | drawMode | param | partCount | partKind | part
  | imageWidth | imageHeight | rows
  | model | perChar | gap | minLength | maxLength | rule | modulus | weightA | weightB | startConstant
  | checkShown | startPattern | stopPattern | entryCount | entryCode | entryValue | entryElements
  | finish
  deriving DecidableEq, Repr

/-- The validation's own state (R45): the offset reached, the ids, codes and values seen, the FIXED
total, and what earlier items fix about later ones. -/
structure Pass where
  offset : Nat
  item : Item
  ids : List Nat
  codes : List Nat
  values : List Nat
  fixedTotal : Nat
  fieldsLeft : Nat
  kindCode : Nat
  paramIndex : Nat
  partsLeft : Nat
  partCode : Nat
  width : Nat
  height : Nat
  modelCode : Nat
  perCharCount : Nat
  gapCount : Nat
  minLen : Nat
  rule : CheckRule
  modulusValue : Nat
  entriesLeft : Nat
  deriving DecidableEq, Repr

/-! ## Counter Table and settings (chapters 4 and 8), in battery-backed RAM -/

/-- Counter states (R74). -/
inductive CounterState where
  | undefined | active | exhausted
  deriving DecidableEq, Repr

/-- A counter's character set (R75). -/
inductive Alphabet where
  | decimal | base36
  deriving DecidableEq, Repr

/-- Sense of an advance (Table 4-1). -/
inductive Direction where
  | up | down
  deriving DecidableEq, Repr

/-- What an advance past the bound does (Table 4-1). -/
inductive EndAction where
  | wrap | halt
  deriving DecidableEq, Repr

/-- What becomes of a returned value (Table 4-1). -/
inductive VoidPolicy where
  | gap | reuse
  deriving DecidableEq, Repr

/-- The definition items of a counter (Table 4-1, R85). -/
structure CounterDef where
  width : Nat
  alphabet : Alphabet
  low : Nat
  high : Nat
  start : Nat
  step : Nat
  direction : Direction
  endAction : EndAction
  policy : VoidPolicy
  deriving DecidableEq, Repr

/-- An entry of the outstanding list: the value and the group that drew it (R77). -/
structure Outstanding where
  value : Nat
  tag : Nat
  label : Nat
  deriving DecidableEq, Repr

/-- A counter record (Table 4-1); its id is its place in the table, from 1. -/
structure Counter where
  state : CounterState
  defn : CounterDef
  current : Nat
  returns : List Nat
  outstanding : List Outstanding
  bound : Nat
  deriving DecidableEq, Repr

/-- Media types (Table 8-4). -/
inductive MediaType where
  | gap | mark | continuous
  deriving DecidableEq, Repr

/-- Presentation settings (Table 8-4). -/
inductive Presentation where
  | tear | peel | stream
  deriving DecidableEq, Repr

/-- The settings (Table 8-4). -/
structure Settings where
  mediaType : MediaType
  pitch : Nat
  gapLength : Nat
  presentation : Presentation
  presentDistance : Nat
  leftOffset : Nat
  autoResume : Bool
  idleTime : Nat
  h1 : Nat
  h2 : Nat
  h3 : Nat
  deriving DecidableEq, Repr

/-- A drop record of the counter check (R92, R193). -/
structure Drop where
  id : Nat
  count : Nat
  lowest : Nat
  highest : Nat
  deriving DecidableEq, Repr

/-- The battery-backed RAM (section 4.7, R193) and the retention latch beside it (R90). -/
structure Battery where
  counters : List Counter
  settings : Settings
  lostMark : Bool
  drops : List Drop
  check : Nat
  latch : Bool
  deriving DecidableEq, Repr

/-! ## Job Queue (chapter 5) -/

/-- Place of insertion (Table 5-1). -/
inductive Priority where
  | normal | rush
  deriving DecidableEq, Repr

/-- Job states (Table 5-2). -/
inductive JobState where
  | queued | running | suspended | ending
  deriving DecidableEq, Repr

/-- Outcome of a job that is ENDING (Table 5-1). -/
inductive JobOutcome where
  | done | cancelled
  deriving DecidableEq, Repr

/-- One data slot of a job (Table 5-1). -/
structure Slot where
  number : Nat
  text : List Byte
  deriving DecidableEq, Repr

/-- The items of a JOB_SUBMIT (Table 5-1, tag to data slots). -/
structure JobItems where
  tag : Nat
  format : Nat
  quantity : Nat
  copies : Nat
  priority : Priority
  noInterrupt : Bool
  darkness : Int
  speed : Nat
  shiftX : Int
  shiftY : Int
  slots : List Slot
  deriving DecidableEq, Repr

/-- A group whose copies are not all ticketed (Table 5-1). -/
structure OpenGroup where
  label : Nat
  nextCopy : Nat
  deriving DecidableEq, Repr

/-- A job record (Table 5-1). -/
structure Job where
  items : JobItems
  entries : List RecRef
  counters : List Nat
  state : JobState
  holdCounter : Bool
  holdOperator : Bool
  blocking : Option Nat
  cancelled : Bool
  nextLabel : Nat
  openGroup : Option OpenGroup
  groupsCompleted : Nat
  labelsCompleted : Nat
  labelsVoided : Nat
  gaps : Nat
  labelsClipped : Nat
  outcome : Option JobOutcome
  deriving DecidableEq, Repr

/-- A drawn value with the width and alphabet its counter had when it was drawn (R115, R128). -/
structure Drawn where
  counter : Nat
  value : Nat
  width : Nat
  alphabet : Alphabet
  deriving DecidableEq, Repr

/-- What names a ticket in the list: its source (a job tag, or none for REPRINT), label and copy. -/
structure TicketKey where
  source : Option Nat
  label : Nat
  copy : Nat
  deriving DecidableEq, Repr

/-- Ticket states (R107). -/
inductive TicketState where
  | rendering | ready | printing
  deriving DecidableEq, Repr

/-- A label ticket (Table 5-3); `length` is its effective length once fixed (R123). -/
structure Ticket where
  key : TicketKey
  values : List Drawn
  rendered : Nat
  length : Option Nat
  state : TicketState
  burned : Bool
  clipped : Bool
  deriving DecidableEq, Repr

/-- The last-label record when it holds a label (R115). -/
structure LastLabel where
  tag : Nat
  label : Nat
  copies : Nat
  entries : List RecRef
  slots : List Slot
  shiftX : Int
  shiftY : Int
  darkness : Int
  speed : Nat
  values : List Drawn
  deriving DecidableEq, Repr

/-- The Job Queue's state. `ending` lists the tags of the ENDING jobs in the order they became so (R114). -/
structure JobQueue where
  jobs : List Job
  tickets : List Ticket
  last : Option LastLabel
  reprint : Bool
  ending : List Nat
  deriving DecidableEq, Repr

/-! ## Band Renderer (chapter 6) -/

/-- Band buffer states (R121). -/
inductive BufferState where
  | free | filling | complete | burning
  deriving DecidableEq, Repr

/-- A band buffer (Table 6-1); its number is its place in the list. -/
structure Buffer where
  state : BufferState
  ticket : Option TicketKey
  band : Nat
  lines : Nat
  dots : List (List Bool)
  deriving DecidableEq, Repr

/-- The band being drawn, and the pages still to be read after the one asked for (R124, R128).
`reading` says whether a page read is outstanding. -/
structure Hand where
  ticket : TicketKey
  band : Nat
  buffer : Nat
  pagesLeft : List Nat
  reading : Bool
  deriving DecidableEq, Repr

/-- The Band Renderer's state. -/
structure Renderer where
  buffers : List Buffer
  hand : Option Hand
  deriving DecidableEq, Repr

/-! ## Burn Controller (chapter 7) -/

/-- Values fixed at a label start (R144), with the present distance fixed then too (R171). -/
structure LabelValues where
  darkness : Nat
  speed : Nat
  period : Nat
  leftOffset : Nat
  h1 : Nat
  h2 : Nat
  h3 : Nat
  presentDistance : Nat
  deriving DecidableEq, Repr

/-- A head dot driven in a line, with its pulse in µs (R147). -/
structure DotPulse where
  dot : Nat
  pulse : Nat
  deriving DecidableEq, Repr

/-- Stage of the line in hand (R154). -/
inductive LineStage where
  | loading
  | phase (k : Nat)
  | waiting
  deriving DecidableEq, Repr

/-- The line in hand with its pulse figures (Table 7-1). -/
structure LineInHand where
  number : Nat
  p0 : Nat
  phases : Nat
  duration : Nat
  started : Nat
  dots : List DotPulse
  stage : LineStage
  deriving DecidableEq, Repr

/-- The Burn Controller's state (Table 7-1). `previous` and `before` list the head dots burned in the
previous line and in the line before it. -/
structure Burn where
  theta : Int
  supply : Nat
  sensorFault : Bool
  supplyRun : Nat
  derating : Nat
  values : Option LabelValues
  previous : List Nat
  before : List Nat
  line : Option LineInHand
  lastLineEnd : Option Nat
  stretchedLabel : Nat
  stretchedLast : Nat
  stretchedTotal : Nat
  lastSample : Nat
  deriving DecidableEq, Repr

/-! ## Media Tracker (chapter 8) -/

/-- Engine states (Table 8-1). -/
inductive Engine where
  | off | idle | calibrating | feeding | resync | printing | hold | presenting | presented | paused | fault
  deriving DecidableEq, Repr

/-- A set of hold reasons (Table 8-1). -/
structure Holds where
  underrun : Bool
  heat : Bool
  supply : Bool
  deriving DecidableEq, Repr

/-- A set of fault causes (Table 8-1). -/
structure Causes where
  headOpen : Bool
  mediaOut : Bool
  mediaLost : Bool
  headFault : Bool
  deriving DecidableEq, Repr

/-- Last media events (Table 8-5). -/
inductive MediaEvent where
  | none | noChange | missedGap | earlyGap | mediaOut | headOpen | lost | calibrated
  deriving DecidableEq, Repr

/-- The pending ENGINE notice (R177). -/
structure EngineNotice where
  newState : Engine
  newBits : Nat
  oldState : Engine
  oldBits : Nat
  count : Nat
  coalesced : Nat
  deriving DecidableEq, Repr

/-- What the motor does, with its progress in lines. -/
inductive MotionKind where
  /-- a label start that waits for the wake alone (R160, R175) -/
  | awaitStart
  /-- the PRINTING label; `Media.labelLine` says where it stands -/
  | label
  /-- RESYNC feed before its first edge, lines fed (R165) -/
  | resyncSeek (fed : Nat)
  /-- RESYNC feed on to the label top (R165) -/
  | resyncRun
  /-- recovery feed before its first edge, lines fed (R166) -/
  | recoverySeek (fed : Nat)
  /-- recovery feed with its run of good gaps (R166) -/
  | recoveryJudge (fed : Nat) (run : Nat)
  /-- recovered, on to the label top (R166) -/
  | recoveryRun
  /-- calibration before its first edge, lines fed (R167) -/
  | calibrateSeek (fed : Nat)
  /-- calibration measuring the gap, lines since the first edge (R167) -/
  | calibrateGap (fed : Nat) (since : Nat)
  /-- calibration measuring the pitch, lines since the first edge, gap measured (R167) -/
  | calibratePitch (fed : Nat) (since : Nat) (gap : Nat)
  /-- calibrated, on to the label top (R167) -/
  | calibrateRun
  /-- FEED on calibrated GAP or MARK media (R173) -/
  | feedTop
  /-- FEED on CONTINUOUS media, lines left (R173) -/
  | feedLines (left : Nat)
  /-- forward presentation feed, lines left and lines fed (R171) -/
  | present (left : Nat) (fed : Nat)
  /-- backfeed, lines not yet fed back (R171) -/
  | backfeed (left : Nat)
  deriving DecidableEq, Repr

/-- A motion: for a label start's preliminary or not, a calibration for recovery or not, the end of
its wake delay if one runs, and when its next step is made. -/
structure Motion where
  kind : MotionKind
  forLabel : Bool
  forRecovery : Bool
  wake : Option Nat
  due : Nat
  deriving DecidableEq, Repr

/-- Where the PRINTING label stands: the media at line n with its line start due or held, line n in
hand, line n ended with the motor step off it due, or feeding on to the label top (R153, R161). -/
inductive LabelLine where
  | none
  | standing (n : Nat)
  | burning (n : Nat)
  | stepping (n : Nat)
  | tail
  deriving DecidableEq, Repr

/-- A consequence of a motor step that is due and not yet taken (log entry 14). -/
inductive StepDue where
  /-- a missed gap; whether the step saw a leading edge, and whether gap ended at it (R163) -/
  | missedGap (edge : Bool) (fell : Bool)
  | resyncNoEdge
  | recoveryLimit
  | calibrationLimit
  | mediaOut
  deriving DecidableEq, Repr

/-- The Media Tracker's state (Table 8-2). `out` is none for the presentation NONE and the distance
for OUT. -/
structure Media where
  engine : Engine
  holds : Holds
  causes : Causes
  setAside : Holds
  power : Bool
  pausePending : Bool
  d : Int
  high : Int
  count : Nat
  gapRun : Nat
  out : Option Nat
  presentedUnder : Presentation
  event : MediaEvent
  idleSince : Nat
  counterHold : Bool
  notice : Option EngineNotice
  attention : Bool
  motion : Option Motion
  labelLine : LabelLine
  goodSeen : Bool
  badSeen : Bool
  due : Option StepDue
  deriving DecidableEq, Repr

/-- The seven sticky flags (Table 9-3). -/
structure Sticky where
  storeFault : Bool
  heatHoldSeen : Bool
  supplyHoldSeen : Bool
  underrunSeen : Bool
  registrationWarning : Bool
  batteryLow : Bool
  countersLost : Bool
  deriving DecidableEq, Repr

/-! ## Line Interface and Request Decoder (chapter 9) -/

/-- Assembly states (R180). -/
inductive Assembly where
  | hunt | length | kind | body | check
  deriving DecidableEq, Repr

/-- Causes of a NAK (R181). -/
inductive NakCause where
  | check | length | timeout | overrun
  deriving DecidableEq, Repr

/-- What stands in the input buffer: a whole frame, or a NAK mark (R180, R181). -/
inductive InItem where
  | frame (kind : Byte) (body : List Byte)
  | mark (cause : NakCause) (merged : Nat)
  deriving DecidableEq, Repr

/-- The RESTART mark: the bytes of the output queue up to it, and when it was set (R191). -/
structure RestartMark where
  bytes : Nat
  placed : Nat
  deriving DecidableEq, Repr

/-- The Line Interface's state. -/
structure LineIf where
  assembly : Assembly
  stored : List Byte
  lastByteAt : Nat
  input : List InItem
  overrun : Option Nat
  cts : Bool
  output : List Byte
  sending : Option Nat
  restart : Option RestartMark
  rate : Nat
  deriving DecidableEq, Repr

/-- States of the Request Decoder (R186). -/
inductive DecState where
  | idle | waiting | executing
  deriving DecidableEq, Repr

/-- Refusal reasons of a reply (Tables 9-2 and 11-3). -/
inductive Reason where
  | unknownKind | badLength | badValue | outOfSequence | notFound | duplicateTag | queueFull
  | unresolved | noFit | badData | inUse | locked | storeFull | busy | noUpload | incomplete
  | checkMismatch | recordInvalid | revisionLimit | storeFault | serviceLine | cancelLate
  deriving DecidableEq, Repr

/-- What a request in execution waits for. -/
inductive Work where
  | none
  /-- RECORD_BEGIN: its header program (R55) -/
  | header
  /-- RECORD_DATA: a page program, the data length and the pieces still to be programmed (R57) -/
  | data (len : Nat) (left : List (Nat × List Byte))
  /-- RECORD_END: a page read of the body check pass, the check given, the pages left (R60) -/
  | bodyCheck (check : Nat) (left : List Nat)
  /-- RECORD_END: a page read of content validation, the bytes read so far once it ends (R61, R45) -/
  | validate (check : Nat) (left : List Nat) (read : Nat) (pass : Pass)
  /-- RECORD_END: the commit program, with the previous LIVE entry (R61) -/
  | commit (previous : Option RecRef)
  /-- RECORD_END: the stale program of the previous LIVE entry (R62) -/
  | staleOld (previous : RecRef)
  /-- RECORD_RETIRE: the stale program (R67) -/
  | retire (ref : RecRef)
  /-- STORE_WIPE: a stale program, the entries left and the failures so far (R72) -/
  | wipe (current : RecRef) (left : List RecRef) (failed : Nat)
  /-- JOB_SUBMIT: a page read of the format's body (R97) -/
  | submitFormat (items : JobItems) (left : List Nat)
  /-- JOB_SUBMIT: the first page read of the symbol table of the field at this place of the list waits for the band
  drawing in hand, with the pages after it (R140) -/
  | awaitTable (items : JobItems) (field page : Nat) (left : List Nat)
  /-- JOB_SUBMIT: a page read of the symbol table of the field at this place of the list (R99, R140) -/
  | submitTable (items : JobItems) (field : Nat) (left : List Nat)
  deriving DecidableEq, Repr

/-- The Request Decoder's state. `reserved` is its reserved room (R185), `taken` the frame it has taken and not yet
executed (R186). -/
structure Decoder where
  state : DecState
  reserved : Option Nat
  kind : Byte
  taken : Option InItem
  work : Work
  deriving DecidableEq, Repr

/-! ## Board lines and start-up (chapters 1.3 and 10) -/

/-- The levels of the lines whose changes are commands (Table 0-3). -/
structure BoardLines where
  rts : Bool
  headOpen : Bool
  gap : Bool
  noLabel : Bool
  batteryLow : Bool
  resetAsserted : Bool
  deriving DecidableEq, Repr

/-- An extent the scan has found (R194, R195). -/
structure Extent where
  kind : RecKind
  number : Nat
  revision : Nat
  firstSector : Nat
  extentLen : Nat
  bodyLen : Nat
  lock : Bool
  check : Nat
  deriving DecidableEq, Repr

/-- What the scan waits for. -/
inductive ScanWait where
  /-- the header read of a sector (R194) -/
  | header (sector : Nat)
  /-- a body read of an extent whose marker reads LIVE, pages left (R195) -/
  | body (extent : Extent) (left : List Nat)
  /-- the stale program of a losing extent, extents left (R196) -/
  | stale (current : Extent) (left : List Extent)
  /-- a read of a sector outside every kept extent, pages left (R197) -/
  | verify (sector : Nat) (left : List Nat)
  deriving DecidableEq, Repr

/-- The store scan's state (R194 to R197). -/
structure Scan where
  wait : ScanWait
  candidates : List Extent
  kept : List Extent
  failed : List FailedStale
  damaged : Nat
  duplicates : Nat
  dirty : List Nat
  deriving DecidableEq, Repr

/-- The step start-up has reached (Table 10-1). The counter check and the settings take no time. -/
inductive StartStep where
  | scan (scan : Scan)
  | engine (damaged duplicates : Nat)
  | ready (damaged duplicates : Nat)
  deriving DecidableEq, Repr

/-- Whether the part is without main power, held in reset, starting up or running (R192). -/
inductive Mode where
  | off
  | held
  | startUp (step : StartStep)
  | running
  deriving DecidableEq, Repr

end Sys2Proof.Machine
end

