-- ==== Sys2Proof/Machine/Bytes.lean ====
section
/-! DEFINITION. Numbers as bytes, high byte first, and sums of bytes (R200, section 9.2). -/

namespace Sys2Proof.Machine

/-- A number in `n` bytes, high byte first; what does not fit is cut off (R200). -/
def toBytes : Nat → Nat → List Byte
  | 0, _ => []
  | n + 1, v => BitVec.ofNat 8 (v / 256 ^ n) :: toBytes n v

/-- The number that bytes spell, high byte first (R200). -/
def ofBytes (bs : List Byte) : Nat :=
  bs.foldl (fun acc b => acc * 256 + b.toNat) 0

/-- A signed number in one byte, two's complement (R200). -/
def signed8 (b : Byte) : Int := b.toInt

/-- A signed number in `n` bytes, two's complement (R200). -/
def toBytesInt (n : Nat) (v : Int) : List Byte :=
  toBytes n (v % (256 ^ n : Nat)).toNat

/-- One byte of a number below 256. -/
def byte (v : Nat) : Byte := BitVec.ofNat 8 v

/-- A flag as 00h or 01h. -/
def flagByte (b : Bool) : Byte := if b then 1 else 0

/-- The sum of bytes modulo 65,536 (R4, R90, section 9.2). -/
def byteSum (bs : List Byte) : Nat :=
  (bs.foldl (fun acc b => acc + b.toNat) 0) % 65536

/-- A frame: start byte, length, kind, body, check (Table 11-1). -/
def frameBytes (kind : Byte) (body : List Byte) : List Byte :=
  let inner := toBytes 2 body.length ++ kind :: body
  0xA5 :: inner ++ toBytes 2 (byteSum inner)

end Sys2Proof.Machine
end

