-- ==== Sys2Proof/Machine/TableCheck.lean ====
section
/-! DEFINITION. The table check of the battery-backed RAM (R90), over the stored bytes of the counter
records, the settings, the lost mark and the drop records. The manual does not give the stored
layout; DESIGN CHOICE: each item takes the bytes the message layouts give it (log entry 10). -/

namespace Sys2Proof.Machine

/-- Counter state codes (Table 11-9). -/
def counterStateCode : CounterState → Nat
  | .undefined => 0
  | .active => 1
  | .exhausted => 2

/-- Alphabet codes (Table 11-9). -/
def alphabetCode : Alphabet → Nat
  | .decimal => 0
  | .base36 => 1

/-- Direction codes (Table 11-9). -/
def directionCode : Direction → Nat
  | .up => 0
  | .down => 1

/-- End action codes (Table 11-9). -/
def endActionCode : EndAction → Nat
  | .wrap => 0
  | .halt => 1

/-- Void policy codes (Table 11-9). -/
def policyCode : VoidPolicy → Nat
  | .gap => 0
  | .reuse => 1

/-- Media type codes (Table 11-9). -/
def mediaTypeCode : MediaType → Nat
  | .gap => 0
  | .mark => 1
  | .continuous => 2

/-- Presentation codes (Table 11-9). -/
def presentationCode : Presentation → Nat
  | .tear => 0
  | .peel => 1
  | .stream => 2

/-- The definition items in the order of COUNTER_DEFINE's body, width to start (Table 11-13). -/
def defnBytes (d : CounterDef) : List Byte :=
  [byte d.width, byte (alphabetCode d.alphabet)] ++ toBytes 8 d.low ++ toBytes 8 d.high
    ++ toBytes 8 d.start ++ toBytes 2 d.step
    ++ [byte (directionCode d.direction), byte (endActionCode d.endAction), byte (policyCode d.policy)]

/-- A counter's return list as bytes: the count and the values (Table 11-12). -/
def valueListBytes (vs : List Nat) : List Byte :=
  byte vs.length :: vs.flatMap (toBytes 8)

/-- An outstanding list as bytes (Table 11-12). -/
def outstandingBytes (os : List Outstanding) : List Byte :=
  byte os.length :: os.flatMap fun o => toBytes 8 o.value ++ toBytes 2 o.tag ++ toBytes 2 o.label

/-- A counter record from its state on, as COUNTER_READ lays it out (Table 11-12). -/
def counterBytes (c : Counter) : List Byte :=
  byte (counterStateCode c.state) :: defnBytes c.defn ++ toBytes 8 c.current
    ++ valueListBytes c.returns ++ outstandingBytes c.outstanding ++ [byte c.bound]

/-- The settings as SETTINGS_GET lays them out (Table 11-12). -/
def settingsBytes (s : Settings) : List Byte :=
  [byte (mediaTypeCode s.mediaType)] ++ toBytes 2 s.pitch ++ [byte s.gapLength,
    byte (presentationCode s.presentation), byte s.presentDistance] ++ toBytes 2 s.leftOffset
    ++ [flagByte s.autoResume] ++ toBytes 2 s.idleTime ++ [byte s.h1, byte s.h2, byte s.h3]

/-- A drop record as READY lays it out (R202). -/
def dropBytes (d : Drop) : List Byte :=
  [byte d.id, byte d.count] ++ toBytes 8 d.lowest ++ toBytes 8 d.highest

/-- The sum the table check must equal (R90). -/
def tableSum (b : Battery) : Nat :=
  byteSum (b.counters.flatMap counterBytes ++ settingsBytes b.settings ++ [flagByte b.lostMark]
    ++ b.drops.flatMap dropBytes)

end Sys2Proof.Machine
end

