-- ==== Sys2Proof/Machine/State.lean ====
section
/-! DEFINITION. The whole state of the part, why a step can stop, and the state after reset. -/

namespace Sys2Proof.Machine

/-- Why the machine stops with a fault. -/
inductive Fault where
  /-- Raised by PAGE_READ_END, PAGE_PROGRAM_END and PROGRAM_TIMEOUT when the access that ends is of a page outside
  the array's 32,768 pages (section 1.1). Safe: the manual gives no such page (log entry 39). -/
  | noSuchFlashAddress
  deriving DecidableEq, Repr

/-- Why a command has no meaning. -/
inductive Refusal where
  /-- Raised by an arm of exec whose command has no meaning yet. Safe: nothing is claimed of it. -/
  | notModelled (mnemonic : String)
  deriving DecidableEq, Repr

/-- The state of the part and of the queue of commands that wait for it. -/
structure State where
  pending : List Instr
  now : Nat
  freeCount : Nat
  mode : Mode
  lines : BoardLines
  flash : Memory
  array : FlashArray
  store : RecordStore
  battery : Battery
  queue : JobQueue
  render : Renderer
  burn : Burn
  media : Media
  sticky : Sticky
  line : LineIf
  dec : Decoder
  deriving DecidableEq, Repr

/-- The Line Interface after a reset (R180, R182 to R184); the rate is read by start-up (R179). -/
def LineIf.afterReset (rate : Nat) : LineIf :=
  { assembly := .hunt, stored := [], lastByteAt := 0, input := [], overrun := none, cts := false,
    output := [], sending := none, restart := none, rate := rate }

/-- The Request Decoder after a reset (R186). -/
def Decoder.afterReset : Decoder :=
  { state := .idle, reserved := none, kind := 0, taken := none, work := .none }

/-- The array after a reset: nothing in progress, the erase service idle (R18, R27). -/
def FlashArray.afterReset : FlashArray :=
  { busy := none, waiting := [], serving := [], erase := .idle }

/-- The Record Store's RAM after a reset, before the scan (R27, R51). DESIGN CHOICE: until the scan has built it the
sector map lists nothing, so that every sector reads FREE; the manual says only that it is discarded (log entry 7). -/
def RecordStore.afterReset : RecordStore :=
  { directory := [], index := [], sectorMap := [], eraseQueue := [], failedStale := [], upload := none }

/-- The Job Queue after a reset (R94). -/
def JobQueue.afterReset : JobQueue :=
  { jobs := [], tickets := [], last := none, reprint := false, ending := [] }

/-- A FREE band buffer (R120). -/
def Buffer.empty : Buffer :=
  { state := .free, ticket := none, band := 0, lines := 0, dots := [] }

/-- The Band Renderer after a reset (R120). -/
def Renderer.afterReset : Renderer :=
  { buffers := List.replicate 6 Buffer.empty, hand := none }

/-- The Burn Controller after a reset (R142); the samples are DESIGN CHOICE 0 until the first one
(log entry 7). `since` is when it leaves reset. -/
def Burn.afterReset (since : Nat) : Burn :=
  { theta := 0, supply := 0, sensorFault := false, supplyRun := 0, derating := 0, values := none,
    previous := [], before := [], line := none, lastLineEnd := none, stretchedLabel := 0,
    stretchedLast := 0, stretchedTotal := 0, lastSample := since }

/-- No hold reason. -/
def Holds.empty : Holds := { underrun := false, heat := false, supply := false }

/-- No fault cause. -/
def Causes.empty : Causes :=
  { headOpen := false, mediaOut := false, mediaLost := false, headFault := false }

/-- The Media Tracker after a reset (R159). `since` is when the idle timer would start. -/
def Media.afterReset (since : Nat) : Media :=
  { engine := .idle, holds := Holds.empty, causes := Causes.empty, setAside := Holds.empty,
    power := true, pausePending := false, d := 0, high := 0, count := 0, gapRun := 0, out := none,
    presentedUnder := .tear, event := .none, idleSince := since, counterHold := false,
    notice := none, attention := false, motion := none, labelLine := .none, goodSeen := false,
    badSeen := false, due := none }

/-- Every sticky flag clear (R188). -/
def Sticky.clear : Sticky :=
  { storeFault := false, heatHoldSeen := false, supplyHoldSeen := false, underrunSeen := false,
    registrationWarning := false, batteryLow := false, countersLost := false }

/-- The definition items of an UNDEFINED counter: every one 0 (R74). -/
def CounterDef.zero : CounterDef :=
  { width := 0, alphabet := .decimal, low := 0, high := 0, start := 0, step := 0, direction := .up,
    endAction := .wrap, policy := .gap }

/-- An UNDEFINED counter (R74). -/
def Counter.undefinedRecord : Counter :=
  { state := .undefined, defn := CounterDef.zero, current := 0, returns := [], outstanding := [],
    bound := 0 }

/-- The default settings (Table 8-4). -/
def Settings.default : Settings :=
  { mediaType := .gap, pitch := 0, gapLength := 0, presentation := .tear, presentDistance := 96,
    leftOffset := 0, autoResume := true, idleTime := 30, h1 := 14, h2 := 12, h3 := 10 }

/-- A battery-backed RAM with no counter defined and the default settings, before its table check. -/
def Battery.blank : Battery :=
  { counters := List.replicate Config.counters Counter.undefinedRecord, settings := Settings.default,
    lostMark := false, drops := [], check := 0, latch := false }

/-- A sound battery-backed RAM with no counter defined (log entry 6). -/
def Battery.sound : Battery := { Battery.blank with check := tableSum Battery.blank }

/-- The machine right after a reset: the part held in reset by its line, every block at the values the
manual gives for reset, flash erased, the battery-backed RAM sound (log entries 6, 7 and 11). -/
def State.reset : State :=
  { pending := [], now := 0, freeCount := 0, mode := .held,
    lines := { rts := true, headOpen := false, gap := false, noLabel := true, batteryLow := false,
               resetAsserted := true },
    flash := [], array := FlashArray.afterReset, store := RecordStore.afterReset,
    battery := Battery.sound, queue := JobQueue.afterReset, render := Renderer.afterReset,
    burn := Burn.afterReset 0, media := Media.afterReset 0, sticky := Sticky.clear,
    line := LineIf.afterReset 0, dec := Decoder.afterReset }

end Sys2Proof.Machine
end

