-- ==== Sys2Proof/Machine/Flags.lean ====
section
/-! DEFINITION. Codes and sets of flags as bytes: reasons, states, hold reasons, fault causes, sticky
flags (R200, Tables 11-3, 11-5, 11-9). -/

namespace Sys2Proof.Machine

/-- Reason codes (Table 11-3). -/
def reasonCode : Reason → Nat
  | .unknownKind => 0x01
  | .badLength => 0x02
  | .badValue => 0x03
  | .outOfSequence => 0x04
  | .notFound => 0x05
  | .duplicateTag => 0x06
  | .queueFull => 0x07
  | .unresolved => 0x08
  | .noFit => 0x09
  | .badData => 0x0A
  | .inUse => 0x0B
  | .locked => 0x0C
  | .storeFull => 0x0D
  | .busy => 0x0E
  | .noUpload => 0x0F
  | .incomplete => 0x10
  | .checkMismatch => 0x11
  | .recordInvalid => 0x12
  | .revisionLimit => 0x13
  | .storeFault => 0x14
  | .serviceLine => 0x15
  | .cancelLate => 0x16

/-- NAK causes (Table 11-3). -/
def nakCode : NakCause → Nat
  | .check => 1
  | .length => 2
  | .timeout => 3
  | .overrun => 4

/-- A bit of a set: bit `i` when `b` is set (R200). -/
def bit (i : Nat) (b : Bool) : Nat := if b then 2 ^ i else 0

/-- Hold reasons: bit 0 UNDERRUN, bit 1 HEAT, bit 2 SUPPLY (Table 11-5). -/
def holdBits (h : Holds) : Nat := bit 0 h.underrun + bit 1 h.heat + bit 2 h.supply

/-- Fault causes: bit 0 HEAD_OPEN, bit 1 MEDIA_OUT, bit 2 MEDIA_LOST, bit 3 HEAD_FAULT (Table 11-5). -/
def causeBits (c : Causes) : Nat :=
  bit 0 c.headOpen + bit 1 c.mediaOut + bit 2 c.mediaLost + bit 3 c.headFault

/-- Sticky flags, bits as at offset 26 of Table 11-5. -/
def stickyBits (f : Sticky) : Nat :=
  bit 0 f.storeFault + bit 1 f.heatHoldSeen + bit 2 f.supplyHoldSeen + bit 3 f.underrunSeen
    + bit 4 f.registrationWarning + bit 5 f.batteryLow + bit 6 f.countersLost

/-- The sticky flags less those a mask names (R189). -/
def stickyClear (mask : Byte) (f : Sticky) : Sticky :=
  { storeFault := f.storeFault && !mask.getLsbD 0
    heatHoldSeen := f.heatHoldSeen && !mask.getLsbD 1
    supplyHoldSeen := f.supplyHoldSeen && !mask.getLsbD 2
    underrunSeen := f.underrunSeen && !mask.getLsbD 3
    registrationWarning := f.registrationWarning && !mask.getLsbD 4
    batteryLow := f.batteryLow && !mask.getLsbD 5
    countersLost := f.countersLost && !mask.getLsbD 6 }

/-- Job hold reasons: bit 0 COUNTER, bit 1 OPERATOR (Table 11-9). -/
def jobHoldBits (j : Job) : Nat := bit 0 j.holdCounter + bit 1 j.holdOperator

/-- No hold reason stands. -/
def Holds.none (h : Holds) : Bool := !(h.underrun || h.heat || h.supply)

/-- The reasons of both sets. -/
def Holds.union (a b : Holds) : Holds :=
  { underrun := a.underrun || b.underrun, heat := a.heat || b.heat, supply := a.supply || b.supply }

/-- A condition cause stands: HEAD_OPEN, MEDIA_OUT or HEAD_FAULT (R168). -/
def Causes.condition (c : Causes) : Bool := c.headOpen || c.mediaOut || c.headFault

/-- Engine state codes (Table 11-9). -/
def engineCode : Engine → Nat
  | .off => 0
  | .idle => 1
  | .calibrating => 2
  | .feeding => 3
  | .resync => 4
  | .printing => 5
  | .hold => 6
  | .presenting => 7
  | .presented => 8
  | .paused => 9
  | .fault => 10

/-- Last media event codes (Table 11-9). -/
def mediaEventCode : MediaEvent → Nat
  | .none => 0
  | .noChange => 1
  | .missedGap => 2
  | .earlyGap => 3
  | .mediaOut => 4
  | .headOpen => 5
  | .lost => 6
  | .calibrated => 7

/-- Registration state of a count: NORMAL, WARNING, DEGRADED, LOST (R164, Table 11-5). -/
def registrationCode (count : Nat) : Nat :=
  if count ≤ 95 then 0 else if count ≤ 127 then 1 else if count ≤ 255 then 2 else 3

/-- Kind codes of a record (Table 11-10). -/
def recKindCode : RecKind → Nat
  | .format => 0x46
  | .image => 0x47
  | .table => 0x53

/-- Directory state codes (Table 11-9). -/
def dirStateCode : DirState → Nat
  | .writing => 1
  | .live => 2
  | .superseded => 3
  | .retired => 4

/-- Priority codes (Table 11-8). -/
def priorityCode : Priority → Nat
  | .normal => 0
  | .rush => 1

/-- Job state codes (Table 11-9). -/
def jobStateCode : JobState → Nat
  | .queued => 1
  | .running => 2
  | .suspended => 3
  | .ending => 4

/-- Outcome codes (Table 11-12). -/
def outcomeCode : Option JobOutcome → Nat
  | none => 0
  | some .done => 1
  | some .cancelled => 2

/-- Ticket state codes (Table 11-9). -/
def ticketStateCode : TicketState → Nat
  | .rendering => 1
  | .ready => 2
  | .printing => 3

end Sys2Proof.Machine
end

