-- ==== Sys2Proof/Machine/Ops.lean ====
section
/-! DEFINITION. The shared operations: flash bytes, the clock, the input buffer, the output queue, and
the Request Decoder's taking of a frame and its reply. -/

namespace Sys2Proof.Machine

/-! ## Flash bytes (section 1.1) -/

/-- The erased byte, which an unlisted address reads as (section 1.1). -/
def erasedByte : Byte := 0xFF

/-- The byte at an address of the array. -/
def flashRead : Memory → Nat → Byte
  | [], _ => erasedByte
  | (k, v) :: rest, a => if k = a then v else flashRead rest a

/-- The flash with one byte set, in canonical form. -/
def flashWrite : Memory → Nat → Byte → Memory
  | [], a, v => if v = erasedByte then [] else [(a, v)]
  | (k, w) :: rest, a, v =>
    if a < k then (if v = erasedByte then (k, w) :: rest else (a, v) :: (k, w) :: rest)
    else if a = k then (if v = erasedByte then rest else (a, v) :: rest)
    else (k, w) :: flashWrite rest a v

/-- Bytes set one after another from an address. -/
def flashWriteAll (m : Memory) (a : Nat) : List Byte → Memory
  | [] => m
  | v :: vs => flashWriteAll (flashWrite m a v) (a + 1) vs

/-- `n` bytes from an address. -/
def flashRange (m : Memory) (a n : Nat) : List Byte :=
  (List.range n).map fun i => flashRead m (a + i)

/-- The first address of a sector. -/
def sectorBase (sector : Nat) : Nat := sector * Config.sectorSize

/-- Whether an address lies in a sector. -/
def inSector (sector a : Nat) : Bool :=
  decide (sectorBase sector ≤ a ∧ a < sectorBase sector + Config.sectorSize)

/-- The flash with every byte of a sector erased. -/
def flashErase (m : Memory) (sector : Nat) : Memory :=
  m.filter fun c => !inSector sector c.1

/-- Whether every byte of a sector reads FFh. -/
def sectorErased (m : Memory) (sector : Nat) : Bool :=
  m.all fun c => !inSector sector c.1 || c.2 = erasedByte

/-- Canonical form: addresses strictly rising, no byte FFh listed, nothing listed below `low`. -/
def canonicalFrom : Nat → Memory → Bool
  | _, [] => true
  | low, (k, v) :: rest => decide (low ≤ k) && (v != erasedByte) && canonicalFrom (k + 1) rest

/-- The flash contents are in canonical form. -/
def Memory.wf (m : Memory) : Bool := canonicalFrom 0 m

/-! ## Clock -/

/-- The clock moved on to a time, never back (log entry 2). -/
def State.atLeast (t : Nat) (s : State) : State := { s with now := max s.now t }

/-- The part is past its start-up and not held or without power. -/
def State.isRunning (s : State) : Bool := decide (s.mode = .running)

/-- The part is starting up or running: its blocks act (R192). -/
def State.isAwake (s : State) : Bool :=
  match s.mode with
  | .running => true
  | .startUp _ => true
  | _ => false

/-! ## Input buffer (R180 to R183) -/

/-- Bytes an item takes in the input buffer: a frame its length on the line, a mark one (R181). -/
def InItem.size : InItem → Nat
  | .frame _ body => body.length + 6
  | .mark _ _ => 1

/-- The fill of the input buffer (R183). -/
def LineIf.fill (l : LineIf) : Nat := (l.input.map InItem.size).sum + l.stored.length

/-- CTS after the fill has changed: low at 3,072 or above, high at 1,024 or below (R183). -/
def LineIf.followFill (l : LineIf) : LineIf :=
  if Config.ctsLow ≤ l.fill then { l with cts := false }
  else if l.fill ≤ Config.ctsHigh then { l with cts := true }
  else l

/-- A pending overrun's mark stored once a byte of the buffer is free (R182). -/
def LineIf.storeOverrun (l : LineIf) : LineIf :=
  match l.overrun with
  | some n =>
    if l.fill < Config.inputSize then { l with input := l.input ++ [.mark .overrun n], overrun := none }
    else l
  | none => l

/-- The frame in assembly ended by an error: its bytes removed, a mark in their place, HUNT (R181). -/
def LineIf.frameError (cause : NakCause) (l : LineIf) : LineIf :=
  LineIf.storeOverrun { l with input := l.input ++ [.mark cause 1], stored := [], assembly := .hunt }

/-! ## Output queue (R184, R185) -/

/-- Room neither used nor reserved (R185). -/
def State.freeRoom (s : State) : Nat :=
  Config.outputSize - s.line.output.length - s.dec.reserved.getD 0

/-- Transmission of the next byte begins when request-to-send is high (R184). -/
def State.beginSending (s : State) : State :=
  if s.line.sending = none ∧ s.lines.rts = true ∧ s.line.output ≠ [] then
    { s with line := { s.line with sending := some s.now } }
  else s

/-- A frame placed whole at the end of the output queue (R184). -/
def State.place (frame : List Byte) (s : State) : State :=
  State.beginSending { s with line := { s.line with output := s.line.output ++ frame } }

/-! ## Request Decoder (R185, R186) -/

/-- The request kinds: code, length of the fixed part, whether a variable part may follow, and the
reply bound (Tables 11-2, 11-4, 11-8, 11-13). -/
def requestTable : List (Nat × Nat × Bool × Nat) :=
  [ (0x01, 6, false, 12), (0x02, 2, true, 12), (0x03, 2, false, 13), (0x04, 0, false, 14),
    (0x05, 3, false, 12), (0x06, 3, false, 358), (0x07, 3, false, 362), (0x08, 0, false, 27),
    (0x09, 0, false, 13),
    (0x10, 32, false, 72), (0x11, 9, false, 16), (0x12, 1, false, 72), (0x13, 1, false, 72),
    (0x14, 1, false, 163),
    (0x20, 2, false, 12), (0x21, 2, false, 12), (0x22, 15, true, 654), (0x23, 3, false, 12),
    (0x24, 2, false, 778), (0x25, 0, false, 392), (0x26, 0, false, 12), (0x27, 0, false, 12),
    (0x30, 0, false, 12), (0x31, 0, false, 12), (0x32, 0, false, 12), (0x33, 0, false, 12),
    (0x34, 13, false, 12), (0x35, 0, false, 23), (0x38, 0, false, 33), (0x39, 1, false, 12),
    (0x3A, 0, false, 12) ]

/-- The row of a kind byte, if it names a request. -/
def requestRow (kind : Byte) : Option (Nat × Nat × Bool × Nat) :=
  requestTable.find? fun row => row.1 == kind.toNat

/-- The room the Decoder reserves for the head of the input buffer (R185, Table 11-4). -/
def replyBound : InItem → Nat
  | .frame kind _ =>
    match requestRow kind with
    | some row => row.2.2.2
    | none => 12
  | .mark _ _ => 8

/-- Whether a body has a length its kind can take (R186, case 2). -/
def bodyLengthOk (kind : Byte) (body : List Byte) : Bool :=
  match requestRow kind with
  | some row => decide (row.2.1 ≤ body.length) && (row.2.2.1 || decide (body.length ≤ row.2.1))
  | none => false

/-- The Decoder becomes waiting when it is idle and something stands at the head of the buffer (R186);
after RESTART it takes no further request (R191). -/
def State.wakeDecoder (s : State) : State :=
  if s.dec.state = .idle ∧ s.line.input ≠ [] ∧ s.line.restart = none then
    { s with dec := { s.dec with state := .waiting } }
  else s

/-- The Line Interface once the Decoder has taken the head: the head gone, a pending overrun stored, CTS following
the fill (R182, R183, R186). -/
def LineIf.headTaken (l : LineIf) : LineIf :=
  LineIf.followFill (LineIf.storeOverrun { l with input := l.input.tail })

/-- The frame the Decoder has taken and is about to execute (R186). -/
def State.headItem (s : State) : Option InItem :=
  if s.mode = .running ∧ s.dec.state = .executing then s.dec.taken else none

/-- The upload idle timer started from zero while the upload is open (R52). -/
def State.startUploadTimer (s : State) : State :=
  { s with store := { s.store with upload := s.store.upload.map fun u => { u with timer := some s.now } } }

/-- The upload idle timer stopped (R52). -/
def State.stopUploadTimer (s : State) : State :=
  { s with store := { s.store with upload := s.store.upload.map fun u => { u with timer := none } } }

/-- RECORD_DATA or RECORD_END, whose taking stops the upload idle timer and whose reply restarts it (R52). -/
def isUploadRequest (kind : Byte) : Bool := kind == 0x02 || kind == 0x03

/-- The reply of the request in execution: placed against its reservation, which ends; the Decoder
becomes idle and takes up the next head (R185, R186). The upload idle timer restarts from the reply
of a RECORD_DATA or RECORD_END (R52). -/
def State.reply (kind : Byte) (body : List Byte) (s : State) : State :=
  let s1 := State.place (frameBytes kind body)
    { s with dec := { s.dec with state := .idle, reserved := none, taken := none, work := .none } }
  State.wakeDecoder (if isUploadRequest s.dec.kind then s1.startUploadTimer else s1)

/-- An OK reply: the request's code and the payload (R201). DESIGN CHOICE: in a request executed in one event the reply
is placed in that event, and a notice the execution itself produced is granted its room only after it (R185, R187, log
entry 52). -/
def State.ok (payload : List Byte) (s : State) : State :=
  s.reply 0x80 (s.dec.kind :: payload)

/-- A REFUSED reply: the request's code, the reason and the detail (R201). -/
def State.refuse (reason : Reason) (detail : Nat) (s : State) : State :=
  s.reply 0x81 (s.dec.kind :: byte (reasonCode reason) :: toBytes 4 detail)

/-- The request in execution waits for what `work` names. -/
def State.await (work : Work) (s : State) : State := { s with dec := { s.dec with work := work } }

/-- The head taken against a reservation of its bound: it leaves the buffer and the Decoder is executing. The taking
of a RECORD_DATA or RECORD_END stops the upload idle timer (R52, R185, R186). -/
def State.takeHead (item : InItem) (s : State) : State :=
  let kind := match item with
    | .frame kind _ => kind
    | .mark _ _ => 0
  let s1 : State :=
    { s with
      line := s.line.headTaken
      dec := { s.dec with
        state := .executing, reserved := some (replyBound item), kind := kind, taken := some item } }
  if isUploadRequest kind then s1.stopUploadTimer else s1

/-- The state in which a request's own rule runs: the frame taken is in execution, the upload timer stopped where the
request is one that stops it (R52). -/
def State.begun (kind : Byte) (s : State) : State :=
  let s1 : State := { s with dec := { s.dec with state := .executing, kind := kind, taken := none } }
  if isUploadRequest kind then s1.stopUploadTimer else s1

/-- The request of kind `code` executed: nothing happens unless the frame the Decoder has taken is of that kind (log
entries 1 and 4); a body its kind cannot take is refused (R186). -/
def State.onRequest (code : Nat) (run : List Byte → State → State) (s : State) : State :=
  match s.headItem with
  | some (.frame kind body) =>
    if kind.toNat = code then
      if bodyLengthOk kind body then run body (s.begun kind)
      else (s.begun kind).refuse .badLength 0
    else s
  | _ => s

end Sys2Proof.Machine
end

