-- ==== Sys2Proof/Machine/Operands.lean ====
section
/-! DEFINITION. The operands of the requests, read from their bodies (section 11.4), with the range
checks their rules make. -/

namespace Sys2Proof.Machine

/-- The number in `n` bytes of a body from an offset (R200). -/
def num (body : List Byte) (offset n : Nat) : Nat := ofBytes ((body.drop offset).take n)

/-- The byte of a body at an offset. -/
def byteAt (body : List Byte) (offset : Nat) : Byte := body.getD offset 0

/-- The record kind a code names (Table 11-10). -/
def recKindOf (code : Nat) : Option RecKind :=
  if code = 0x46 then some .format else if code = 0x47 then some .image
  else if code = 0x53 then some .table else none

/-- Largest extent of a kind in sectors (Table 1-2). -/
def largestExtent : RecKind → Nat
  | .format => 4
  | .image => 16
  | .table => 1

/-- Largest body of a kind: its largest extent times 4,096, less 32 (R3). -/
def largestBody (k : RecKind) : Nat := largestExtent k * Config.sectorSize - 32

/-- Extent length of a body: the body length plus 32, divided by 4,096 and rounded up (R3). -/
def extentOf (bodyLen : Nat) : Nat := (bodyLen + 32 + (Config.sectorSize - 1)) / Config.sectorSize

/-- A record number lies in 1 to 999 (R4). -/
def numberOk (n : Nat) : Bool := decide (1 ≤ n ∧ n ≤ 999)

/-- Kind and number of a RECORD_RETIRE, RECORD_QUERY or DIRECTORY_LIST, if in range (Table 11-13). -/
def nameOf (body : List Byte) : Option (RecKind × Nat) :=
  match recKindOf (num body 0 1) with
  | some k => if numberOk (num body 1 2) then some (k, num body 1 2) else none
  | none => none

/-- Kind, number, body length and lock of a RECORD_BEGIN, if in range (R53 case 2, R203). -/
def beginOf (body : List Byte) : Option (RecKind × Nat × Nat × Bool) :=
  match recKindOf (num body 0 1) with
  | none => none
  | some k =>
    let number := num body 1 2
    let len := num body 3 2
    let lock := num body 5 1
    if numberOk number && decide (lock ≤ 1) && decide (1 ≤ len ∧ len ≤ largestBody k) then
      some (k, number, len, lock == 1)
    else none

/-- A counter id lies in 1 to 64. -/
def counterIdOk (id : Nat) : Bool := decide (1 ≤ id ∧ id ≤ Config.counters)

/-- The base of an alphabet (Table 4-1). -/
def alphabetBase : Alphabet → Nat
  | .decimal => 10
  | .base36 => 36

/-- The ranges of Table 4-1 and the bounds of R85, case 1. -/
def CounterDef.valid (d : CounterDef) : Bool :=
  decide (1 ≤ d.width ∧ d.width ≤ 12) && decide (d.high < alphabetBase d.alphabet ^ d.width)
    && decide (d.low ≤ d.high) && decide (d.low ≤ d.start ∧ d.start ≤ d.high)
    && decide (1 ≤ d.step ∧ d.step ≤ 9999)

/-- The definition a COUNTER_DEFINE carries, unless a coded value or a range is wrong (R85, Table 11-13). -/
def counterDefOf (body : List Byte) : Option CounterDef :=
  let alphabet := num body 2 1
  let direction := num body 29 1
  let endAction := num body 30 1
  let policy := num body 31 1
  let d : CounterDef :=
    { width := num body 1 1
      alphabet := if alphabet = 0 then .decimal else .base36
      low := num body 3 8
      high := num body 11 8
      start := num body 19 8
      step := num body 27 2
      direction := if direction = 0 then .up else .down
      endAction := if endAction = 0 then .wrap else .halt
      policy := if policy = 0 then .gap else .reuse }
  if decide (alphabet ≤ 1 ∧ direction ≤ 1 ∧ endAction ≤ 1 ∧ policy ≤ 1) && d.valid then some d else none

/-- A value given where its presence bit is set, and the present one otherwise (Table 11-13). -/
def given {α : Type} (present : Bool) (value old : α) : α := if present then value else old

/-- A value is in range, or not given and so not judged (Table 11-13). -/
def judged (present ok : Bool) : Bool := !present || ok

/-- H1 to H3 lie in 4 to 16 (Table 8-4). -/
def historyOk (h : Nat) : Bool := decide (4 ≤ h ∧ h ≤ 16)

/-- The settings a SETTINGS_SET leaves, unless a value given lies outside its range or an unassigned
presence bit is set (R174 case 1, R200, Tables 8-4 and 11-13). P and G are not among them. -/
def settingsOf (body : List Byte) (old : Settings) : Option Settings :=
  let presence : BitVec 16 := BitVec.ofNat 16 (num body 0 2)
  let p := presence.getLsbD
  let media := num body 2 1
  let presentation := num body 3 1
  let distance := num body 4 1
  let offset := num body 5 2
  let auto := num body 7 1
  let idle := num body 8 2
  let h1 := num body 10 1
  let h2 := num body 11 1
  let h3 := num body 12 1
  if decide (num body 0 2 < 512) && judged (p 0) (decide (media ≤ 2)) && judged (p 1) (decide (presentation ≤ 2))
      && judged (p 2) (decide (distance ≤ 200)) && judged (p 3) (decide (offset ≤ 831))
      && judged (p 4) (decide (auto ≤ 1)) && judged (p 5) (decide (idle = 0 ∨ (5 ≤ idle ∧ idle ≤ 600)))
      && judged (p 6) (historyOk h1) && judged (p 7) (historyOk h2) && judged (p 8) (historyOk h3) then
    some { old with
      mediaType := given (p 0) (if media = 0 then .gap else if media = 1 then .mark else .continuous)
        old.mediaType
      presentation := given (p 1)
        (if presentation = 0 then .tear else if presentation = 1 then .peel else .stream) old.presentation
      presentDistance := given (p 2) distance old.presentDistance
      leftOffset := given (p 3) offset old.leftOffset
      autoResume := given (p 4) (auto == 1) old.autoResume
      idleTime := given (p 5) idle old.idleTime
      h1 := given (p 6) h1 old.h1
      h2 := given (p 7) h2 old.h2
      h3 := given (p 8) h3 old.h3 }
  else none

/-- `n` slots, each its number, its length and its characters, and the bytes after them (Table 11-8). -/
def parseSlots : Nat → List Byte → Option (List Slot × List Byte)
  | 0, bs => some ([], bs)
  | n + 1, number :: len :: rest =>
    if rest.length < len.toNat then none
    else
      match parseSlots n (rest.drop len.toNat) with
      | some (slots, left) =>
        some ({ number := number.toNat, text := rest.take len.toNat } :: slots, left)
      | none => none
  | _ + 1, _ => none

/-- A speed override: 0 as given, any other clamped to 50 to 250 and rounded down to a multiple of 25 (R94). -/
def speedOverride (v : Nat) : Nat := if v = 0 then 0 else (min 250 (max 50 v)) / 25 * 25

/-- The values of R96, case 2, that a JOB_SUBMIT's items must have. -/
def itemsOk (body : List Byte) (i : JobItems) : Bool :=
  decide (1 ≤ i.tag) && numberOk i.format && decide (1 ≤ i.quantity ∧ i.quantity ≤ 9999)
    && decide (1 ≤ i.copies ∧ i.copies ≤ 9) && decide (num body 7 1 ≤ 1) && decide (num body 8 1 ≤ 1)
    && decide (-10 ≤ i.darkness ∧ i.darkness ≤ 10) && decide (-64 ≤ i.shiftX ∧ i.shiftX ≤ 64)
    && decide (-64 ≤ i.shiftY ∧ i.shiftY ≤ 64) && decide (i.slots.length ≤ 32)
    && i.slots.all (fun s => decide (1 ≤ s.number ∧ s.number ≤ 32))
    && decide (i.slots.map Slot.number).Nodup

/-- The items of a JOB_SUBMIT, or the reason of R96, cases 1 and 2. -/
def jobItemsOf (body : List Byte) : Except Reason JobItems :=
  match parseSlots (num body 14 1) (body.drop 15) with
  | some (slots, []) =>
    if slots.all (fun s => decide (s.text.length ≤ 64)) then
      let items : JobItems :=
        { tag := num body 0 2
          format := num body 2 2
          quantity := num body 4 2
          copies := num body 6 1
          priority := if num body 7 1 = 0 then .normal else .rush
          noInterrupt := num body 8 1 == 1
          darkness := signed8 (byteAt body 9)
          speed := speedOverride (num body 10 2)
          shiftX := signed8 (byteAt body 12)
          shiftY := signed8 (byteAt body 13)
          slots := slots }
      if itemsOk body items then .ok items else .error .badValue
    else .error .badLength
  | _ => .error .badLength

end Sys2Proof.Machine
end

