-- ==== Sys2Proof/Machine/ArrayOps.lean ====
section
/-! DEFINITION. The flash array's accesses and the erase service (R1, R2, R17 to R23). -/

namespace Sys2Proof.Machine

/-- An access started on the free array at a time (R1). -/
def FlashArray.start (now : Nat) (a : Access) (arr : FlashArray) : FlashArray :=
  { arr with busy := some { access := a, started := now } }

/-- A suspension taken unless a progress window is open or one is already taken (R20, R21). -/
def EraseRun.takeSuspension (now : Nat) (r : EraseRun) : EraseRun :=
  if r.window = none ∧ r.suspension = none then { r with suspension := some now } else r

/-- An access arrives: it starts at once on a free array with no erase, waits otherwise, and takes a
suspension of an erase that runs with no progress window open (R1, R20, R21). -/
def FlashArray.arrive (now : Nat) (a : Access) (arr : FlashArray) : FlashArray :=
  match arr.erase with
  | .idle =>
    if arr.busy = none then arr.start now a else { arr with waiting := arr.waiting ++ [a] }
  | .erasing r =>
    { arr with waiting := arr.waiting ++ [a], erase := .erasing (r.takeSuspension now) }
  | .suspended _ _ => { arr with waiting := arr.waiting ++ [a] }

/-- The array passes on when an access has ended: to the next waiting access, or in a suspension to the
next one served in it, or to the erase, which resumes with a progress window of 2 ms (R1, R20). -/
def FlashArray.passOn (now : Nat) (arr : FlashArray) : FlashArray :=
  match arr.erase with
  | .suspended sector accumulated =>
    match arr.serving with
    | a :: rest => FlashArray.start now a { arr with serving := rest }
    | [] =>
      { arr with
        busy := none
        erase := .erasing { sector := sector, accumulated := accumulated, since := now,
                            window := some (now + Config.progressWindow), suspension := none } }
  | .erasing _ => { arr with busy := none }
  | .idle =>
    match arr.waiting with
    | a :: rest => FlashArray.start now a { arr with waiting := rest }
    | [] => { arr with busy := none }

/-- An access issued to the array (R1). -/
def State.issue (a : Access) (s : State) : State := { s with array := s.array.arrive s.now a }

/-- The array passes on in the state (R1, R20). -/
def State.passOn (s : State) : State := { s with array := s.array.passOn s.now }

/-- Accumulated erase time of a run at a time (R17). -/
def EraseRun.time (now : Nat) (r : EraseRun) : Nat := r.accumulated + (now - r.since)

/-- The page an access works on. -/
def AccessOp.page : AccessOp → Nat
  | .read p => p
  | .program a _ => a / Config.pageSize

/-- What a program asks for: the old content with the program's zeros applied (R2). -/
def programmed (old data : List Byte) : List Byte := List.zipWith (· &&& ·) old data

/-- What a program that ended left: as asked, or the bytes given, which can only have cleared bits (R2,
log entry 16). Bytes not given are as asked. -/
def leftBy (old asked : List Byte) : Option (List Byte) → List Byte
  | none => asked
  | some bs => List.zipWith (· &&& ·) old (bs ++ asked.drop bs.length)

/-- FREE VALUES: what a program cut short or not reported ended leaves, any part of its zeros applied
(R194, log entry 8). `at_` counts the free values used. -/
def partlyProgrammed (at_ : Nat) (old data : List Byte) : List Byte :=
  programmed old (data.zipIdx.map fun (d, i) => d ||| Config.freeByte (at_ + i))

/-- `n` FREE VALUES from a count (log entry 8). -/
def freeBytes (at_ n : Nat) : List Byte := (List.range n).map fun i => Config.freeByte (at_ + i)

/-- A program's page partly programmed (log entry 8). -/
def State.cutProgram (addr : Nat) (data : List Byte) (s : State) : State :=
  { s with
    flash := flashWriteAll s.flash addr
      (partlyProgrammed s.freeCount (flashRange s.flash addr data.length) data)
    freeCount := s.freeCount + data.length }

/-- A sector left part erased: every byte a free value (log entry 8). -/
def State.cutErase (sector : Nat) (s : State) : State :=
  { s with
    flash := flashWriteAll s.flash (sectorBase sector) (freeBytes s.freeCount Config.sectorSize)
    freeCount := s.freeCount + Config.sectorSize }

/-- The sector the erase service is on, running or suspended (R18). -/
def EraseService.sector : EraseService → Option Nat
  | .idle => none
  | .erasing r => some r.sector
  | .suspended sector _ => some sector

/-- Every array operation in progress ended without completing (R27, R192). -/
def State.cutArray (s : State) : State :=
  let s1 :=
    match s.array.busy with
    | some { access := { client := _, op := .program addr data }, started := _ } => s.cutProgram addr data
    | _ => s
  match s.array.erase.sector with
  | some sector => s1.cutErase sector
  | none => s1

/-- The renderer's accesses left to be carried out for nobody: its drawing has been abandoned (R125,
log entry 12). -/
def Access.orphaned (a : Access) : Access :=
  if a.client = .renderer then { a with client := .orphan } else a

/-- Every access of the renderer orphaned. -/
def FlashArray.orphanRenderer (arr : FlashArray) : FlashArray :=
  { arr with
    busy := arr.busy.map fun b => { b with access := b.access.orphaned }
    waiting := arr.waiting.map Access.orphaned
    serving := arr.serving.map Access.orphaned }

end Sys2Proof.Machine
end

