-- ==== Sys2Proof/Machine/StoreOps.lean ====
section
/-! DEFINITION. The Record Store's directory, number index, sector map, erase queue, pins and upload
context (chapters 1 and 3), and the programs it issues to record headers. -/

namespace Sys2Proof.Machine

/-! ## Sector map (R9) -/

/-- The state of a sector: FREE unless listed. -/
def sectorState : List (Nat × SectorState) → Nat → SectorState
  | [], _ => .free
  | (k, v) :: rest, n => if k = n then v else sectorState rest n

/-- The sector map with one sector's state set, FREE sectors unlisted and the rest in rising order. -/
def setSector : List (Nat × SectorState) → Nat → SectorState → List (Nat × SectorState)
  | [], n, v => if v = .free then [] else [(n, v)]
  | (k, w) :: rest, n, v =>
    if n < k then (if v = .free then (k, w) :: rest else (n, v) :: (k, w) :: rest)
    else if n = k then (if v = .free then rest else (n, v) :: rest)
    else (k, w) :: setSector rest n v

/-- Several sectors set to one state. -/
def setSectors (m : List (Nat × SectorState)) (ns : List Nat) (v : SectorState) : List (Nat × SectorState) :=
  ns.foldl (fun acc n => setSector acc n v) m

/-- The sectors of an extent, rising. -/
def extentSectors (first len : Nat) : List Nat := (List.range len).map fun i => first + i

/-- The number of sectors in a state (R26). -/
def countSectors (m : List (Nat × SectorState)) (v : SectorState) : Nat :=
  (List.range Config.sectors).countP fun n => decide (sectorState m n = v)

/-- The erase backlog: the queue's sectors and the one ERASING (R10). -/
def State.backlog (s : State) : Nat :=
  s.store.eraseQueue.length + (if s.array.erase = .idle then 0 else 1)

/-- The lowest-numbered run of `n` FREE sectors (R11). -/
def freeRun (m : List (Nat × SectorState)) (n : Nat) : Option Nat :=
  (List.range (Config.sectors + 1 - n)).find? fun f =>
    (extentSectors f n).all fun i => decide (sectorState m i = .free)

/-- The length of the FREE run that begins at a sector, looking at most `fuel` sectors on. -/
def runLength (m : List (Nat × SectorState)) : Nat → Nat → Nat
  | 0, _ => 0
  | fuel + 1, f => if sectorState m f = .free then runLength m fuel (f + 1) + 1 else 0

/-- Length and first sector of the largest FREE run, the lowest such, or 0 and 0 (R26). -/
def largestRun (m : List (Nat × SectorState)) : Nat × Nat :=
  (List.range Config.sectors).foldl
    (fun best f =>
      let len := runLength m (Config.sectors - f) f
      if best.1 < len then (len, f) else best) (0, 0)

/-! ## Directory and number index (R6 to R8) -/

/-- The version an entry stands for. -/
def DirEntry.ref (e : DirEntry) : RecRef := { kind := e.kind, number := e.number, revision := e.revision }

/-- An entry of a kind and number. -/
def DirEntry.named (e : DirEntry) (k : RecKind) (n : Nat) : Bool := decide (e.kind = k ∧ e.number = n)

/-- The entry of a version, reached directly (R8). -/
def RecordStore.entry (st : RecordStore) (r : RecRef) : Option DirEntry :=
  st.directory.find? fun e => decide (e.ref = r)

/-- The entry the number index maps a kind and number to (R8). -/
def RecordStore.live (st : RecordStore) (k : RecKind) (n : Nat) : Option DirEntry :=
  match st.index.find? fun i => decide (i.kind = k ∧ i.number = n) with
  | some i => st.directory.find? fun e => decide (e.firstSector = i.firstSector)
  | none => none

/-- The index without a kind and number. -/
def dropIndex (ix : List IndexEntry) (k : RecKind) (n : Nat) : List IndexEntry :=
  ix.filter fun i => !decide (i.kind = k ∧ i.number = n)

/-- Entries in ascending order of first sector. -/
def bySector (es : List DirEntry) : List DirEntry :=
  es.insertionSort fun a b => a.firstSector ≤ b.firstSector

/-- Entries become DEAD: they leave the directory, and their sectors leave HELD and join the tail of the
erase queue, extent after extent in ascending order of first sector (R7). -/
def RecordStore.kill (dead : List DirEntry) (st : RecordStore) : RecordStore :=
  let sectors := (bySector dead).flatMap fun e => extentSectors e.firstSector e.extentLen
  { st with
    directory := st.directory.filter fun e => !dead.contains e
    sectorMap := setSectors st.sectorMap sectors .queued
    eraseQueue := st.eraseQueue ++ sectors }

/-- The revisions counted for a kind and number (R54). -/
def RecordStore.countedRevisions (st : RecordStore) (k : RecKind) (n : Nat) : List Nat :=
  (st.directory.filter fun e => e.named k n).map DirEntry.revision
    ++ (st.failedStale.filter fun f => decide (f.kind = k ∧ f.number = n)).map FailedStale.revision

/-- The highest revision counted, or 0 (R54). -/
def RecordStore.highestRevision (st : RecordStore) (k : RecKind) (n : Nat) : Nat :=
  (st.countedRevisions k n).foldl max 0

/-- An entry changed in place, found by its version. -/
def RecordStore.update (r : RecRef) (f : DirEntry → DirEntry) (st : RecordStore) : RecordStore :=
  { st with directory := st.directory.map fun (e : DirEntry) => if e.ref = r then f e else e }

/-! ## Pins (R12 to R16) -/

/-- One pin more on each entry named (R13). -/
def RecordStore.pin (refs : List RecRef) (st : RecordStore) : RecordStore :=
  { st with
    directory := st.directory.map fun (e : DirEntry) => if refs.contains e.ref then { e with pins := e.pins + 1 } else e }

/-- A SUPERSEDED or RETIRED entry. -/
def DirEntry.old (e : DirEntry) : Bool := decide (e.state = .superseded ∨ e.state = .retired)

/-- A release: each entry named loses one pin; a SUPERSEDED or RETIRED one that reaches zero becomes DEAD
(R14). -/
def RecordStore.release (refs : List RecRef) (st : RecordStore) : RecordStore :=
  let st1 := { st with
    directory := st.directory.map fun (e : DirEntry) => if refs.contains e.ref then { e with pins := e.pins - 1 } else e }
  st1.kill (st1.directory.filter fun e => refs.contains e.ref && e.old && e.pins == 0)

/-- A replace of the last-label binding: the new entries are pinned first, then the previous released (R15). -/
def RecordStore.replace (new previous : List RecRef) (st : RecordStore) : RecordStore :=
  (st.pin new).release previous

/-- A bind request: each name's LIVE entry gains one pin, or the first name with none is answered (R13). -/
def RecordStore.bind (names : List (RecKind × Nat)) (st : RecordStore) :
    Except (RecKind × Nat) (List RecRef × RecordStore) :=
  match names.find? fun n => (st.live n.1 n.2).isNone with
  | some n => .error n
  | none =>
    let refs := (names.filterMap fun n => (st.live n.1 n.2).map DirEntry.ref).eraseDups
    .ok (refs, st.pin refs)

/-! ## Uploads and programs of headers (R4, R5, R65) -/

/-- The directory entry of the open upload (R51). -/
def RecordStore.writing (st : RecordStore) : Option DirEntry :=
  st.directory.find? fun e => decide (e.state = .writing)

/-- The open upload abandoned: its entry DEAD, its sectors queued, the context EMPTY (R65). -/
def RecordStore.abandon (st : RecordStore) : RecordStore :=
  let st1 := st.kill (st.directory.filter fun e => decide (e.state = .writing))
  { st1 with upload := none }

/-- The data of the header program: marker WRITING, kind, number, revision, extent length, lock, body
length (R4, R203, Table 11-10). -/
def headerData (e : DirEntry) : List Byte :=
  [0x0F, byte (recKindCode e.kind)] ++ toBytes 2 e.number ++ toBytes 2 e.revision
    ++ [byte e.extentLen, if e.lock then 0x00 else 0xFF] ++ toBytes 2 e.bodyLen

/-- The data of the commit program: marker LIVE and the body check, the bytes between unchanged (R4). -/
def commitData (check : Nat) : List Byte := 0x03 :: List.replicate 9 0xFF ++ toBytes 2 check

/-- The data of the stale program: marker STALE (R4). -/
def staleData : List Byte := [0x00]

/-- A program of a header page, by its extent's first sector. -/
def headerAccess (client : Client) (firstSector : Nat) (data : List Byte) : Access :=
  { client := client, op := .program (sectorBase firstSector) data }

/-- Address of a body byte: first sector × 4,096 + 32 + i (section 1.2). -/
def bodyAddr (firstSector i : Nat) : Nat := sectorBase firstSector + 32 + i

/-- The bytes of a body as they stand in flash. -/
def bodyBytes (m : Memory) (firstSector bodyLen : Nat) : List Byte :=
  flashRange m (bodyAddr firstSector 0) bodyLen

/-- The pages from one address to another, rising. -/
def pagesOf (first last : Nat) : List Nat :=
  (List.range (last / Config.pageSize + 1 - first / Config.pageSize)).map fun i => first / Config.pageSize + i

/-- The pages body bytes `from_` to `from_ + n - 1` lie in, rising (R1). -/
def bodyPages (firstSector from_ n : Nat) : List Nat :=
  if n = 0 then [] else pagesOf (bodyAddr firstSector from_) (bodyAddr firstSector (from_ + n - 1))

/-- The body of an entry as it stands in flash. -/
def State.entryBody (s : State) (e : DirEntry) : List Byte := bodyBytes s.flash e.firstSector e.bodyLen

/-- The body of a version, empty where the directory has no such entry. -/
def State.refBody (s : State) (r : RecRef) : List Byte :=
  match s.store.entry r with
  | some e => s.entryBody e
  | none => []

/-- Data cut at page boundaries, one piece a page, in ascending order (R57). `fuel` bounds the pieces. -/
def cutPages : Nat → Nat → List Byte → List (Nat × List Byte)
  | 0, _, _ => []
  | fuel + 1, addr, bs =>
    let room := Config.pageSize - addr % Config.pageSize
    if bs.length ≤ room then [(addr, bs)]
    else (addr, bs.take room) :: cutPages fuel (addr + room) (bs.drop room)

end Sys2Proof.Machine
end

