-- ==== Sys2Proof/Machine/Content.lean ====
section
/-! DEFINITION. Content validation at commit (R45 to R49): one pass over a body, item by item, judged as
the bytes are read. -/

namespace Sys2Proof.Machine

/-- What judging one item of a pass gives. -/
inductive PassStep where
  /-- the item's bytes have not all been read yet -/
  | more
  /-- the item passes, and the pass goes on -/
  | go (p : Pass)
  /-- the first fault, with the offset reported (R46) -/
  | fault (offset : Nat)
  /-- the end of the body is reached exactly with every check passed (R46) -/
  | passed
  deriving DecidableEq, Repr

/-- The pass at the start of a body of a kind. -/
def Pass.begin (k : RecKind) : Pass :=
  { offset := 0
    item := match k with
      | .format => .labelLength
      | .image => .imageWidth
      | .table => .model
    ids := [], codes := [], values := [], fixedTotal := 0, fieldsLeft := 0, kindCode := 0,
    paramIndex := 0, partsLeft := 0, partCode := 0, width := 0, height := 0, modelCode := 0,
    perCharCount := 0, gapCount := 0, minLen := 0, rule := .none, modulusValue := 0, entriesLeft := 0 }

/-- An item of `n` bytes: a body that ends before it is a fault at the body length (R46). DESIGN CHOICE: also where a
character or an element of the item that the body does hold is already bad (log entry 54). -/
def Pass.need (p : Pass) (bodyLen : Nat) (avail : List Byte) (n : Nat) (k : PassStep) : PassStep :=
  if bodyLen < p.offset + n then .fault bodyLen else if avail.length < n then .more else k

/-- The pass past an item of `n` bytes. -/
def Pass.advance (p : Pass) (n : Nat) (next : Item) : Pass :=
  { p with offset := p.offset + n, item := next }

/-- An item that passes or faults at its own first byte. -/
def Pass.judge (p : Pass) (good : Bool) (next : Pass) : PassStep := if good then .go next else .fault p.offset

/-- A number lies within a range, both ends included. -/
def within (lo hi v : Nat) : Bool := decide (lo ≤ v ∧ v ≤ hi)

/-- A text character's code (section 1.4). -/
def textCode (b : Byte) : Bool := within 32 126 b.toNat

/-- Size and range of each kind parameter, by field kind code, in order (Tables 2-3 and 11-11). A maximum
width of 0 is none (R200). -/
def fieldParams (kindCode : Nat) : List (Nat × Nat × Nat) :=
  if kindCode = 1 then [(1, 1, 4), (1, 1, 8), (1, 1, 8), (2, 0, 832)]
  else if kindCode = 2 then
    [(2, 1, 999), (1, 1, 10), (2, 8, 4000), (1, 20, 30), (1, 0, 3), (1, 0, 20), (1, 0, 1), (2, 0, 832)]
  else if kindCode = 3 then [(2, 1, 4000), (2, 1, 4000), (2, 1, 4000)]
  else if kindCode = 4 then [(2, 1, 4000), (2, 1, 4000)]
  else [(2, 1, 999), (1, 1, 4)]

/-- The pass at the end of a field: the next field, or the end of the body. -/
def Pass.endField (p : Pass) : Pass :=
  { p with fieldsLeft := p.fieldsLeft - 1, item := if p.fieldsLeft ≤ 1 then .finish else .fieldId }

/-- The pass after a kind parameter: the next one, the source of a TEXT or BARCODE field, or the field's end. -/
def Pass.endParam (p : Pass) : Pass :=
  if p.paramIndex + 1 < (fieldParams p.kindCode).length then
    { p with paramIndex := p.paramIndex + 1, item := .param }
  else if p.kindCode ≤ 2 then { p with item := .partCount }
  else p.endField

/-- The pass after a source part: the next one, or the field's end. -/
def Pass.endPart (p : Pass) : Pass :=
  if 1 < p.partsLeft then { p with partsLeft := p.partsLeft - 1, item := .partKind }
  else Pass.endField { p with partsLeft := 0 }

/-- The check rule of a code: 00h NONE, 01h RIGHT_WEIGHTED, 02h LEFT_POSITIONAL (section 11.5). Content validation
lets no other code pass (R49). -/
def checkRuleOf (code : Nat) : CheckRule :=
  if code = 1 then .rightWeighted else if code = 2 then .leftPositional else .none

/-- An element lies within the table's element model (R49). -/
def elementOk (modelCode : Nat) (b : Byte) : Bool :=
  if modelCode = 1 then within 1 2 b.toNat else within 1 4 b.toNat

/-- An element count has the parity the gap asks for: even with a gap of 0, odd otherwise (R41). -/
def parityOk (gap count : Nat) : Bool := if gap = 0 then count % 2 == 0 else count % 2 == 1

/-- A start or stop pattern: its count and its elements are one item (Table 2-12). DESIGN CHOICE: a count out of range
or of the wrong parity is a fault at the pattern's own offset, also where that many elements would run past the body
end (log entry 54). -/
def Pass.pattern (p : Pass) (bodyLen : Nat) (avail : List Byte) (parity : Bool) (next : Item) : PassStep :=
  p.need bodyLen avail 1 <|
    let count := num avail 0 1
    if within 1 16 count && (!parity || parityOk p.gapCount count) then
      p.need bodyLen avail (1 + count) <|
        p.judge (((avail.drop 1).take count).all (elementOk p.modelCode)) (p.advance (1 + count) next)
    else .fault p.offset

/-- A source part after its kind (Table 2-10). DESIGN CHOICE: a FIXED length out of range, or past the 64 characters of
the field, is a fault at the length's own offset, also where that many characters would run past the body end (log
entry 54). -/
def Pass.sourcePart (p : Pass) (bodyLen : Nat) (avail : List Byte) : PassStep :=
  p.need bodyLen avail 1 <|
    let v := num avail 0 1
    if p.partCode = 1 then
      if within 1 64 v && decide (p.fixedTotal + v ≤ 64) then
        p.need bodyLen avail (1 + v) <|
          p.judge (((avail.drop 1).take v).all textCode)
            (Pass.endPart { p with offset := p.offset + 1 + v, fixedTotal := p.fixedTotal + v })
      else .fault p.offset
    else p.judge (within 1 (if p.partCode = 2 then 32 else 64) v)
      (Pass.endPart { p with offset := p.offset + 1 })

/-- An item that is one number of `n` bytes. -/
def Pass.number (p : Pass) (bodyLen : Nat) (avail : List Byte) (n : Nat) (good : Nat → Bool)
    (next : Nat → Pass) : PassStep :=
  p.need bodyLen avail n (p.judge (good (num avail 0 n)) (next (num avail 0 n)))

/-- One item judged (R46 to R49). `avail` holds the bytes read from the pass's offset on. -/
def Pass.step (p : Pass) (bodyLen : Nat) (avail : List Byte) : PassStep :=
  match p.item with
  | .labelLength => p.number bodyLen avail 2 (within 8 4000) fun _ => p.advance 2 .labelWidth
  | .labelWidth => p.number bodyLen avail 2 (within 8 832) fun _ => p.advance 2 .darkness
  | .darkness => p.number bodyLen avail 1 (within 0 30) fun _ => p.advance 1 .speed
  | .speed =>
    p.number bodyLen avail 1 (fun v => within 50 250 v && v % 25 == 0) fun _ => p.advance 1 .fieldCount
  | .fieldCount =>
    p.number bodyLen avail 1 (within 1 128) fun v => { p.advance 1 .fieldId with fieldsLeft := v }
  | .fieldId =>
    p.number bodyLen avail 1 (fun v => within 1 128 v && !p.ids.contains v) fun v =>
      { p.advance 1 .fieldKind with ids := p.ids ++ [v] }
  | .fieldKind => p.number bodyLen avail 1 (within 1 5) fun v => { p.advance 1 .originX with kindCode := v }
  | .originX => p.number bodyLen avail 2 (within 0 831) fun _ => p.advance 2 .originY
  | .originY => p.number bodyLen avail 2 (within 0 3999) fun _ => p.advance 2 .rotation
  | .rotation => p.number bodyLen avail 1 (within 0 3) fun _ => p.advance 1 .drawMode
  | .drawMode => p.number bodyLen avail 1 (within 0 1) fun _ => { p.advance 1 .param with paramIndex := 0 }
  | .param =>
    let row := (fieldParams p.kindCode).getD p.paramIndex (1, 0, 255)
    p.number bodyLen avail row.1 (within row.2.1 row.2.2) fun _ => (p.advance row.1 .param).endParam
  | .partCount =>
    p.number bodyLen avail 1 (within 1 4) fun v =>
      { p.advance 1 .partKind with partsLeft := v, fixedTotal := 0 }
  | .partKind => p.number bodyLen avail 1 (within 1 3) fun v => { p.advance 1 .part with partCode := v }
  | .part => p.sourcePart bodyLen avail
  | .imageWidth =>
    p.number bodyLen avail 2 (within 1 832) fun v => { p.advance 2 .imageHeight with width := v }
  | .imageHeight => p.number bodyLen avail 2 (within 1 4000) fun v => { p.advance 2 .rows with height := v }
  | .rows =>
    let n := p.height * ((p.width + 7) / 8)
    p.need bodyLen avail n (.go (p.advance n .finish))
  | .model => p.number bodyLen avail 1 (within 1 2) fun v => { p.advance 1 .perChar with modelCode := v }
  | .perChar =>
    p.number bodyLen avail 1 (within 3 12) fun v => { p.advance 1 .gap with perCharCount := v }
  | .gap =>
    p.need bodyLen avail 1 <|
      let v := num avail 0 1
      if within 0 3 v && !parityOk v p.perCharCount then .fault (p.offset - 1)
      else
        p.judge (within 0 3 v && (p.modelCode == 1 || v == 0)) { p.advance 1 .minLength with gapCount := v }
  | .minLength => p.number bodyLen avail 1 (within 1 48) fun v => { p.advance 1 .maxLength with minLen := v }
  | .maxLength => p.number bodyLen avail 1 (within p.minLen 48) fun _ => p.advance 1 .rule
  | .rule => p.number bodyLen avail 1 (within 0 2) fun v => { p.advance 1 .modulus with rule := checkRuleOf v }
  | .modulus =>
    p.number bodyLen avail 1 (fun v => p.rule == .none || within 2 128 v) fun v =>
      { p.advance 1 .weightA with modulusValue := v }
  | .weightA => p.number bodyLen avail 1 (fun v => p.rule != .rightWeighted || within 1 9 v) fun _ => p.advance 1 .weightB
  | .weightB =>
    p.number bodyLen avail 1 (fun v => p.rule != .rightWeighted || within 1 9 v) fun _ => p.advance 1 .startConstant
  | .startConstant =>
    p.number bodyLen avail 1 (fun v => p.rule != .leftPositional || decide (v < p.modulusValue)) fun _ =>
      p.advance 1 .checkShown
  | .checkShown => p.number bodyLen avail 1 (within 0 1) fun _ => p.advance 1 .startPattern
  | .startPattern => p.pattern bodyLen avail true .stopPattern
  | .stopPattern => p.pattern bodyLen avail false .entryCount
  | .entryCount =>
    p.number bodyLen avail 1 (fun v => within 1 128 v && (p.rule == .none || v == p.modulusValue)) fun v =>
      { p.advance 1 .entryCode with entriesLeft := v }
  | .entryCode =>
    p.number bodyLen avail 1 (fun v => within 32 126 v && !p.codes.contains v) fun v =>
      { p.advance 1 .entryValue with codes := p.codes ++ [v] }
  | .entryValue =>
    p.number bodyLen avail 1
      (fun v => if p.rule = .none then decide (v ≤ 127)
        else decide (v < p.modulusValue) && !p.values.contains v) fun v =>
      { p.advance 1 .entryElements with values := p.values ++ [v] }
  | .entryElements =>
    p.need bodyLen avail p.perCharCount <|
      p.judge ((avail.take p.perCharCount).all (elementOk p.modelCode))
        { p.advance p.perCharCount (if p.entriesLeft ≤ 1 then .finish else .entryCode) with
          entriesLeft := p.entriesLeft - 1 }
  | .finish => if p.offset = bodyLen then .passed else .fault p.offset

/-- The pass run over the bytes read so far, until it ends or needs more. Every item but the end takes at
least one byte, so `fuel` above the body length is enough. -/
def Pass.run (bodyLen : Nat) (read : List Byte) : Nat → Pass → PassStep
  | 0, p => .go p
  | fuel + 1, p =>
    match p.step bodyLen (read.drop p.offset) with
    | .more => .go p
    | .go q => Pass.run bodyLen read fuel q
    | .fault o => .fault o
    | .passed => .passed

/-- The outcome of the pass over a whole body: none when it passes, the offset of its first fault
otherwise (R46). -/
def validateBody (k : RecKind) (body : List Byte) : Option Nat :=
  match Pass.run body.length body (body.length + 2) (Pass.begin k) with
  | .passed => none
  | .fault o => some o
  | .go p => some p.offset
  | .more => some 0

end Sys2Proof.Machine
end

