-- ==== Sys2Proof/Machine/Records.lean ====
section
/-! DEFINITION. Record bodies read as formats, images and symbol tables (chapter 2, section 11.5). The
readers rely on the content checks made at commit (R28) and read a body as far as it goes. -/

namespace Sys2Proof.Machine

/-- Draw modes (R30). -/
inductive DrawMode where
  | set | invert
  deriving DecidableEq, Repr

/-- A part of a source (Table 2-4). -/
inductive SourcePart where
  | fixed (text : List Byte)
  | slot (number : Nat)
  | counter (id : Nat)
  deriving DecidableEq, Repr

/-- What a field draws, with its parameters (Table 2-3). A maximum width of 0 is none. -/
inductive FieldKind where
  | text (font hMag vMag maxWidth : Nat) (source : List SourcePart)
  | barcode (table module_ barHeight ratio reduction quiet : Nat) (readable : Bool) (maxWidth : Nat)
      (source : List SourcePart)
  | box (width height thickness : Nat)
  | line (length thickness : Nat)
  | image (number magnification : Nat)
  deriving DecidableEq, Repr

/-- A field descriptor (Table 2-2); the rotation is 0 to 3 for 0, 90, 180, 270 degrees. -/
structure Field where
  id : Nat
  originX : Nat
  originY : Nat
  rotation : Nat
  mode : DrawMode
  kind : FieldKind
  deriving DecidableEq, Repr

/-- A format (Table 2-1). -/
structure Format where
  length : Nat
  width : Nat
  darkness : Nat
  speed : Nat
  fields : List Field
  deriving DecidableEq, Repr

/-- An image (Table 2-6). -/
structure Image where
  width : Nat
  height : Nat
  rows : List Byte
  deriving DecidableEq, Repr

/-- A character entry of a symbol table (R41). -/
structure TableEntry where
  code : Nat
  value : Nat
  elements : List Nat
  deriving DecidableEq, Repr

/-- A symbol table (Table 2-7); `model` 1 is TWO_WIDTH. -/
structure SymbolTable where
  model : Nat
  perChar : Nat
  gap : Nat
  minLen : Nat
  maxLen : Nat
  rule : CheckRule
  modulus : Nat
  weightA : Nat
  weightB : Nat
  startConstant : Nat
  shown : Bool
  start : List Nat
  stop : List Nat
  entries : List TableEntry
  deriving DecidableEq, Repr

/-- `n` source parts and the bytes after them (section 11.5). -/
def parseParts : Nat → List Byte → List SourcePart × List Byte
  | 0, bs => ([], bs)
  | n + 1, bs =>
    let v := num bs 1 1
    let code := num bs 0 1
    let part : SourcePart × List Byte :=
      if code = 1 then (.fixed ((bs.drop 2).take v), bs.drop (2 + v))
      else if code = 2 then (.slot v, bs.drop 2)
      else (.counter v, bs.drop 2)
    let tail := parseParts n part.2
    (part.1 :: tail.1, tail.2)

/-- A source: its part count and its parts. -/
def parseSource (bs : List Byte) : List SourcePart × List Byte := parseParts (num bs 0 1) (bs.drop 1)

/-- A field descriptor and the bytes after it (section 11.5, Table 11-11). -/
def parseField (bs : List Byte) : Field × List Byte :=
  let code := num bs 1 1
  let params := bs.drop 8
  let kind : FieldKind × List Byte :=
    if code = 1 then
      let src := parseSource (params.drop 5)
      (.text (num params 0 1) (num params 1 1) (num params 2 1) (num params 3 2) src.1, src.2)
    else if code = 2 then
      let src := parseSource (params.drop 11)
      (.barcode (num params 0 2) (num params 2 1) (num params 3 2) (num params 5 1) (num params 6 1)
        (num params 7 1) (num params 8 1 == 1) (num params 9 2) src.1, src.2)
    else if code = 3 then (.box (num params 0 2) (num params 2 2) (num params 4 2), params.drop 6)
    else if code = 4 then (.line (num params 0 2) (num params 2 2), params.drop 4)
    else (.image (num params 0 2) (num params 2 1), params.drop 3)
  ({ id := num bs 0 1
     originX := num bs 2 2
     originY := num bs 4 2
     rotation := num bs 6 1
     mode := if num bs 7 1 = 0 then .set else .invert
     kind := kind.1 }, kind.2)

/-- `n` field descriptors, in draw order (R29). -/
def parseFields : Nat → List Byte → List Field
  | 0, _ => []
  | n + 1, bs => (parseField bs).1 :: parseFields n (parseField bs).2

/-- A format body (section 11.5). -/
def parseFormat (bs : List Byte) : Format :=
  { length := num bs 0 2
    width := num bs 2 2
    darkness := num bs 4 1
    speed := num bs 5 1
    fields := parseFields (num bs 6 1) (bs.drop 7) }

/-- An image body (R39). -/
def parseImage (bs : List Byte) : Image :=
  { width := num bs 0 2, height := num bs 2 2, rows := bs.drop 4 }

/-- Bytes as numbers. -/
def byteNats (bs : List Byte) : List Nat := bs.map BitVec.toNat

/-- `n` character entries of `k` elements each. -/
def parseEntries (k : Nat) : Nat → List Byte → List TableEntry
  | 0, _ => []
  | n + 1, bs =>
    { code := num bs 0 1, value := num bs 1 1, elements := byteNats ((bs.drop 2).take k) }
      :: parseEntries k n (bs.drop (2 + k))

/-- A symbol table body (section 11.5). -/
def parseTable (bs : List Byte) : SymbolTable :=
  let startCount := num bs 11 1
  let afterStart := bs.drop (12 + startCount)
  let stopCount := num afterStart 0 1
  let afterStop := afterStart.drop (1 + stopCount)
  { model := num bs 0 1
    perChar := num bs 1 1
    gap := num bs 2 1
    minLen := num bs 3 1
    maxLen := num bs 4 1
    rule := checkRuleOf (num bs 5 1)
    modulus := num bs 6 1
    weightA := num bs 7 1
    weightB := num bs 8 1
    startConstant := num bs 9 1
    shown := num bs 10 1 == 1
    start := byteNats ((bs.drop 12).take startCount)
    stop := byteNats ((afterStart.drop 1).take stopCount)
    entries := parseEntries (num bs 1 1) (num afterStop 0 1) (afterStop.drop 1) }

/-- The source of a field, empty where it has none. -/
def Field.source (f : Field) : List SourcePart :=
  match f.kind with
  | .text _ _ _ _ src => src
  | .barcode _ _ _ _ _ _ _ _ src => src
  | _ => []

/-- The counters a source names, in order. -/
def sourceCounters (src : List SourcePart) : List Nat :=
  src.filterMap fun p => match p with
    | .counter id => some id
    | _ => none

/-- The images and symbol tables of the reference set, images first, in order of first appearance (R37). -/
def Format.records (f : Format) : List (RecKind × Nat) :=
  (f.fields.filterMap fun x => match x.kind with
    | .image n _ => some (RecKind.image, n)
    | _ => none).eraseDups
  ++ (f.fields.filterMap fun x => match x.kind with
    | .barcode n _ _ _ _ _ _ _ _ => some (RecKind.table, n)
    | _ => none).eraseDups

/-- The counters of the reference set, in order of first appearance (R37). -/
def Format.counterSet (f : Format) : List Nat :=
  (f.fields.flatMap fun x => sourceCounters x.source).eraseDups

end Sys2Proof.Machine
end

