-- ==== Sys2Proof/Machine/Geometry.lean ====
section
/-! DEFINITION. Counter values and source values as characters, barcode geometry and check characters
(R31, R75, R98, R99, R134 to R139). -/

namespace Sys2Proof.Machine

/-! ## Characters (R31, R75) -/

/-- The character of a digit: 0 to 9, then A to Z (R75). -/
def digitChar (d : Nat) : Nat := if d < 10 then 48 + d else 55 + d

/-- A counter value as exactly `width` characters, padded with 0 (R75). -/
def counterText (value width : Nat) (a : Alphabet) : List Nat :=
  (List.range width).map fun i => digitChar (value / alphabetBase a ^ (width - 1 - i) % alphabetBase a)

/-- The characters an alphabet holds. -/
def alphabetChars (a : Alphabet) : List Nat := (List.range (alphabetBase a)).map digitChar

/-- A job's string in a slot, empty where it gave none (Table 2-4). -/
def slotText (slots : List Slot) (n : Nat) : List Nat :=
  match slots.find? fun s => s.number == n with
  | some s => byteNats s.text
  | none => []

/-- The characters a part shows for a label (Table 2-4, R128). -/
def partText (slots : List Slot) (values : List Drawn) : SourcePart → List Nat
  | .fixed text => byteNats text
  | .slot n => slotText slots n
  | .counter id =>
    match values.find? fun v => v.counter == id with
    | some v => counterText v.value v.width v.alphabet
    | none => []

/-- A source value: the parts' values joined, cut to 64 characters (R31). -/
def sourceText (slots : List Slot) (values : List Drawn) (src : List SourcePart) : List Nat :=
  (src.flatMap (partText slots values)).take 64

/-! ## Elements (R134, R135) -/

/-- Width of an element in dots: TWO_WIDTH narrow or wide, MULTI_WIDTH modules (R134). -/
def elementWidth (model m ratio element : Nat) : Nat :=
  if model = 1 then (if element = 2 then max (m + 1) ((m * ratio + 5) / 10) else m) else element * m

/-- Width of a pattern in dots. -/
def patternWidth (model m ratio : Nat) (elements : List Nat) : Nat :=
  (elements.map (elementWidth model m ratio)).sum

/-- The entry of a code. -/
def SymbolTable.byCode (t : SymbolTable) (code : Nat) : Option TableEntry :=
  t.entries.find? fun e => e.code == code

/-- The entry of a value. -/
def SymbolTable.byValue (t : SymbolTable) (value : Nat) : Option TableEntry :=
  t.entries.find? fun e => e.value == value

/-- The values of data characters. -/
def SymbolTable.dataValues (t : SymbolTable) (data : List Nat) : List Nat :=
  data.map fun c => match t.byCode c with
    | some e => e.value
    | none => 0

/-- The weighted sum of RIGHT_WEIGHTED: wA, wB, wA, … from the rightmost character (R137). -/
def rightWeighted (wA wB : Nat) (values : List Nat) : Nat :=
  (values.reverse.zipIdx.map fun (v, i) => v * (if i % 2 = 0 then wA else wB)).sum

/-- The weighted sum of LEFT_POSITIONAL: position 1 at the left (R137). -/
def leftPositional (k0 : Nat) (values : List Nat) : Nat :=
  k0 + (values.zipIdx.map fun (v, i) => v * (i + 1)).sum

/-- The check value, or none under NONE (R137). -/
def SymbolTable.checkValue (t : SymbolTable) (data : List Nat) : Option Nat :=
  match t.rule with
  | .none => none
  | .rightWeighted =>
    some ((t.modulus - rightWeighted t.weightA t.weightB (t.dataValues data) % t.modulus) % t.modulus)
  | .leftPositional => some (leftPositional t.startConstant (t.dataValues data) % t.modulus)

/-- The check character's entry: the one whose value equals the check value (R137). -/
def SymbolTable.checkEntry (t : SymbolTable) (data : List Nat) : Option TableEntry :=
  match t.checkValue data with
  | some v => t.byValue v
  | none => none

/-- The patterns of a symbol in order: start, data, check, stop (R135). -/
def SymbolTable.patterns (t : SymbolTable) (data : List Nat) : List (List Nat) :=
  [t.start]
    ++ data.map (fun c => match t.byCode c with
        | some e => e.elements
        | none => [])
    ++ (match t.checkEntry data with
        | some e => [e.elements]
        | none => [])
    ++ [t.stop]

/-- Width of a symbol of patterns of the given widths: their sum and the gaps between them (R135). -/
def symbolWidth (gapWidth : Nat) (widths : List Nat) : Nat :=
  widths.sum + (widths.length - 1) * gapWidth

/-- The bars of one pattern from a column: left edge and width, each less the reduction (R135, R136). -/
def patternBars (model m ratio reduction : Nat) : Bool → Nat → List Nat → List (Nat × Nat)
  | _, _, [] => []
  | bar, left, e :: es =>
    let w := elementWidth model m ratio e
    let rest := patternBars model m ratio reduction (!bar) (left + w) es
    if bar then (left, w - reduction) :: rest else rest

/-- The bars of the patterns of a symbol, laid out from a column with a gap between each two (R135). -/
def symbolBars (model m ratio reduction gapWidth : Nat) : Nat → List (List Nat) → List (Nat × Nat)
  | _, [] => []
  | left, p :: ps =>
    patternBars model m ratio reduction true left p
      ++ symbolBars model m ratio reduction gapWidth (left + patternWidth model m ratio p + gapWidth) ps

/-- Bar reduction clamped to one less than the narrow width (R136). -/
def clampReduction (b m : Nat) : Nat := min b (m - 1)

/-- The human-readable text: the data, and the check character where the rule and the table show it (R138). -/
def SymbolTable.readableText (t : SymbolTable) (data : List Nat) : List Nat :=
  match t.checkEntry data with
  | some e => if t.shown then data ++ [e.code] else data
  | none => data

/-! ## Footprint at binding (R98, R99) -/

/-- A character a source can produce at a position: a known one, or any of an alphabet. -/
inductive CanProduce where
  | known (code : Nat)
  | any (a : Alphabet)
  deriving DecidableEq, Repr

/-- The alphabet and width of a counter of the table (R79's look-up). -/
def counterShape (b : Battery) (id : Nat) : Nat × Alphabet :=
  match b.counters[id - 1]? with
  | some c => (c.defn.width, c.defn.alphabet)
  | none => (0, .decimal)

/-- The data a source can produce, cut to 64 characters (R98). -/
def canProduce (b : Battery) (slots : List Slot) (src : List SourcePart) : List CanProduce :=
  (src.flatMap fun p => match p with
    | .fixed text => (byteNats text).map CanProduce.known
    | .slot n => (slotText slots n).map CanProduce.known
    | .counter id => List.replicate (counterShape b id).1 (CanProduce.any (counterShape b id).2)).take 64

/-- Every character a position can hold is a code of the table (R98). -/
def SymbolTable.accepts (t : SymbolTable) : CanProduce → Bool
  | .known c => (t.byCode c).isSome
  | .any a => (alphabetChars a).all fun c => (t.byCode c).isSome

/-- The character set and length checks of R98. -/
def SymbolTable.dataOk (t : SymbolTable) (data : List CanProduce) : Bool :=
  data.all t.accepts && decide (t.minLen ≤ data.length ∧ data.length ≤ t.maxLen)

/-- The widest of some entries. -/
def widest (model m ratio : Nat) (es : List TableEntry) : Nat :=
  (es.map fun e => patternWidth model m ratio e.elements).foldl max 0

/-- The width assumed for a position (R99). -/
def SymbolTable.assumedWidth (t : SymbolTable) (m ratio : Nat) : CanProduce → Nat
  | .known c =>
    match t.byCode c with
    | some e => patternWidth t.model m ratio e.elements
    | none => 0
  | .any a => widest t.model m ratio ((alphabetChars a).filterMap t.byCode)

/-- The assumed widths of the patterns of a symbol (R99): the check character the widest entry. -/
def SymbolTable.assumedWidths (t : SymbolTable) (m ratio : Nat) (data : List CanProduce) : List Nat :=
  [patternWidth t.model m ratio t.start] ++ data.map (t.assumedWidth m ratio)
    ++ (if t.rule = .none then [] else [widest t.model m ratio t.entries])
    ++ [patternWidth t.model m ratio t.stop]

/-- Height of a barcode's frame: the bars, and 9 lines of text where it is on (R139). -/
def barcodeHeight (barHeight : Nat) (readable : Bool) : Nat := barHeight + (if readable then 9 else 0)

/-- The unturned footprint checked at binding: width and height (R99, R139). -/
def SymbolTable.footprint (t : SymbolTable) (m ratio quiet barHeight : Nat) (readable : Bool)
    (data : List CanProduce) : Nat × Nat :=
  (symbolWidth (t.gap * m) (t.assumedWidths m ratio data) + 2 * (quiet * m),
    barcodeHeight barHeight readable)

/-- A footprint turned: its width and height change places at 90 and 270 degrees (R30). -/
def turned (rotation : Nat) (size : Nat × Nat) : Nat × Nat :=
  if rotation % 2 = 1 then (size.2, size.1) else size

/-- A placed footprint lies within the label rectangle of a format (R99). -/
def fitsLabel (f : Format) (x y : Int) (size : Nat × Nat) : Bool :=
  decide (0 ≤ x ∧ 0 ≤ y ∧ x + size.1 ≤ f.width ∧ y + size.2 ≤ f.length)

end Sys2Proof.Machine
end

