-- ==== Sys2Proof/Machine/Drawing.lean ====
section
/-! DEFINITION. The dots of a label: fields laid out in their frames, turned, placed and combined
(R30, R38, R129 to R138). -/

namespace Sys2Proof.Machine

/-- A built-in font: glyph across and along, cell across and along, offset across and along (Table 2-5). -/
structure FontSize where
  glyphX : Nat
  glyphY : Nat
  cellX : Nat
  cellY : Nat
  offsetX : Nat
  offsetY : Nat
  deriving DecidableEq, Repr

/-- The built-in fonts (Table 2-5). -/
def fontSize (font : Nat) : FontSize :=
  if font = 1 then { glyphX := 5, glyphY := 7, cellX := 6, cellY := 9, offsetX := 0, offsetY := 1 }
  else if font = 2 then { glyphX := 8, glyphY := 12, cellX := 10, cellY := 14, offsetX := 0, offsetY := 1 }
  else if font = 3 then { glyphX := 12, glyphY := 20, cellX := 14, cellY := 24, offsetX := 0, offsetY := 2 }
  else { glyphX := 16, glyphY := 26, cellX := 20, cellY := 32, offsetX := 0, offsetY := 3 }

/-- The code whose glyph a character shows: itself within 32 to 126, otherwise that of "?" (R38). -/
def shownCode (code : Nat) : Nat := if within 32 126 code then code else 63

/-- The dot of a character's cell: its glyph's dot, off in the margins; code 32 has no dot on (R38). -/
def cellDot (font code cellCol cellRow : Nat) : Bool :=
  let f := fontSize font
  if shownCode code = 32 then false
  else if f.offsetX ≤ cellCol ∧ cellCol < f.offsetX + f.glyphX ∧ f.offsetY ≤ cellRow
      ∧ cellRow < f.offsetY + f.glyphY then
    Config.glyphDot font (shownCode code) (cellCol - f.offsetX) (cellRow - f.offsetY)
  else false

/-- The dot of a row of characters at a column and row of its frame (R131). -/
def textDot (font hMag vMag : Nat) (chars : List Nat) (u v : Nat) : Bool :=
  let f := fontSize font
  let wide := f.cellX * hMag
  match chars[u / wide]? with
  | some c => cellDot font c (u % wide / hMag) (v / vMag)
  | none => false

/-- What stands in a field's unturned frame. -/
inductive Frame where
  | text (font hMag vMag : Nat) (chars : List Nat) (width height : Nat)
  | box (width height thickness : Nat)
  | line (length thickness : Nat)
  | image (data : Image) (magnification : Nat)
  /-- bars by left edge and width; the text's left edge, its limit and its characters -/
  | barcode (bars : List (Nat × Nat)) (barHeight textLeft textEnd : Nat) (chars : List Nat)
      (width height : Nat)
  deriving DecidableEq, Repr

/-- Width and height of a frame (R130). -/
def Frame.size : Frame → Nat × Nat
  | .text _ _ _ _ w h => (w, h)
  | .box w h _ => (w, h)
  | .line l t => (l, t)
  | .image i k => (i.width * k, i.height * k)
  | .barcode _ _ _ _ _ w h => (w, h)

/-- The image's dot at a column and row: the most significant bit of a byte is its leftmost dot (R39). -/
def imageDot (i : Image) (col row : Nat) : Bool :=
  (i.rows.getD (row * ((i.width + 7) / 8) + col / 8) 0).getLsbD (7 - col % 8)

/-- Whether a frame dot is on (R131 to R133, R135, R138). -/
def Frame.dot : Frame → Nat → Nat → Bool
  | .text font hMag vMag chars _ _, u, v => textDot font hMag vMag chars u v
  | .box w h t, u, v => decide (u < t ∨ v < t ∨ w ≤ u + t ∨ h ≤ v + t)
  | .line _ _, _, _ => true
  | .image i k, u, v => imageDot i (u / k) (v / k)
  | .barcode bars barHeight textLeft textEnd chars _ _, u, v =>
    if v < barHeight then bars.any fun b => decide (b.1 ≤ u ∧ u < b.1 + b.2)
    else decide (textLeft ≤ u ∧ u < textEnd) && textDot 1 1 1 chars (u - textLeft) (v - barHeight)

/-- A field laid out and placed: its frame, its corner, its rotation and its mode (R130). -/
structure Placed where
  frame : Frame
  x : Int
  y : Int
  rotation : Nat
  mode : DrawMode
  deriving DecidableEq, Repr

/-- The frame dot that a label dot shows, if the placed footprint holds it (Table 6-2). -/
def Placed.frameDot (p : Placed) (x y : Int) : Option (Nat × Nat) :=
  let w : Int := p.frame.size.1
  let h : Int := p.frame.size.2
  let uv : Int × Int :=
    if p.rotation = 0 then (x - p.x, y - p.y)
    else if p.rotation = 1 then (y - p.y, h - 1 - (x - p.x))
    else if p.rotation = 2 then (w - 1 - (x - p.x), h - 1 - (y - p.y))
    else (w - 1 - (y - p.y), x - p.x)
  if 0 ≤ uv.1 ∧ uv.1 < w ∧ 0 ≤ uv.2 ∧ uv.2 < h then some (uv.1.toNat, uv.2.toNat) else none

/-- Whether a placed field has a dot on at a label column and line. -/
def Placed.dot (p : Placed) (x y : Nat) : Bool :=
  match p.frameDot x y with
  | some (u, v) => p.frame.dot u v
  | none => false

/-- A label dot after the fields in list order: SET turns on, INVERT reverses (R129). -/
def labelDot (fields : List Placed) (x y : Nat) : Bool :=
  fields.foldl (fun on p =>
    if p.dot x y then (match p.mode with
      | .set => true
      | .invert => !on)
    else on) false

/-- The lines of a band of a label (R123). -/
def bandLineCount (length band : Nat) : Nat := min Config.bandLines (length - Config.bandLines * band)

/-- The number of bands of an effective length (R123). -/
def bandCount (length : Nat) : Nat := (length + (Config.bandLines - 1)) / Config.bandLines

/-- The dots of a band: its lines, 832 dots each, off at and beyond the label width (R120, R129). -/
def bandDots (fields : List Placed) (labelWidth length band : Nat) : List (List Bool) :=
  (List.range (bandLineCount length band)).map fun j =>
    (List.range Config.headDots).map fun x =>
      decide (x < labelWidth) && labelDot fields x (Config.bandLines * band + j)

/-- What a label is rendered from (R128): its version references, slots, shift and drawn values. -/
structure LabelData where
  refs : List RecRef
  slots : List Slot
  shiftX : Int
  shiftY : Int
  values : List Drawn
  deriving DecidableEq, Repr

/-- The version of a kind and number that a binding lists (R8). -/
def boundRef (refs : List RecRef) (k : RecKind) (n : Nat) : Option RecRef :=
  refs.find? fun r => decide (r.kind = k ∧ r.number = n)

/-- The body of the version of a kind and number that a binding lists. -/
def State.boundBody (s : State) (refs : List RecRef) (k : RecKind) (n : Nat) : List Byte :=
  match boundRef refs k n with
  | some r => s.refBody r
  | none => []

/-- The format a binding lists. -/
def State.boundFormat (s : State) (refs : List RecRef) : Format :=
  match refs.find? fun r => decide (r.kind = .format) with
  | some r => parseFormat (s.refBody r)
  | none => parseFormat []

/-- A TEXT field's frame: the cells of its characters, cut at the maximum width (R32, R131). -/
def textFrame (font hMag vMag maxWidth : Nat) (chars : List Nat) : Frame :=
  let natural := chars.length * (fontSize font).cellX * hMag
  .text font hMag vMag chars (if maxWidth = 0 then natural else min natural maxWidth)
    ((fontSize font).cellY * vMag)

/-- A BARCODE field's frame: quiet zones, bars with their reduction, and the human-readable line centred
on the symbol (R135, R136, R138, R139). -/
def barcodeFrame (t : SymbolTable) (m barHeight ratio reduction quiet : Nat) (readable : Bool)
    (data : List Nat) : Frame :=
  let patterns := t.patterns data
  let symbol := symbolWidth (t.gap * m) (patterns.map (patternWidth t.model m ratio))
  let left := quiet * m
  let chars := if readable then t.readableText data else []
  let textWidth := 6 * chars.length
  let textLeft := if textWidth ≤ symbol then left + (symbol - textWidth) / 2 else left
  .barcode (symbolBars t.model m ratio (clampReduction reduction m) (t.gap * m) left patterns) barHeight
    textLeft (left + symbol) chars (symbol + 2 * left) (barcodeHeight barHeight readable)

/-- The frame of a field for a label (R131 to R133, R135). -/
def State.fieldFrame (s : State) (d : LabelData) (f : Field) : Frame :=
  match f.kind with
  | .text font hMag vMag maxWidth src => textFrame font hMag vMag maxWidth (sourceText d.slots d.values src)
  | .barcode n m barHeight ratio reduction quiet readable _ src =>
    barcodeFrame (parseTable (s.boundBody d.refs .table n)) m barHeight ratio reduction quiet readable
      (sourceText d.slots d.values src)
  | .box w h t => .box w h t
  | .line l t => .line l t
  | .image n k => .image (parseImage (s.boundBody d.refs .image n)) k

/-- A field placed at its origin plus the shift (R130). -/
def State.placeField (s : State) (d : LabelData) (f : Field) : Placed :=
  { frame := s.fieldFrame d f
    x := f.originX + d.shiftX
    y := f.originY + d.shiftY
    rotation := f.rotation
    mode := f.mode }

/-- The fields of a label, placed, in list order. -/
def State.placedFields (s : State) (d : LabelData) : List Placed :=
  (s.boundFormat d.refs).fields.map (s.placeField d)

/-! ## Which pages a band needs (R44, R128, R133) -/

/-- Whether a placed field has a dot on in a band, within the label rectangle. DESIGN CHOICE: a band that holds only
quiet zone or spaces of a BARCODE field is one in which its symbol has no dots, and reads no table (log entry 46). -/
def Placed.inBand (p : Placed) (labelWidth length band : Nat) : Bool :=
  (List.range (bandLineCount length band)).any fun j =>
    (List.range labelWidth).any fun x => p.dot x (Config.bandLines * band + j)

/-- The rows of an image that a band draws: those whose frame lines, or columns once turned, fall in the
band (R133). -/
def imageRows (p : Placed) (i : Image) (k length band : Nat) : List Nat :=
  let lines := (List.range (bandLineCount length band)).map fun j => ((Config.bandLines * band + j : Nat) : Int)
  (List.range i.height).filter fun row =>
    if p.rotation % 2 = 0 then
      (List.range k).any fun j =>
        let v : Int := row * k + j
        let y := if p.rotation = 0 then p.y + v else p.y + (i.height * k : Nat) - 1 - v
        lines.contains y
    else lines.any fun y => decide (p.y ≤ y ∧ y < p.y + (i.width * k : Nat))

/-- The pages a version's body lies in. -/
def State.refPages (s : State) (r : RecRef) : List Nat :=
  match s.store.entry r with
  | some e => bodyPages e.firstSector 0 e.bodyLen
  | none => []

/-- The pages of an image's rows. -/
def State.imagePages (s : State) (r : RecRef) (i : Image) (rows : List Nat) : List Nat :=
  match s.store.entry r with
  | some e =>
    let len := (i.width + 7) / 8
    (rows.flatMap fun row => bodyPages e.firstSector (4 + row * len) len).eraseDups
  | none => []

/-- The pages the drawing of a band reads: the format's, those of each symbol table a symbol of which has
dots in the band, and those of the image rows the band draws (R44, R128, R133; order: log entry 12). -/
def State.bandPages (s : State) (d : LabelData) (length band : Nat) : List Nat :=
  let format := s.boundFormat d.refs
  let formatPages := match d.refs.find? fun r => decide (r.kind = .format) with
    | some r => s.refPages r
    | none => []
  let tables := (format.fields.filterMap fun f => match f.kind with
    | .barcode n _ _ _ _ _ _ _ _ =>
      if (s.placeField d f).inBand format.width length band then boundRef d.refs .table n else none
    | _ => none).eraseDups
  let images := format.fields.flatMap fun f => match f.kind with
    | .image n k =>
      match boundRef d.refs .image n with
      | some r =>
        let i := parseImage (s.refBody r)
        s.imagePages r i (imageRows (s.placeField d f) i k length band)
      | none => []
    | _ => []
  formatPages ++ tables.flatMap s.refPages ++ images

end Sys2Proof.Machine
end

