-- ==== Sys2Proof/Machine/CounterOps.lean ====
section
/-! DEFINITION. The Counter Table: draws, advances, confirms, returns and bindings (chapter 4). -/

namespace Sys2Proof.Machine

/-- The battery-backed RAM with its table check written anew (R90). -/
def Battery.checked (b : Battery) : Battery := { b with check := tableSum b }

/-- The counter records changed, with the table check, as one event; a table left as it was is not
written (R83, R90). -/
def Battery.withCounters (cs : List Counter) (b : Battery) : Battery :=
  if cs = b.counters then b else Battery.checked { b with counters := cs }

/-- The record of a counter id; an id outside the table reads as an UNDEFINED record (R74). -/
def Battery.counter (b : Battery) (id : Nat) : Counter := b.counters.getD (id - 1) Counter.undefinedRecord

/-- The table with one counter's record replaced. -/
def setCounter (id : Nat) (c : Counter) (cs : List Counter) : List Counter := cs.set (id - 1) c

/-- A counter can issue when it is ACTIVE or its return list is not empty (R74). -/
def Counter.canIssue (c : Counter) : Bool := decide (c.state = .active) || !c.returns.isEmpty

/-- A counter whose advance passes its bound: the start value under WRAP, EXHAUSTED under HALT (R82). -/
def Counter.passBound (c : Counter) : Counter :=
  match c.defn.endAction with
  | .wrap => { c with current := c.defn.start }
  | .halt => { c with state := .exhausted }

/-- The advance after the current value is issued (R82). -/
def Counter.advance (c : Counter) : Counter :=
  match c.defn.direction with
  | .up =>
    if c.current + c.defn.step ≤ c.defn.high then { c with current := c.current + c.defn.step }
    else c.passBound
  | .down =>
    if c.defn.low + c.defn.step ≤ c.current then { c with current := c.current - c.defn.step }
    else c.passBound

/-- A draw from one counter: the value issued and the counter after it, or none (R81). -/
def Counter.issue (c : Counter) : Option (Nat × Counter) :=
  match c.returns with
  | v :: rest => some (v, { c with returns := rest })
  | [] => if c.state = .active then some (c.current, c.advance) else none

/-- Whether an outstanding entry is of one of the groups, named by tag and label number. -/
def Outstanding.ofGroups (groups : List (Nat × Nat)) (o : Outstanding) : Bool :=
  groups.contains (o.tag, o.label)

/-- A value given back: kept at the tail of the return list under REUSE when it is absent and fewer than 8
stand there, dropped otherwise (R76, R84). -/
def keepReturn (policy : VoidPolicy) (returns : List Nat) (v : Nat) : Option (List Nat) :=
  match policy with
  | .reuse => if !returns.contains v && decide (returns.length < 8) then some (returns ++ [v]) else none
  | .gap => none

/-- The entries of the groups given back in the order of the list: the return list after it, and the group
of each value dropped (R84). -/
def giveBack (policy : VoidPolicy) (groups : List (Nat × Nat)) :
    List Outstanding → List Nat → List Nat × List (Nat × Nat)
  | [], returns => (returns, [])
  | o :: os, returns =>
    if o.ofGroups groups then
      match keepReturn policy returns o.value with
      | some kept => giveBack policy groups os kept
      | none =>
        let tail := giveBack policy groups os returns
        (tail.1, (o.tag, o.label) :: tail.2)
    else giveBack policy groups os returns

/-- A return at one counter (R84). -/
def Counter.returned (groups : List (Nat × Nat)) (c : Counter) : Counter :=
  { c with
    returns := (giveBack c.defn.policy groups c.outstanding c.returns).1
    outstanding := c.outstanding.filter fun o => !o.ofGroups groups }

/-- The groups of the values a return drops at one counter, one for each value (R84). -/
def Counter.droppedBy (groups : List (Nat × Nat)) (c : Counter) : List (Nat × Nat) :=
  (giveBack c.defn.policy groups c.outstanding c.returns).2

/-- The answer of a return: the table, the group of each value dropped, and the counters that have become
able to issue (R84). -/
structure ReturnAnswer where
  counters : List Counter
  dropped : List (Nat × Nat)
  able : List Nat
  deriving DecidableEq, Repr

/-- The ids of the counters that could not issue in one table and can in another (R84). -/
def ableIds (before after : List Counter) : List Nat :=
  ((before.zip after).zipIdx.filter fun p => !p.1.1.canIssue && p.1.2.canIssue).map fun p => p.2 + 1

/-- A return request naming label groups (R84). -/
def returnGroups (groups : List (Nat × Nat)) (cs : List Counter) : ReturnAnswer :=
  { counters := cs.map (Counter.returned groups)
    dropped := cs.flatMap (Counter.droppedBy groups)
    able := ableIds cs (cs.map (Counter.returned groups)) }

/-- A confirm request naming a label group (R83). -/
def confirmGroup (tag label : Nat) (cs : List Counter) : List Counter :=
  cs.map fun c => { c with outstanding := c.outstanding.filter fun o => !o.ofGroups [(tag, label)] }

/-- The answer of a draw request (R80). -/
inductive DrawAnswer where
  | issued (values : List Drawn) (counters : List Counter)
  | failed (counter : Nat) (answer : ReturnAnswer)
  deriving DecidableEq, Repr

/-- A counter with a value joined to its outstanding list for a group (R77, R81). -/
def Counter.joinOutstanding (tag label v : Nat) (c : Counter) : Counter :=
  { c with outstanding := c.outstanding ++ [{ value := v, tag := tag, label := label }] }

/-- A draw request: the counters in list order, each as R81 gives; at the first that cannot issue, what
was issued to the group is returned (R80). -/
def drawGroup (tag label : Nat) : List Nat → List Drawn → List Counter → DrawAnswer
  | [], values, cs => .issued values cs
  | id :: ids, values, cs =>
    let c := cs.getD (id - 1) Counter.undefinedRecord
    match c.issue with
    | some (v, after) =>
      drawGroup tag label ids
        (values ++ [{ counter := id, value := v, width := c.defn.width, alphabet := c.defn.alphabet }])
        (setCounter id (after.joinOutstanding tag label v) cs)
    | none => .failed id (returnGroups [(tag, label)] cs)

/-- Every counter named is ACTIVE or EXHAUSTED; otherwise the first UNDEFINED one (R79). -/
def firstUndefined (ids : List Nat) (b : Battery) : Option Nat :=
  ids.find? fun id => decide ((b.counter id).state = .undefined)

/-- The binding count of each counter named rises by one (R79). -/
def bindCounters (ids : List Nat) (cs : List Counter) : List Counter :=
  ids.foldl (fun acc id =>
    let c := acc.getD (id - 1) Counter.undefinedRecord
    setCounter id { c with bound := c.bound + 1 } acc) cs

/-- The binding count of each counter named falls by one (R79). -/
def unbindCounters (ids : List Nat) (cs : List Counter) : List Counter :=
  ids.foldl (fun acc id =>
    let c := acc.getD (id - 1) Counter.undefinedRecord
    setCounter id { c with bound := c.bound - 1 } acc) cs

/-- The counter records of the state changed (R90). -/
def State.withCounters (cs : List Counter) (s : State) : State :=
  { s with battery := s.battery.withCounters cs }

end Sys2Proof.Machine
end

