-- ==== Sys2Proof/Machine/RenderOps.lean ====
section
/-! DEFINITION. The Band Renderer: the order of rendering, its band buffers, and what ends a drawing
(sections 6.1 and 6.2). -/

namespace Sys2Proof.Machine

/-! ## Jobs and tickets -/

/-- The job of a tag (R95). -/
def JobQueue.job (q : JobQueue) (tag : Nat) : Option Job := q.jobs.find? fun j => j.items.tag == tag

/-- A job changed in place. -/
def JobQueue.updateJob (tag : Nat) (f : Job → Job) (q : JobQueue) : JobQueue :=
  { q with jobs := q.jobs.map fun (j : Job) => if j.items.tag = tag then f j else j }

/-- A ticket changed in place. -/
def JobQueue.updateTicket (key : TicketKey) (f : Ticket → Ticket) (q : JobQueue) : JobQueue :=
  { q with tickets := q.tickets.map fun (t : Ticket) => if t.key = key then f t else t }

/-- The ticket of a key. -/
def JobQueue.ticket (q : JobQueue) (key : TicketKey) : Option Ticket := q.tickets.find? fun t => t.key = key

/-- The PRINTING ticket (R107). -/
def State.printing (s : State) : Option Ticket := s.queue.tickets.find? fun t => t.state = .printing

/-- The oldest ticket is READY and none is PRINTING (R160). -/
def State.oldestReady (s : State) : Bool :=
  s.printing.isNone &&
    match s.queue.tickets with
    | t :: _ => decide (t.state = .ready)
    | [] => false

/-- Some ticket is READY (R171, R175). -/
def State.someReady (s : State) : Bool := s.queue.tickets.any fun t => decide (t.state = .ready)

/-- What a ticket is rendered from: its job's data, or the last-label record's for a reprint (R128). -/
def State.ticketData (s : State) (t : Ticket) : LabelData :=
  match t.key.source with
  | some tag =>
    match s.queue.job tag with
    | some j =>
      { refs := j.entries, slots := j.items.slots, shiftX := j.items.shiftX, shiftY := j.items.shiftY,
        values := t.values }
    | none => { refs := [], slots := [], shiftX := 0, shiftY := 0, values := t.values }
  | none =>
    match s.queue.last with
    | some l => { refs := l.entries, slots := l.slots, shiftX := l.shiftX, shiftY := l.shiftY, values := t.values }
    | none => { refs := [], slots := [], shiftX := 0, shiftY := 0, values := t.values }

/-- The format a ticket is rendered from. -/
def State.ticketFormat (s : State) (t : Ticket) : Format := s.boundFormat (s.ticketData t).refs

/-- The printable length: P − G on calibrated GAP and MARK media, none otherwise (R167). -/
def Settings.printable (st : Settings) : Option Nat :=
  if st.mediaType ≠ .continuous ∧ 0 < st.pitch then some (st.pitch - st.gapLength) else none

/-- The effective length a ticket takes: the smaller of its format's length and the printable length (R123).
DEDUCED: the format's length is read from flash without an access of the array (log entry 28). -/
def State.effectiveLength (s : State) (t : Ticket) : Nat :=
  match s.battery.settings.printable with
  | some p => min (s.ticketFormat t).length p
  | none => (s.ticketFormat t).length

/-- Every band of a ticket has been rendered (R104). -/
def Ticket.whole (t : Ticket) : Bool :=
  match t.length with
  | some l => decide (bandCount l ≤ t.rendered)
  | none => false

/-- The starting bands of a label: its first 2, or all when it has fewer (R107). -/
def startingBands (length : Nat) : Nat := min 2 (bandCount length)

/-! ## Buffers -/

/-- The lowest-numbered FREE buffer (R124). -/
def Renderer.freeBuffer (r : Renderer) : Option Nat :=
  (List.range r.buffers.length).find? fun i => decide ((r.buffers.getD i Buffer.empty).state = .free)

/-- A buffer of a given number changed. -/
def Renderer.setBuffer (i : Nat) (b : Buffer) (r : Renderer) : Renderer := { r with buffers := r.buffers.set i b }

/-- Whether a buffer belongs to one of the tickets named. -/
def Buffer.ofTickets (keys : List TicketKey) (b : Buffer) : Bool :=
  match b.ticket with
  | some k => keys.contains k
  | none => false

/-- The drawing in hand abandoned when its ticket is among those named: its reads are left to be carried
out for nobody (R125, log entry 12). -/
def State.abandonDrawing (keys : List TicketKey) (s : State) : State :=
  match s.render.hand with
  | some h =>
    if keys.contains h.ticket then
      { s with render := { s.render with hand := none }, array := s.array.orphanRenderer }
    else s
  | none => s

/-- Every buffer of the tickets named becomes FREE, and a drawing of one of them ends (R121, R125). -/
def State.freeTickets (keys : List TicketKey) (s : State) : State :=
  let s1 := s.abandonDrawing keys
  { s1 with
    render := { s1.render with
      buffers := s1.render.buffers.map fun (b : Buffer) => if b.ofTickets keys then Buffer.empty else b } }

/-- Every buffer becomes FREE and any drawing ends (R110). -/
def State.freeAllBuffers (s : State) : State :=
  { s with
    render := { buffers := List.replicate s.render.buffers.length Buffer.empty, hand := none }
    array := if s.render.hand.isSome then s.array.orphanRenderer else s.array }

/-! ## The order of rendering (R123, R124) -/

/-- The ticket as the renderer takes a buffer for its next band: at band 0 its effective length is fixed,
and its clipped flag set when that is below the format's length (R123). DEDUCED: in the event that takes the buffer,
before any page of the format is read for the band, and without an access of the array (log entry 28). -/
def State.fixLength (s : State) (t : Ticket) : Ticket :=
  if t.rendered = 0 then
    { t with
      length := some (s.effectiveLength t)
      clipped := t.clipped || decide (s.effectiveLength t < (s.ticketFormat t).length) }
  else t

/-- The next page read of the band in hand, issued when none is outstanding (R128, log entry 12). -/
def State.readHand (s : State) : State :=
  match s.render.hand with
  | some h =>
    match h.pagesLeft with
    | p :: rest =>
      if h.reading then s
      else
        State.issue { client := .renderer, op := .read p }
          { s with render := { s.render with hand := some { h with pagesLeft := rest, reading := true } } }
    | [] => s
  | none => s

/-- A buffer taken for a ticket's next band: FILLING, and its drawing begun (R121, R123, R124). -/
def State.takeBuffer (i : Nat) (t : Ticket) (s : State) : State :=
  let fixed := s.fixLength t
  let length := fixed.length.getD 0
  let pages := s.bandPages (s.ticketData t) length t.rendered
  State.readHand
    { s with
      queue := s.queue.updateTicket t.key fun _ => fixed
      render :=
        { buffers := s.render.buffers.set i
            { state := .filling, ticket := some t.key, band := t.rendered,
              lines := bandLineCount length t.rendered, dots := [] }
          hand := some { ticket := t.key, band := t.rendered, buffer := i, pagesLeft := pages, reading := false } } }

/-! ## Geometry requests between the drawings (R140) -/

/-- An access of the request in execution issued, and the request waiting for it. -/
def State.decoderIssue (op : AccessOp) (work : Work) (s : State) : State :=
  (s.await work).issue { client := .decoder, op := op }

/-- The renderer has a geometry request before it: one waits for the drawing in hand, or its table is being read
(R140). -/
def State.geometryAsked (s : State) : Bool :=
  match s.dec.work with
  | .awaitTable _ _ _ _ => true
  | .submitTable _ _ _ => true
  | _ => false

/-- A read of the symbol table that a BARCODE field names (R97, R140). -/
def State.readTable (items : JobItems) (field page : Nat) (left : List Nat) (s : State) : State :=
  s.decoderIssue (.read page) (.submitTable items field left)

/-- The geometry of a BARCODE field asked of the renderer: its table's first page is read at once where no band drawing
is in hand, and waits for the end of the one that is (R140, log entry 51). -/
def State.askGeometry (items : JobItems) (field page : Nat) (left : List Nat) (s : State) : State :=
  if s.render.hand.isSome then s.await (.awaitTable items field page left) else s.readTable items field page left

/-- A geometry request that waits, taken between two band drawings: no drawing is in hand (R140). -/
def State.takeGeometry (s : State) : State :=
  match s.dec.work with
  | .awaitTable items field page left =>
    if s.isRunning = true ∧ s.render.hand.isNone = true then s.readTable items field page left else s
  | _ => s

/-! ## The next band -/

/-- The renderer, with no band in hand, takes the lowest FREE buffer for the first ticket in list order that
has bands not yet rendered; with no such ticket it is idle, with no FREE buffer it waits (R124). DESIGN CHOICE: a
geometry request that has been made comes first, and the drawing begins once it is answered (R140, log entry 51). -/
def State.renderNext (s : State) : State :=
  if s.render.hand.isSome || s.geometryAsked then s
  else
    match s.queue.tickets.find? fun t => !t.whole with
    | some t =>
      match s.render.freeBuffer with
      | some i => s.takeBuffer i t
      | none => s
    | none => s

/-- A ticket to be rendered again from its band 0: RENDERING with bands rendered 0 and its length unfixed
(R110, R127). -/
def Ticket.again (t : Ticket) : Ticket := { t with rendered := 0, length := none, state := .rendering }

/-- Whether a change of printable length changes a ticket's effective length (R127). -/
def State.lengthChanges (s : State) (t : Ticket) : Bool :=
  match t.length with
  | some l => decide (t.state ≠ .printing) && decide (s.effectiveLength t ≠ l)
  | none => false

/-- A report of a changed printable length: the first ticket whose effective length would change and
those after it are rendered again (R127). -/
def State.printableChanged (s : State) : State :=
  let affected := s.queue.tickets.dropWhile fun t => !s.lengthChanges t
  let keys := affected.map Ticket.key
  State.renderNext <|
    State.freeTickets keys
      { s with
        queue := { s.queue with
          tickets := s.queue.tickets.map fun (t : Ticket) => if keys.contains t.key then t.again else t } }

end Sys2Proof.Machine
end

