-- ==== Sys2Proof/Machine/QueueOps.lean ====
section
/-! DEFINITION. The Job Queue: insertion, hold reasons, label boundaries and draws, completion, void,
cancel and departure (chapter 5). -/

namespace Sys2Proof.Machine

/-- A count that stays at 65,535 once it reaches it (R94). -/
def sat16 (n : Nat) : Nat := min 65535 n

/-! ## Attention and hold reasons (R101, R178) -/

/-- The attention line follows FAULT and the counter hold (R178). -/
def State.followAttention (s : State) : State :=
  { s with media := { s.media with attention := decide (s.media.engine = .fault) || s.media.counterHold } }

/-- The Job Queue's report of whether any job holds COUNTER (R101, R178). -/
def State.syncCounterHold (s : State) : State :=
  State.followAttention { s with media := { s.media with counterHold := s.queue.jobs.any Job.holdCounter } }

/-- A job has no hold reason (R101). -/
def Job.unheld (j : Job) : Bool := !j.holdCounter && !j.holdOperator

/-- A job has labels left (R94). -/
def Job.hasLabelsLeft (j : Job) : Bool := !j.cancelled && decide (j.nextLabel ≤ j.items.quantity)

/-- A job held on one of the counters reported able to issue. -/
def Job.blockedOn (ids : List Nat) (j : Job) : Bool :=
  match j.blocking with
  | some id => ids.contains id
  | none => false

/-- A report of counters able to issue: COUNTER is removed from the jobs they block (R84, R101). -/
def State.clearBlocked (ids : List Nat) (s : State) : State :=
  State.syncCounterHold
    { s with
      queue := { s.queue with
        jobs := s.queue.jobs.map fun (j : Job) =>
          if j.blockedOn ids then { j with holdCounter := false, blocking := none } else j } }

/-! ## Insertion (R94, R95) -/

/-- A job record of accepted items with its binding (R94). -/
def Job.create (items : JobItems) (entries : List RecRef) (counters : List Nat) : Job :=
  { items := items, entries := entries, counters := counters, state := .queued, holdCounter := false,
    holdOperator := false, blocking := none, cancelled := false, nextLabel := 1, openGroup := none,
    groupsCompleted := 0, labelsCompleted := 0, labelsVoided := 0, gaps := 0, labelsClipped := 0,
    outcome := none }

/-- Whether a job is RUSH. -/
def Job.rush (j : Job) : Bool := decide (j.items.priority = .rush)

/-- The jobs after the last RUSH job, and those up to it. -/
def splitRush (jobs : List Job) : List Job × List Job :=
  ((jobs.reverse.dropWhile fun j => !j.rush).reverse, (jobs.reverse.takeWhile fun j => !j.rush).reverse)

/-- A job inserted: RUSH directly after the last RUSH job, NORMAL at the tail (R95). -/
def insertJob (j : Job) (jobs : List Job) : List Job :=
  if j.rush then (splitRush jobs).1 ++ j :: (splitRush jobs).2 else jobs ++ [j]

/-- A job's position counted from 1 (R95). -/
def JobQueue.position (q : JobQueue) (tag : Nat) : Nat := (q.jobs.findIdx fun j => j.items.tag == tag) + 1

/-! ## Label boundaries (R104 to R106, R108, R117) -/

/-- The source a boundary chooses (R105). -/
inductive Choice where
  | copy (tag label copy copies : Nat) (values : List Drawn)
  | reprint (last : LastLabel)
  | group (job : Job)
  | nothing
  deriving DecidableEq, Repr

/-- The drawn values of a group, from a ticket of it in the list (R108). -/
def JobQueue.groupValues (q : JobQueue) (tag label : Nat) : List Drawn :=
  match q.tickets.find? fun t => decide (t.key.source = some tag ∧ t.key.label = label) with
  | some t => t.values
  | none => []

/-- The next copy of an open group, if a job has one (R105, case 1). -/
def JobQueue.openCopy (q : JobQueue) : Option Choice :=
  (q.jobs.find? fun j => j.openGroup.isSome).bind fun j =>
    j.openGroup.map fun g =>
      .copy j.items.tag g.label g.nextCopy j.items.copies (q.groupValues j.items.tag g.label)

/-- The job whose new group a boundary begins (R105, cases 4 and 5). -/
def JobQueue.nextJob (q : JobQueue) : Option Job :=
  match q.jobs.find? fun j => decide (j.state = .running) && j.items.noInterrupt && j.unheld && j.hasLabelsLeft with
  | some j => some j
  | none => q.jobs.find? fun j => j.unheld && j.hasLabelsLeft

/-- The choice of the next label's source (R105). -/
def JobQueue.choose (q : JobQueue) : Choice :=
  match q.openCopy with
  | some c => c
  | none =>
    if q.reprint then
      match q.tickets, q.last with
      | [], some l => .reprint l
      | _, _ => .nothing
    else
      match q.nextJob with
      | some j => .group j
      | none => .nothing

/-- A ticket at its creation (R107). -/
def Ticket.create (key : TicketKey) (values : List Drawn) : Ticket :=
  { key := key, values := values, rendered := 0, length := none, state := .rendering, burned := false,
    clipped := false }

/-- A ticket appended to the list, and its rendering begun (R106, R124). -/
def State.appendTicket (t : Ticket) (s : State) : State :=
  State.renderNext { s with queue := { s.queue with tickets := s.queue.tickets ++ [t] } }

/-- A boundary that finds no source: a RUNNING job becomes SUSPENDED (R103, R104, log entry 18). -/
def State.suspendRunning (s : State) : State :=
  { s with
    queue := { s.queue with
      jobs := s.queue.jobs.map fun (j : Job) => if j.state = .running then { j with state := .suspended } else j } }

/-- The next copy of an open group created; copy C closes the group (R108). -/
def State.createCopy (tag label copy copies : Nat) (values : List Drawn) (s : State) : State :=
  State.appendTicket (Ticket.create { source := some tag, label := label, copy := copy } values)
    { s with
      queue := s.queue.updateJob tag fun j =>
        { j with openGroup := if copy < copies then some { label := label, nextCopy := copy + 1 } else none } }

/-- The reprint ticket created from the last-label record; the pending state ends (R117). -/
def State.createReprint (l : LastLabel) (s : State) : State :=
  State.appendTicket (Ticket.create { source := none, label := l.label, copy := 1 } l.values)
    { s with queue := { s.queue with reprint := false } }

/-- A job after a choice of a new group of the job of a tag: that one RUNNING, any other RUNNING one
SUSPENDED; the group begun, and open when it has further copies (R103, R105, R106). -/
def Job.afterChoice (tag : Nat) (j : Job) : Job :=
  if j.items.tag = tag then
    { j with
      state := .running
      nextLabel := j.nextLabel + 1
      openGroup := if 1 < j.items.copies then some { label := j.nextLabel, nextCopy := 2 } else none }
  else if j.state = .running then { j with state := .suspended }
  else j

/-- A new group created with its drawn values (R106). -/
def State.createGroup (j : Job) (values : List Drawn) (cs : List Counter) (s : State) : State :=
  State.appendTicket (Ticket.create { source := some j.items.tag, label := j.nextLabel, copy := 1 } values)
    { s.withCounters cs with
      queue := { s.queue with jobs := s.queue.jobs.map (Job.afterChoice j.items.tag) } }

/-- A failed draw: the dropped values are gaps of the job, which gains COUNTER with the counter that could
not issue as blocking counter (R80, R101, R106). -/
def State.drawFailed (tag counter : Nat) (a : ReturnAnswer) (s : State) : State :=
  let s1 := (s.withCounters a.counters).clearBlocked a.able
  State.syncCounterHold
    { s1 with
      queue := s1.queue.updateJob tag fun j =>
        { j with gaps := sat16 (j.gaps + a.dropped.length), holdCounter := true, blocking := some counter } }

/-- The choice made and carried out, again after each failed draw (R105, R106). Each failed draw holds one
more job, so the number of jobs and one more is enough `fuel` (log entry 37). -/
def State.choose : Nat → State → State
  | 0, s => s.suspendRunning
  | fuel + 1, s =>
    match s.queue.choose with
    | .copy tag label copy copies values => s.createCopy tag label copy copies values
    | .reprint l => s.createReprint l
    | .nothing => s.suspendRunning
    | .group j =>
      match drawGroup j.items.tag j.nextLabel j.counters [] s.battery.counters with
      | .issued values cs => s.createGroup j values cs
      | .failed counter a => State.choose fuel (s.drawFailed j.items.tag counter a)

/-- The list has room and every ticket in it is rendered whole (R104). -/
def State.boundaryDue (s : State) : Bool :=
  decide (s.queue.tickets.length < Config.maxTickets) && s.queue.tickets.all Ticket.whole

/-- A label boundary, when its conditions hold (R104). -/
def State.boundary (s : State) : State :=
  if s.boundaryDue then s.choose (s.queue.jobs.length + 1) else s

/-- A report of counters able to issue, and the boundary a removed hold reason may cause (R84, R101, R104). -/
def State.reportAble (ids : List Nat) (s : State) : State :=
  if s.queue.jobs.any (Job.blockedOn ids) then (s.clearBlocked ids).boundary else s

/-! ## Ending (R103, R109, R112, R114) -/

/-- A job becomes ENDING with an outcome, and its JOB_END notice waits behind those before it (R114). -/
def State.endJob (tag : Nat) (outcome : JobOutcome) (s : State) : State :=
  { s with
    queue := { s.queue.updateJob tag fun j => { j with state := .ending, outcome := some outcome } with
      ending := s.queue.ending ++ [tag] } }

/-- Whether a job has a ticket in the list. -/
def JobQueue.hasTicket (q : JobQueue) (tag : Nat) : Bool := q.tickets.any fun t => decide (t.key.source = some tag)

/-- The JOB_END notice of a job (R113, Table 11-7). -/
def jobEndFrame (j : Job) : List Byte :=
  let revision := match j.entries.find? fun r => decide (r.kind = .format) with
    | some r => r.revision
    | none => 0
  frameBytes 0x91
    (toBytes 2 j.items.tag ++ [byte (outcomeCode j.outcome)] ++ toBytes 2 j.items.format
      ++ toBytes 2 revision ++ toBytes 2 j.items.quantity ++ [byte j.items.copies]
      ++ toBytes 2 j.groupsCompleted ++ toBytes 4 j.labelsCompleted ++ toBytes 2 j.labelsVoided
      ++ toBytes 2 j.gaps ++ toBytes 4 j.labelsClipped)

/-- A job leaves the queue: its entry removed, its binding released and unbound (R114). -/
def State.departJob (j : Job) (s : State) : State :=
  State.syncCounterHold
    { s.withCounters (unbindCounters j.counters s.battery.counters) with
      store := s.store.release j.entries
      queue := { s.queue with
        jobs := s.queue.jobs.filter fun k => decide (k.items.tag ≠ j.items.tag)
        ending := s.queue.ending.tail } }

/-! ## Completion and void (R109, R110, R116) -/

/-- The last-label record of a job's label (R115). -/
def lastOf (j : Job) (t : Ticket) : LastLabel :=
  { tag := j.items.tag, label := t.key.label, copies := j.items.copies, entries := j.entries,
    slots := j.items.slots, shiftX := j.items.shiftX, shiftY := j.items.shiftY,
    darkness := j.items.darkness, speed := j.items.speed, values := t.values }

/-- The last-label record replaced: the new pins taken before the previous ones are released (R15, R116). -/
def State.replaceLast (l : LastLabel) (s : State) : State :=
  { s with
    store := s.store.replace l.entries (match s.queue.last with
      | some p => p.entries
      | none => [])
    queue := { s.queue with last := some l } }

/-- A group settled as printed at a completion: the confirm, and the group counted when the copy was its
last (R109, step 2). -/
def State.settleGroup (j : Job) (t : Ticket) (s : State) : State :=
  if t.key.copy = j.items.copies then
    { s.withCounters (confirmGroup j.items.tag t.key.label s.battery.counters) with
      queue := s.queue.updateJob j.items.tag fun k => { k with groupsCompleted := k.groupsCompleted + 1 } }
  else if j.cancelled then s.withCounters (confirmGroup j.items.tag t.key.label s.battery.counters)
  else s

/-- A job becomes ENDING when it has no ticket, no open group and no labels left (R109, step 4). -/
def State.endIfDone (tag : Nat) (s : State) : State :=
  match s.queue.job tag with
  | some j =>
    if !s.queue.hasTicket tag && j.openGroup.isNone && !j.hasLabelsLeft then
      s.endJob tag (if j.cancelled then .cancelled else .done)
    else s
  | none => s

/-- A ticket removed from the list. -/
def State.removeTicket (key : TicketKey) (s : State) : State :=
  { s with queue := { s.queue with tickets := s.queue.tickets.filter fun t => decide (t.key ≠ key) } }

/-- The completion of the PRINTING ticket's label at the Job Queue, and the boundary its removal may cause
(R104, R109). -/
def State.completeTicket (t : Ticket) (s : State) : State :=
  let s1 := s.removeTicket t.key
  match t.key.source with
  | some tag =>
    match s.queue.job tag with
    | some j =>
      let s2 : State :=
        { s1 with
          queue := s1.queue.updateJob tag fun k =>
            { k with
              labelsCompleted := k.labelsCompleted + 1
              labelsClipped := k.labelsClipped + (if t.clipped then 1 else 0) } }
      State.boundary (((s2.settleGroup j t).replaceLast (lastOf j t)).endIfDone tag)
    | none => s1.boundary
  | none => s1.boundary

/-- The void of the PRINTING ticket's label: every ticket RENDERING again from its band 0, every buffer
freed, the void counted against the ticket's job, and the first ticket taken up (R110, R125). -/
def State.voidTicket (t : Ticket) (s : State) : State :=
  let queue := { s.queue with tickets := s.queue.tickets.map Ticket.again }
  State.renderNext <|
    State.freeAllBuffers
      { s with
        queue := match t.key.source with
          | some tag => queue.updateJob tag fun j => { j with labelsVoided := sat16 (j.labelsVoided + 1) }
          | none => queue }

/-! ## Cancel (R112) -/

/-- The labels of a job that have values outstanding (R112, log entry 36). -/
def unsettled (tag : Nat) (cs : List Counter) : List Nat :=
  ((cs.flatMap Counter.outstanding).filterMap fun o => if o.tag = tag then some o.label else none).eraseDups

/-- A copy of a group has burned a line: a ticket's burned flag is set, or a copy has completed and so is
not listed (R112, log entry 36). -/
def JobQueue.groupBurned (q : JobQueue) (tag label : Nat) : Bool :=
  let tickets := q.tickets.filter fun t => decide (t.key.source = some tag ∧ t.key.label = label)
  tickets.any Ticket.burned || !(tickets.any fun t => t.key.copy == 1)

/-- The group has the PRINTING ticket. -/
def JobQueue.groupPrinting (q : JobQueue) (tag label : Nat) : Bool :=
  q.tickets.any fun t => decide (t.key.source = some tag ∧ t.key.label = label ∧ t.state = .printing)

/-- What a cancel reports: tickets discarded, groups returned, values dropped as gaps (R111). -/
structure CancelAnswer where
  discarded : Nat
  returned : Nat
  dropped : Nat
  able : List Nat
  deriving DecidableEq, Repr

/-- The keys of a job's tickets that a cancel discards (R112, step 2). -/
def JobQueue.discards (q : JobQueue) (tag : Nat) : List TicketKey :=
  (q.tickets.filter fun t => decide (t.key.source = some tag ∧ t.state ≠ .printing)).map Ticket.key

/-- A job cancelled in one event (R112), before the boundary that may follow. -/
def State.cancelJob (tag : Nat) (s : State) : State × CancelAnswer :=
  let keys := s.queue.discards tag
  let labels := unsettled tag s.battery.counters
  let back := labels.filter fun l => !s.queue.groupBurned tag l
  let now := labels.filter fun l => s.queue.groupBurned tag l && !s.queue.groupPrinting tag l
  let answer := returnGroups (back.map fun l => (tag, l)) s.battery.counters
  let counters := now.foldl (fun cs l => confirmGroup tag l cs) answer.counters
  let s1 := State.freeTickets keys
    { s.withCounters counters with
      queue := { s.queue.updateJob tag fun j =>
          { j with cancelled := true, openGroup := none, gaps := sat16 (j.gaps + answer.dropped.length) } with
        tickets := s.queue.tickets.filter fun t => !keys.contains t.key } }
  let s2 := if s1.queue.hasTicket tag then s1 else s1.endJob tag .cancelled
  (s2, { discarded := keys.length, returned := back.length, dropped := answer.dropped.length,
         able := answer.able })

/-- After cancels: the renderer takes up the next ticket, COUNTER is removed where a return made a counter
able to issue, and a boundary follows discarded tickets or a removed hold (R84, R104, R112, R125). -/
def State.afterCancel (discarded : Nat) (able : List Nat) (s : State) : State :=
  let held := s.queue.jobs.any (Job.blockedOn able)
  let s1 := (s.clearBlocked able).renderNext
  if discarded ≠ 0 ∨ held = true then s1.boundary else s1

end Sys2Proof.Machine
end

