-- ==== Sys2Proof/Machine/BurnOps.lean ====
section
/-! DEFINITION. Changes of engine state with their notices, the registration count, and the Burn
Controller: label values, pulses, line starts, history (chapter 7; R159, R162, R164, R175 to R178). -/

namespace Sys2Proof.Machine

/-! ## Engine state, ENGINE notices and attention (R175, R177, R178) -/

/-- The states whose entry and exit an ENGINE notice announces (R177). -/
def Engine.announced : Engine → Bool
  | .hold => true
  | .paused => true
  | .fault => true
  | _ => false

/-- The reasons or causes of an engine state in an ENGINE notice, as bits: reasons in HOLD, causes in FAULT (Table 11-6).
DEDUCED: 0 for every other state, also while a cause stands there, since R159 lets only HOLD carry reasons and only FAULT
causes (log entry 33). -/
def Media.stateBits (m : Media) : Nat :=
  match m.engine with
  | .hold => holdBits m.holds
  | .fault => causeBits m.causes
  | _ => 0

/-- A change produces an ENGINE notice (R177). -/
def produces (old new : Media) : Bool :=
  (decide (old.engine ≠ new.engine) && (old.engine.announced || new.engine.announced))
    || (decide (old.engine = .fault ∧ new.engine = .fault) && decide (old.causes ≠ new.causes))

/-- The pending notice after a produced change: fresh, or coalesced with the one that waits (R177). -/
def noticeAfter (old new : Media) : EngineNotice :=
  match old.notice with
  | none =>
    { newState := new.engine, newBits := new.stateBits, oldState := old.engine, oldBits := old.stateBits,
      count := new.count, coalesced := 1 }
  | some n =>
    { n with newState := new.engine, newBits := new.stateBits, count := new.count,
             coalesced := sat16 (n.coalesced + 1) }

/-- A change of the Media Tracker's state, with what follows it in the same event: the idle timer starts at
an entry to IDLE, a notice is produced unless start-up runs, and the attention line follows (R175, R177,
R178, R198). -/
def State.transit (f : Media → Media) (s : State) : State :=
  let new := f s.media
  let timed := if new.engine = .idle ∧ s.media.engine ≠ .idle then { new with idleSince := s.now } else new
  let announced :=
    if s.isRunning = true ∧ produces s.media new = true then
      { timed with notice := some (noticeAfter s.media new) }
    else timed
  State.followAttention { s with media := announced }

/-- Notices may be placed: the part runs and no RESTART mark stands (R187, R191, R199). -/
def State.mayNotify (s : State) : Bool := s.isRunning && s.line.restart.isNone

/-- The frame of the pending ENGINE notice (Table 11-6). -/
def engineFrame (n : EngineNotice) : List Byte :=
  frameBytes 0x92
    ([byte (engineCode n.newState), byte n.newBits, byte (engineCode n.oldState), byte n.oldBits]
      ++ toBytes 2 n.count ++ toBytes 2 n.coalesced)

/-- The pending ENGINE notice placed when no JOB_END notice waits before it and its room is there (R177, R185). -/
def State.placeEngine (s : State) : State :=
  match s.media.notice with
  | some n =>
    if s.mayNotify = true ∧ s.queue.ending = [] ∧ (engineFrame n).length ≤ s.freeRoom then
      { s.place (engineFrame n) with media := { s.media with notice := none } }
    else s
  | none => s

/-! ## Registration count (R164) -/

/-- The count set by an event of R164; one that leaves it at 96 or above sets REGISTRATION_WARNING. DESIGN CHOICE: an
event that does not set the count leaves the flag alone, whatever the count (log entry 48). -/
def State.setCount (n : Nat) (s : State) : State :=
  { s with
    media := { s.media with count := n }
    sticky := { s.sticky with registrationWarning := s.sticky.registrationWarning || decide (96 ≤ n) } }

/-- GAP or MARK media with P above 0: registration is kept (R163). -/
def Settings.registered (st : Settings) : Bool := decide (st.mediaType ≠ .continuous ∧ 0 < st.pitch)

/-- GAP or MARK media with P of 0: it is calibrated before a label (R160). -/
def Settings.uncalibrated (st : Settings) : Bool := decide (st.mediaType ≠ .continuous ∧ st.pitch = 0)

/-! ## Label values (R144, R145) -/

/-- Darkness offset and speed override of a ticket's job or of the last-label record (R144). -/
def State.ticketBurn (s : State) (t : Ticket) : Int × Nat :=
  match t.key.source with
  | some tag =>
    match s.queue.job tag with
    | some j => (j.items.darkness, j.items.speed)
    | none => (0, 0)
  | none =>
    match s.queue.last with
    | some l => (l.darkness, l.speed)
    | none => (0, 0)

/-- Darkness D: the format's default plus the offset, clamped to 0 to 30 (R144). -/
def darknessOf (default : Nat) (offset : Int) : Nat := (max 0 (min 30 ((default : Int) + offset))).toNat

/-- The derating count after a label start at a temperature, for a label of a base speed (R145). -/
def derate (theta : Int) (base count : Nat) : Nat :=
  if 65 ≤ theta then (if base - 25 * count ≤ 50 then count else count + 1)
  else if theta ≤ 60 then 0
  else count

/-- Speed s: the base speed less 25 times the derating count, not below 50 (R144). -/
def labelSpeed (base count : Nat) : Nat := max 50 (base - 25 * count)

/-- Line period T of a speed, in µs (R144, Table 7-3). -/
def linePeriod (speed : Nat) : Nat := 1000000 / (8 * speed)

/-- The base speed of a ticket: the override, or the format's default when it is 0 (R144). -/
def State.baseSpeed (s : State) (t : Ticket) : Nat :=
  if (s.ticketBurn t).2 = 0 then (s.ticketFormat t).speed else (s.ticketBurn t).2

/-- The label values fixed at a label start, the derating count applied (R144, R171). -/
def State.labelValues (s : State) (t : Ticket) : LabelValues :=
  let st := s.battery.settings
  let speed := labelSpeed (s.baseSpeed t) (derate s.burn.theta (s.baseSpeed t) s.burn.derating)
  { darkness := darknessOf (s.ticketFormat t).darkness (s.ticketBurn t).1
    speed := speed
    period := linePeriod speed
    leftOffset := st.leftOffset
    h1 := st.h1
    h2 := st.h2
    h3 := st.h3
    presentDistance := st.presentDistance }

/-- The Burn Controller at a label start: values fixed, history cleared, last line end none, the label's
stretched lines 0 (R144, R145). -/
def State.startBurn (t : Ticket) (s : State) : State :=
  { s with
    burn := { s.burn with
      derating := derate s.burn.theta (s.baseSpeed t) s.burn.derating
      values := some (s.labelValues t)
      previous := []
      before := []
      lastLineEnd := none
      stretchedLabel := 0 } }

/-! ## The strobe pulse (R146, R147) -/

/-- A number clamped to a range (section 1.4). -/
def clampInt (lo hi v : Int) : Int := max lo (min hi v)

/-- P_base of a darkness (R146). -/
def pulseBase (darkness : Nat) : Nat := 200 + 10 * darkness

/-- P_T: the base scaled by the temperature clamped to 0 to 60 (R146). -/
def pulseTemperature (base : Nat) (theta : Int) : Nat :=
  base * (1000 + 10 * (25 - clampInt 0 60 theta)).toNat / 1000

/-- The class-0 pulse P0: P_T scaled by the supply clamped to 200 to 260 (R146). -/
def pulseZero (darkness : Nat) (theta : Int) (supply : Nat) : Nat :=
  let v := max 200 (min 260 supply)
  pulseTemperature (pulseBase darkness) theta * 57600 / (v * v)

/-- The table entry of a history class (R147). -/
def LabelValues.entry (v : LabelValues) (previous before : Bool) : Nat :=
  match previous, before with
  | false, false => 16
  | false, true => v.h1
  | true, false => v.h2
  | true, true => v.h3

/-- A dot's pulse P_h (R147). -/
def dotPulse (p0 h : Nat) : Nat := p0 * h / 16

/-- The number of phases of a line's on dots (R151). -/
def phaseCount (dots : Nat) : Nat := (dots + 255) / 256

/-- The dots of a line's phase, counted from 1: the first 256 on dots from the left form phase 1, the next 256 phase
2, and the last phase holds the rest (R151). -/
def LineInHand.phaseDots (k : Nat) (l : LineInHand) : List DotPulse := (l.dots.drop (256 * (k - 1))).take 256

/-- When a line's phase begins: the first where loading ends, each other P0 after the one before it (R151, R154). -/
def LineInHand.phaseStart (k : Nat) (l : LineInHand) : Nat := l.started + Config.loadTime + (k - 1) * l.p0

/-- The head dots driven at a time: those of the phase in progress whose own pulse P_h, from the start of the phase,
has not run out (R151). -/
def LineInHand.driven (now : Nat) (l : LineInHand) : List Nat :=
  match l.stage with
  | .phase k => ((l.phaseDots k).filter fun d => decide (now < l.phaseStart k + d.pulse)).map DotPulse.dot
  | _ => []

/-- The head dots driven now; none with no line in hand (R151, R155). -/
def State.driven (s : State) : List Nat :=
  match s.burn.line with
  | some l => l.driven s.now
  | none => []

/-- The time a line's loading and phases need (R152). -/
def strobeTime (phases p0 : Nat) : Nat := phases * p0 + Config.loadTime

/-! ## Lines (R122, R148 to R155) -/

/-- The buffer that holds a line of the PRINTING ticket, when it is COMPLETE or BURNING (R122). -/
def State.lineBuffer (s : State) (t : Ticket) (n : Nat) : Option Nat :=
  (List.range s.render.buffers.length).find? fun i =>
    let b := s.render.buffers.getD i Buffer.empty
    decide (b.ticket = some t.key ∧ b.band = n / Config.bandLines)
      && decide (b.state = .complete ∨ b.state = .burning)

/-- The head dots a line burns, from the left: the print window applied (R148). -/
def windowDots (row : List Bool) (width leftOffset : Nat) : List Nat :=
  (List.range Config.headDots).filter fun dot =>
    decide (leftOffset ≤ dot ∧ dot - leftOffset < width) && row.getD (dot - leftOffset) false

/-- The history as a line start finds it: cleared after a stop of 20 ms or more (R150). -/
def Burn.afterStop (now : Nat) (b : Burn) : Burn :=
  match b.lastLineEnd with
  | some e => if Config.coolStop ≤ now - e then { b with previous := [], before := [] } else b
  | none => b

/-- The on dots of a line with their pulses by class (R147). -/
def Burn.pulses (v : LabelValues) (p0 : Nat) (dots : List Nat) (b : Burn) : List DotPulse :=
  dots.map fun dot =>
    { dot := dot, pulse := dotPulse p0 (v.entry (b.previous.contains dot) (b.before.contains dot)) }

/-- A line whose checks pass: its figures computed and its loading begun (R153). -/
def State.loadLine (n i : Nat) (t : Ticket) (v : LabelValues) (s : State) : State :=
  let buffer := s.render.buffers.getD i Buffer.empty
  let burn := s.burn.afterStop s.now
  let dots := windowDots (buffer.dots.getD (n % Config.bandLines) []) (s.ticketFormat t).width v.leftOffset
  let p0 := pulseZero v.darkness s.burn.theta s.burn.supply
  let phases := phaseCount dots.length
  { s with
    burn := { burn with
      line := some { number := n, p0 := p0, phases := phases,
                     duration := max v.period (strobeTime phases p0), started := s.now,
                     dots := burn.pulses v p0 dots, stage := .loading } }
    render := if n % Config.bandLines = 0 then s.render.setBuffer i { buffer with state := .burning }
      else s.render
    queue := if n = 0 then s.queue.updateTicket t.key fun k => { k with burned := true } else s.queue
    media := { s.media with labelLine := .burning n } }

/-- A hold requested at a line start with the checks that failed, and the engine's entry to HOLD (R153,
R156 to R158, R162). -/
def State.requestHold (reasons : Holds) (s : State) : State :=
  State.transit (fun m => { m with engine := .hold, holds := reasons })
    { s with
      sticky := { s.sticky with
        heatHoldSeen := s.sticky.heatHoldSeen || reasons.heat
        supplyHoldSeen := s.sticky.supplyHoldSeen || reasons.supply
        underrunSeen := s.sticky.underrunSeen || reasons.underrun }
      burn := if reasons.supply then { s.burn with supplyRun := 0 } else s.burn }

/-- The checks of a line start that fail (R153). -/
def State.lineChecks (s : State) (t : Ticket) (n : Nat) : Holds :=
  { underrun := (s.lineBuffer t n).isNone
    heat := decide (75 ≤ s.burn.theta)
    supply := decide (s.burn.supply < 180) }

/-- The line start of a line of the PRINTING ticket: held or loaded (R153). -/
def State.lineStart (n : Nat) (s : State) : State :=
  match s.printing, s.burn.values with
  | some t, some v =>
    match s.lineBuffer t n with
    | some i => if (s.lineChecks t n).none then s.loadLine n i t v else s.requestHold (s.lineChecks t n)
    | none => s.requestHold (s.lineChecks t n)
  | _, _ => s

/-- The history moved on by the line in hand, which ends now (R149, R154, R155). -/
def Burn.endLine (now : Nat) (b : Burn) : Burn :=
  match b.line with
  | some l =>
    { b with before := b.previous, previous := l.dots.map DotPulse.dot, lastLineEnd := some now, line := none }
  | none => b

/-- A line is the last of its band (R154). -/
def lastOfBand (n length : Nat) : Bool := n % Config.bandLines == Config.bandLines - 1 || n + 1 == length

/-- The buffer of a line's band freed when the line is the band's last, and taken for the next band if the
renderer waits for one (R121, R124, R154). -/
def State.freeBand (n : Nat) (s : State) : State :=
  match s.printing with
  | some t =>
    if lastOfBand n (t.length.getD 0) then
      match s.lineBuffer t n with
      | some i => State.renderNext { s with render := s.render.setBuffer i Buffer.empty }
      | none => s
    else s
  | none => s

/-- The line in hand cut short: its strobe ends and its history moves on, no line burned report is made
(R155). The motor step off the line is still to come: DESIGN CHOICE for the label's last line, whose label completes
with that step once printing resumes (log entry 47). -/
def State.cutLine (s : State) : State :=
  match s.burn.line with
  | some l =>
    { s with
      burn := s.burn.endLine s.now
      media := { s.media with labelLine := .stepping l.number } }
  | none => s

/-- The buffer that a line cut short in its loading was to free is freed (R155). -/
def State.freeCut (line : Option LineInHand) (s : State) : State :=
  match line with
  | some l => if l.stage = .loading then s.freeBand l.number else s
  | none => s

end Sys2Proof.Machine
end

