-- ==== Sys2Proof/Machine/EngineOps.lean ====
section
/-! DEFINITION. The Media Tracker: motions, label starts and completions, presentation, registration,
faults and their exits (chapter 8). -/

namespace Sys2Proof.Machine

/-! ## Rest, wake and motion (R159, R161, R175) -/

/-- The rest state (R159). -/
def Media.restState (m : Media) : Engine :=
  if m.out.isSome then .presented else if m.power then .idle else .off

/-- A motion begun in an engine state: power DOWN is left by a wake, and the first step comes 50 ms later;
otherwise the first step comes a feed line later (R161, R175, log entry 31). -/
def State.startMotion (kind : MotionKind) (engine : Engine) (forLabel forRecovery : Bool) (s : State) : State :=
  s.transit fun m =>
    { m with
      engine := engine
      power := true
      motion := some
        { kind := kind, forLabel := forLabel, forRecovery := forRecovery,
          wake := if m.power then none else some (s.now + Config.wakeDelay),
          due := if m.power then s.now + Config.feedPeriod else s.now + Config.wakeDelay } }

/-- The engine takes its rest state (R159). -/
def State.rest (s : State) : State :=
  s.transit fun m => { m with engine := m.restState, motion := none, labelLine := .none }

/-- The engine becomes PAUSED, and the pending pause ends (R172). -/
def State.enterPause (s : State) : State :=
  s.transit fun m => { m with engine := .paused, pausePending := false, motion := none, labelLine := .none }

/-! ## Label start (R160) -/

/-- The label start proper, one event: the ticket PRINTING, the label values fixed, the engine PRINTING, and
the line start of line 0 (R160). -/
def State.startLabel (s : State) : State :=
  match s.queue.tickets with
  | t :: _ =>
    let s1 : State :=
      { s.startBurn t with queue := s.queue.updateTicket t.key fun k => { k with state := .printing } }
    State.lineStart 0 <|
      s1.transit fun m =>
        { m with
          engine := .printing
          motion := some { kind := .label, forLabel := false, forRecovery := false, wake := none, due := s.now }
          labelLine := .standing 0
          goodSeen := false
          badSeen := false }
  | [] => s

/-- The attempt examined afresh when its preliminaries end (R160). -/
def State.settleStart (s : State) : State :=
  if s.media.pausePending then s.enterPause
  else if s.oldestReady then s.startLabel
  else s.rest

/-- A RESYNC feed begun; the presentation becomes NONE at its start (R165). -/
def State.startResync (forLabel : Bool) (s : State) : State :=
  State.startMotion (.resyncSeek 0) .resync forLabel false { s with media := { s.media with out := none } }

/-- Preliminary 4, or the label start, after the wake alone where power is DOWN (R160, log entry 20). -/
def State.prelimResync (s : State) : State :=
  if 128 ≤ s.media.count ∧ s.battery.settings.registered = true then s.startResync true
  else if s.media.power then s.settleStart
  else s.startMotion .awaitStart .printing true false

/-- Preliminary 3 and those after it (R160). -/
def State.prelimCalibrate (s : State) : State :=
  if s.battery.settings.uncalibrated then s.startMotion (.calibrateSeek 0) .calibrating true false
  else s.prelimResync

/-- A label start attempted: its preliminaries in their order (R160). A backfeed of 0 lines moves nothing. -/
def State.attempt (s : State) : State :=
  match s.media.out with
  | some (d + 1) => s.startMotion (.backfeed (d + 1)) .presenting true false
  | some 0 => State.prelimCalibrate { s with media := { s.media with out := none } }
  | none => s.prelimCalibrate

/-- A PEEL label stands presented and still awaits its take (R160, R171). -/
def State.awaitsTake (s : State) : Bool :=
  s.media.out.isSome && decide (s.media.presentedUnder = .peel) && !s.lines.noLabel

/-- The backfeed of a taken PEEL label; of 0 lines it ends at once, and a label start or rest follows (R171). -/
def State.takeLabel (s : State) : State :=
  match s.media.out with
  | some (d + 1) => s.startMotion (.backfeed (d + 1)) .presenting false false
  | some 0 =>
    let s1 : State := { s with media := { s.media with out := none } }
    if s1.oldestReady then s1.prelimCalibrate else s1.rest
  | none => s

/-- The rest state taken; in PRESENTED under PEEL a label found taken is fed back (R171, log entry 32). -/
def State.restPresented (s : State) : State :=
  let s1 := s.rest
  if s1.media.engine = .presented ∧ s1.media.presentedUnder = .peel ∧ s1.lines.noLabel = true then s1.takeLabel
  else s1

/-- The end of a label, a feed or a FAULT's path: a pause pending makes the engine PAUSED, otherwise a label
start is attempted, and failing that the engine takes its rest state (R161, R170, R173). -/
def State.beginOrRest (s : State) : State :=
  if s.media.pausePending then s.enterPause
  else if s.oldestReady = true ∧ s.awaitsTake = false then s.attempt
  else s.restPresented

/-- The engine stands where a ticket that becomes READY starts a label: IDLE, OFF, or PRESENTED with no take
awaited (R160, R171). -/
def State.atRest (s : State) : Bool :=
  match s.media.engine with
  | .idle => true
  | .off => true
  | .presented => !s.awaitsTake
  | _ => false

/-- A ticket has become READY: a label start is attempted where one may be (R160). -/
def State.tryStart (s : State) : State :=
  if s.atRest = true ∧ s.oldestReady = true ∧ s.media.pausePending = false then s.attempt else s

/-! ## Completion and presentation (R161, R171) -/

/-- The presentation of a completed label: a forward feed, or at a distance of 0 the present position at
once (R171). -/
def State.present (distance : Nat) (under : Presentation) (s : State) : State :=
  let s1 : State := { s with media := { s.media with presentedUnder := under } }
  if distance = 0 then State.beginOrRest { s1 with media := { s1.media with out := some 0 } }
  else s1.startMotion (.present distance 0) .presenting false false

/-- What the engine does after a completion (R161, R171). -/
def State.afterCompletion (distance : Nat) (s : State) : State :=
  match s.battery.settings.presentation with
  | .peel => s.present distance .peel
  | .tear =>
    if s.someReady = false ∧ distance ≠ 0 then s.present distance .tear else s.beginOrRest
  | .stream => s.beginOrRest

/-- The last media event after a completion: NONE when good gaps and no others were judged (Table 8-5). -/
def Media.completionEvent (m : Media) : MediaEvent := if m.goodSeen && !m.badSeen then .none else m.event

/-- A label completes: the Job Queue takes the completion, the stretched lines become those of the last label,
and the engine goes on (R109, R152, R161). -/
def State.completeLabel (s : State) : State :=
  match s.printing with
  | some t =>
    let distance := match s.burn.values with
      | some v => v.presentDistance
      | none => 0
    let s1 : State :=
      { s with
        burn := { s.burn with stretchedLast := s.burn.stretchedLabel }
        media := { s.media with event := s.media.completionEvent, motion := none, labelLine := .none } }
    (s1.completeTicket t).afterCompletion distance
  | none => s

/-! ## Faults (R168 to R170) -/

/-- The causes of both sets. -/
def Causes.union (a b : Causes) : Causes :=
  { headOpen := a.headOpen || b.headOpen
    mediaOut := a.mediaOut || b.mediaOut
    mediaLost := a.mediaLost || b.mediaLost
    headFault := a.headFault || b.headFault }

/-- The presentation that a motion stopped where it stands leaves (R169). -/
def Media.outStopped (m : Media) : Option Nat :=
  match m.motion with
  | some { kind := .present _ fed, .. } => some fed
  | some { kind := .backfeed left, .. } => some left
  | _ => m.out

/-- The cause joins, and the engine enters FAULT from whatever state it was in, its motion stopped; hold
reasons are set aside when `keep`, withdrawn otherwise (R169). -/
def Media.enterFault (causes : Causes) (keep : Bool) (m : Media) : Media :=
  { m with
    engine := .fault
    causes := m.causes.union causes
    out := m.outStopped
    motion := if keep then m.motion else none
    pausePending := m.pausePending || decide (m.engine = .paused)
    setAside := if keep then m.setAside.union m.holds else Holds.empty
    holds := Holds.empty }

/-- The PRINTING ticket dealt with as HEAD_OPEN, MEDIA_OUT or MEDIA_LOST joins the causes: voided when its
burned flag is set, READY again otherwise (R169). -/
def State.dropPrinting (s : State) : State :=
  match s.printing with
  | some t =>
    let s1 : State := { s with media := { s.media with labelLine := .none } }
    if t.burned then State.voidTicket t { s1 with burn := { s1.burn with stretchedLabel := 0 } }
    else { s1 with queue := s1.queue.updateTicket t.key fun k => { k with state := .ready } }
  | none => s

/-- A fault cause arises (R168, R169). With HEAD_FAULT alone a PRINTING ticket stays PRINTING and hold reasons
are set aside; with any other cause the ticket is voided or withdrawn. -/
def State.addCause (causes : Causes) (s : State) : State :=
  let drops := causes.headOpen || causes.mediaOut || causes.mediaLost
  let keep := !drops && s.printing.isSome
  let line := s.burn.line
  let s1 := s.cutLine.transit (Media.enterFault causes keep)
  if drops then s1.dropPrinting else s1.freeCut line

/-- HEAD_OPEN alone. -/
def Causes.onlyHeadOpen : Causes := { Causes.empty with headOpen := true }
/-- MEDIA_OUT alone. -/
def Causes.onlyMediaOut : Causes := { Causes.empty with mediaOut := true }
/-- MEDIA_LOST alone. -/
def Causes.onlyMediaLost : Causes := { Causes.empty with mediaLost := true }
/-- HEAD_FAULT alone. -/
def Causes.onlyHeadFault : Causes := { Causes.empty with headFault := true }

/-- The last media event set (R176). -/
def State.setEvent (e : MediaEvent) (s : State) : State := { s with media := { s.media with event := e } }

/-- Registration is lost: the count 256, the event LOST, FAULT with MEDIA_LOST (R164 to R167). -/
def State.loseMedia (s : State) : State := ((s.setCount 256).setEvent .lost).addCause Causes.onlyMediaLost

/-- Printing taken up again where the label stood. The notice of the exit is offered its room before the held line start
is taken again, so that a new hold found there has an ENGINE notice of its own (R153, R158, R170, R177, R185). -/
def State.resumePrinting (s : State) : State :=
  let s1 := s.transit fun m => { m with engine := .printing, holds := Holds.empty, setAside := Holds.empty }
  match s1.media.labelLine with
  | .standing n => s1.placeEngine.lineStart n
  | _ => s1

/-- The path taken on leaving FAULT (R170). -/
def State.faultPath (s : State) : State :=
  if s.printing.isSome then
    if s.media.setAside.none then s.resumePrinting
    else s.transit fun m => { m with engine := .hold, holds := m.setAside, setAside := Holds.empty }
  else if s.media.causes.mediaLost then
    if s.battery.settings.pitch = 0 then s.startMotion (.calibrateSeek 0) .calibrating false true
    else s.startMotion (.recoverySeek 0) .resync false true
  else if s.battery.settings.registered then s.startResync false
  else s.beginOrRest

/-- The causes set, with nothing else of the Media Tracker. -/
def State.setCauses (causes : Causes) (s : State) : State := { s with media := { s.media with causes := causes } }

/-- A condition clears: its cause leaves the set. In FAULT, with auto-resume on and no condition cause left, it
is a trigger to leave FAULT, and the notice of the exit names the causes that stood before it; start-up leaves no FAULT
(R168, R170, R177, R198). -/
def State.clearCause (f : Causes → Causes) (s : State) : State :=
  let causes := f s.media.causes
  if causes = s.media.causes then s
  else if s.media.engine = .fault ∧ s.battery.settings.autoResume = true ∧ causes.condition = false
      ∧ s.isRunning = true then
    s.faultPath.setCauses causes
  else s.transit fun m => { m with causes := causes }

/-! ## Holds cleared (R162) -/

/-- A hold reason reported cleared, in HOLD or set aside; when the last one clears in HOLD the engine returns
to PRINTING and the held line start is taken again (R162). -/
def State.clearHold (f : Holds → Holds) (s : State) : State :=
  match s.media.engine with
  | .hold =>
    if f s.media.holds = s.media.holds then s
    else if (f s.media.holds).none then s.resumePrinting
    else { s with media := { s.media with holds := f s.media.holds } }
  | .fault => { s with media := { s.media with setAside := f s.media.setAside } }
  | _ => s

/-- A hold reason that stands, in HOLD or set aside in FAULT (R162). -/
def Media.standing (m : Media) : Holds :=
  match m.engine with
  | .hold => m.holds
  | .fault => m.setAside
  | _ => Holds.empty

end Sys2Proof.Machine
end

