-- ==== Sys2Proof/Machine/MotorOps.lean ====
section
/-! DEFINITION. A motor step and what follows it: the edge distance, the judgement of edges, the limits of
the feeds, media out, and the arrival at the next line, label top or feed end (R161, R163 to R168, R171).
The consequences of one step are taken in a fixed order (log entry 14). -/

namespace Sys2Proof.Machine

/-- The motor runs backward in a backfeed alone (R171). -/
def MotionKind.forward : MotionKind → Bool
  | .backfeed _ => false
  | _ => true

/-- The feeds that seek their first leading edge, which leave d and the high mark alone (R163). -/
def MotionKind.seeks : MotionKind → Bool
  | .resyncSeek _ => true
  | .recoverySeek _ => true
  | .calibrateSeek _ => true
  | .calibrateGap _ _ => true
  | .calibratePitch _ _ _ => true
  | _ => false

/-- The motions in which edges are judged (R163). -/
def MotionKind.judges : MotionKind → Bool
  | .label => true
  | .feedTop => true
  | .feedLines _ => true
  | .present _ _ => true
  | .resyncRun => true
  | .recoveryJudge _ _ => true
  | .recoveryRun => true
  | _ => false

/-- A motion's progress by one step. -/
def MotionKind.advance : MotionKind → MotionKind
  | .resyncSeek fed => .resyncSeek (fed + 1)
  | .recoverySeek fed => .recoverySeek (fed + 1)
  | .recoveryJudge fed run => .recoveryJudge (fed + 1) run
  | .calibrateSeek fed => .calibrateSeek (fed + 1)
  | .calibrateGap fed since => .calibrateGap (fed + 1) (since + 1)
  | .calibratePitch fed since gap => .calibratePitch (fed + 1) (since + 1) gap
  | .feedLines left => .feedLines (left - 1)
  | .present left fed => .present (left - 1) (fed + 1)
  | .backfeed left => .backfeed (left - 1)
  | k => k

/-- The kind of the motion in progress changed. -/
def State.setKind (k : MotionKind) (s : State) : State :=
  { s with media := { s.media with motion := s.media.motion.map fun m => { m with kind := k } } }

/-- The next step of the motion due at a time. -/
def State.setDue (t : Nat) (s : State) : State :=
  { s with media := { s.media with motion := s.media.motion.map fun m => { m with due := t } } }

/-- The burn line stands at a label top (R163). -/
def State.atLabelTop (s : State) : Bool :=
  decide ((s.media.d - (128 + (s.battery.settings.gapLength : Int))) % (s.battery.settings.pitch : Int) = 0)

/-- The reference edge set: d and the high mark 0 (R163). -/
def State.setReference (s : State) : State := { s with media := { s.media with d := 0, high := 0 } }

/-! ## Arrival (R160, R161, R165 to R167, R171, R173) -/

/-- The end of a motion: the next preliminary of a label start, or the end of a feed. -/
def State.endMotion (m : Motion) (s : State) : State :=
  let s1 : State := { s with media := { s.media with motion := none } }
  if m.forLabel then
    match m.kind with
    | .backfeed _ => s1.prelimCalibrate
    | _ => s1.settleStart
  else s1.beginOrRest

/-- The motor step off a line of the PRINTING label, or a step of its tail (R153, R161). A label whose last line was cut
short completes with it too (log entry 47). -/
def State.arriveLabel (s : State) : State :=
  let length := match s.printing with
    | some t => t.length.getD 0
    | none => 0
  let period := match s.burn.values with
    | some v => v.period
    | none => 0
  let tail := fun (x : State) =>
    if x.battery.settings.registered = true ∧ x.atLabelTop = false then
      State.setDue (x.now + period) { x with media := { x.media with labelLine := .tail } }
    else x.completeLabel
  match s.media.labelLine with
  | .stepping n =>
    if n + 1 < length then
      State.lineStart (n + 1) { s with media := { s.media with labelLine := .standing (n + 1) } }
    else tail s
  | .tail => tail s
  | _ => s

/-- What a motion does where the step has brought it. -/
def State.arrive (s : State) : State :=
  match s.media.motion with
  | none => s
  | some m =>
    let more := s.setDue (s.now + Config.feedPeriod)
    let top := if s.atLabelTop then s.endMotion m else more
    match m.kind with
    | .label => s.arriveLabel
    | .resyncRun => top
    | .recoveryRun => top
    | .calibrateRun => top
    | .feedTop => top
    | .feedLines left => if left = 0 then s.endMotion m else more
    | .present left fed =>
      if left = 0 then State.endMotion m { s with media := { s.media with out := some fed } } else more
    | .backfeed left =>
      if left = 0 then State.endMotion m { s with media := { s.media with out := none } } else more
    | _ => more

/-! ## Limits and media out (R165 to R168) -/

/-- A media out that the step brings: the gap run above 160 in forward motion (R168). -/
def State.checkMediaOut (s : State) : State :=
  if 160 < s.media.gapRun then { s with media := { s.media with due := some .mediaOut } } else s.arrive

/-- The limit a feed has reached without its end, if any (R165 to R167). -/
def limitOf (pitch : Nat) : MotionKind → Option StepDue
  | .resyncSeek fed => if 2 * pitch ≤ fed then some .resyncNoEdge else none
  | .recoverySeek fed => if 8 * pitch ≤ fed then some .recoveryLimit else none
  | .recoveryJudge fed _ => if 8 * pitch ≤ fed then some .recoveryLimit else none
  | .calibrateSeek fed => if 8200 ≤ fed then some .calibrationLimit else none
  | .calibrateGap fed _ => if 8200 ≤ fed then some .calibrationLimit else none
  | .calibratePitch fed _ _ => if 8200 ≤ fed then some .calibrationLimit else none
  | _ => none

/-- The limits, then media out. -/
def State.checkLimit (s : State) : State :=
  match s.media.motion with
  | some m =>
    match limitOf s.battery.settings.pitch m.kind with
    | some due => { s with media := { s.media with due := some due } }
    | none => if m.kind.forward then s.checkMediaOut else s.arrive
  | none => s.checkMediaOut

/-! ## Judgement (R163, R164, R166) -/

/-- The count raised by 8, not above 256; at 256 registration is lost (R163, R164). -/
def State.raiseCount (s : State) : State :=
  let n := min 256 (s.media.count + 8)
  if n = 256 then s.loseMedia else s.setCount n

/-- A good gap: the count falls by 1, the edge is the reference; in a recovery feed the run rises instead, and
at 3 the recovery succeeds (R163, R166). -/
def State.goodGap (s : State) : State :=
  let s1 := { s.setReference with media := { s.setReference.media with goodSeen := true } }
  match s.media.motion with
  | some { kind := .recoveryJudge fed run, .. } =>
    if run + 1 = 3 then
      let s2 := (s1.setCount 0).setEvent .none
      State.setKind .recoveryRun
        { s2 with media := { s2.media with causes := { s2.media.causes with mediaLost := false } } }
    else s1.setKind (.recoveryJudge fed (run + 1))
  | _ => s1.setCount (s.media.count - 1)

/-- An early gap: the count rises by 8; in a recovery feed the run becomes 0 (R163, R166). -/
def State.earlyGap (s : State) : State :=
  let s1 := { s with media := { s.media with event := .earlyGap, badSeen := true } }
  match s.media.motion with
  | some { kind := .recoveryJudge fed _, .. } => s1.setKind (.recoveryJudge fed 0)
  | _ => s1.raiseCount

/-- A missed gap: the tracker coasts and the count rises by 8; in a recovery feed the run becomes 0 (R163,
R166). -/
def State.missGap (s : State) : State :=
  let p : Int := s.battery.settings.pitch
  let s1 : State :=
    { s with
      media := { s.media with event := .missedGap, badSeen := true, d := s.media.d - p, high := s.media.d - p } }
  match s.media.motion with
  | some { kind := .recoveryJudge fed _, .. } => s1.setKind (.recoveryJudge fed 0)
  | _ => s1.raiseCount

/-- A calibration's second edge: P and G written and the tracker set on them, or the failure of a P outside 16
to 4,100 (R167). -/
def State.endCalibration (pitch gap : Nat) (forRecovery : Bool) (s : State) : State :=
  if 16 ≤ pitch ∧ pitch ≤ 4100 then
    let battery := Battery.checked
      { s.battery with settings := { s.battery.settings with pitch := pitch, gapLength := gap } }
    let s1 := ((State.setReference { s with battery := battery }).setCount 0).setEvent .calibrated
    let causes := if forRecovery then { s1.media.causes with mediaLost := false } else s1.media.causes
    State.printableChanged (State.setKind .calibrateRun { s1 with media := { s1.media with causes := causes } })
  else s.loseMedia

/-- An edge judged against the pitch at a step that passed the high mark (R163); at a step that took a miss it
is early (log entry 43). -/
def State.judgeEdge (missed : Bool) (s : State) : State :=
  let p : Int := s.battery.settings.pitch
  if !missed && decide (p - 16 ≤ s.media.d ∧ s.media.d ≤ p + 16) then s.goodGap else s.earlyGap

/-- The step's readings taken by the motion in progress: an edge found, judged or measured (R163, R165 to
R167). `edge` is a change from media to gap, `fell` one from gap to media. -/
def State.takeEdge (missed fresh edge fell : Bool) (s : State) : State :=
  match s.media.motion with
  | none => s
  | some m =>
    match m.kind with
    | .resyncSeek _ => if edge then s.setReference.setKind .resyncRun else s
    | .recoverySeek fed => if edge then s.setReference.setKind (.recoveryJudge fed 0) else s
    | .calibrateSeek fed => if edge then s.setKind (.calibrateGap fed 0) else s
    | .calibrateGap fed since => if fell then s.setKind (.calibratePitch fed since since) else s
    | .calibratePitch _ since gap => if edge then s.endCalibration since gap m.forRecovery else s
    | k => if edge && fresh && k.judges && s.battery.settings.registered then s.judgeEdge missed else s

/-- The consequences of a step after the miss it may have taken. -/
def State.afterMiss (missed fresh edge fell : Bool) (s : State) : State := (s.takeEdge missed fresh edge fell).checkLimit

/-! ## The step (R161, R163, R168) -/

/-- The motor may step: a motion past its wake, with nothing of the step before it still due; a label's motor
waits for its line (R153, R161, R175). -/
def State.canStep (s : State) : Bool :=
  s.isAwake && s.media.due.isNone &&
    match s.media.motion with
    | some m =>
      m.wake.isNone &&
        match m.kind with
        | .awaitStart => false
        | .label =>
          decide (s.media.engine = .printing) &&
            match s.media.labelLine with
            | .stepping _ => true
            | .tail => true
            | _ => false
        | _ => true
    | none => false

/-- The gap run after a forward step (R168); it has no more to count once it passes 160. -/
def gapRunAfter (gap : Bool) (run : Nat) : Nat := if gap then min 161 (run + 1) else 0

/-- The tracker's figures moved on by a step (R163, R168). -/
def Media.stepped (st : Settings) (m : Motion) (gap : Bool) (md : Media) : Media :=
  let moves := st.registered && !m.kind.seeks
  let d := if m.kind.forward then md.d + 1 else md.d - 1
  { md with
    motion := some { m with kind := m.kind.advance }
    gapRun := if m.kind.forward then gapRunAfter gap md.gapRun else md.gapRun
    d := if moves then d else md.d
    high := if moves then max md.high d else md.high }

/-- A motor step with the sensor's reading after it (R161, R163). -/
def State.stepMotor (gap : Bool) (s : State) : State :=
  match s.media.motion with
  | some m =>
    let s0 := s.atLeast m.due
    let edge := gap && !s.lines.gap && m.kind.forward
    let fell := !gap && s.lines.gap && m.kind.forward
    let s1 : State :=
      { s0 with
        lines := { s0.lines with gap := gap }
        media := s0.media.stepped s.battery.settings m gap }
    let fresh := decide (s.media.high < s1.media.d)
    if fresh && m.kind.judges && s.battery.settings.registered
        && decide ((s.battery.settings.pitch : Int) + 17 ≤ s1.media.d) then
      { s1 with media := { s1.media with due := some (.missedGap edge fell) } }
    else s1.afterMiss false fresh edge fell
  | none => s

/-- A missed gap that is due, taken, and the rest of its step after it (R163). -/
def State.takeMiss (s : State) : State :=
  match s.media.due with
  | some (.missedGap edge fell) =>
    State.afterMiss true true edge fell (State.missGap { s with media := { s.media with due := none } })
  | _ => s

/-- A RESYNC feed's limit that is due, taken (R165). -/
def State.takeResyncLimit (s : State) : State :=
  if s.media.due = some .resyncNoEdge then
    State.checkMediaOut (State.loseMedia { s with media := { s.media with due := none } })
  else s

/-- A recovery feed's limit that is due, taken (R166). -/
def State.takeRecoveryLimit (s : State) : State :=
  if s.media.due = some .recoveryLimit then
    State.checkMediaOut (State.loseMedia { s with media := { s.media with due := none } })
  else s

/-- A calibration's limit that is due, taken (R167). -/
def State.takeCalibrationLimit (s : State) : State :=
  if s.media.due = some .calibrationLimit then
    State.checkMediaOut (State.loseMedia { s with media := { s.media with due := none } })
  else s

/-- A media out that is due, taken: the event MEDIA_OUT and the cause (R168, R169). -/
def State.takeMediaOut (s : State) : State :=
  if s.media.due = some .mediaOut then
    State.addCause Causes.onlyMediaOut
      (State.setEvent .mediaOut { s with media := { s.media with due := none } })
  else s

end Sys2Proof.Machine
end

