-- ==== Sys2Proof/Machine/StartUp.lean ====
section
/-! DEFINITION. Start-up: the reset of every block, the counter check, the store scan, the engine step and
the READY notice (chapter 10; R90 to R93, R179, R202, R203). -/

namespace Sys2Proof.Machine

/-! ## Reset of the blocks (R192) -/

/-- The serial rate the straps choose: 9,600, 19,200, 57,600 or 115,200 (R179, Table 11-9). -/
def rateOf (straps : BaudStraps) : Nat := (if straps.first then 1 else 0) + (if straps.second then 2 else 0)

/-- The time of a byte at a rate, in µs: 10 bit times (R179, log entry 27). -/
def byteTime (rate : Nat) : Nat :=
  if rate = 0 then 1041 else if rate = 1 then 520 else if rate = 2 then 173 else 86

/-- Every block at its values after reset; flash, battery-backed RAM and the board's levels stand, and array
operations in progress end without completing (R27, R192). -/
def State.resetBlocks (mode : Mode) (rate : Nat) (s : State) : State :=
  { s.cutArray with
    mode := mode
    array := FlashArray.afterReset
    store := RecordStore.afterReset
    queue := JobQueue.afterReset
    render := Renderer.afterReset
    burn := Burn.afterReset s.now
    media := Media.afterReset s.now
    sticky := Sticky.clear
    line := LineIf.afterReset rate
    dec := Decoder.afterReset }

/-! ## Counter check (R91 to R93, R193) -/

/-- The table is lost: the retention latch is set or the table check disagrees (R91). -/
def Battery.isLost (b : Battery) : Bool := b.latch || decide (b.check ≠ tableSum b)

/-- The table found lost: counters UNDEFINED, settings at their defaults, the lost mark set, drop records
discarded, a new check, the latch cleared (R90, R91, R193). -/
def Battery.rebuilt : Battery := Battery.checked { Battery.blank with lostMark := true }

/-- The drop record of a counter with outstanding values (R92). -/
def dropOf (id : Nat) (c : Counter) : Option Drop :=
  match c.outstanding.map Outstanding.value with
  | [] => none
  | v :: vs =>
    some { id := id, count := (v :: vs).length, lowest := vs.foldl min v, highest := vs.foldl max v }

/-- The table kept: outstanding values dropped and recorded, binding counts 0, the latch cleared (R91, R92,
R193). -/
def Battery.kept (b : Battery) : Battery :=
  let new := b.counters.zipIdx.filterMap fun p => dropOf (p.2 + 1) p.1
  Battery.checked
    { b with
      counters := b.counters.map fun (c : Counter) => { c with outstanding := [], bound := 0 }
      drops := (b.drops ++ new).insertionSort fun x y => x.id ≤ y.id
      latch := false }

/-- The counter check (R91 to R93, R193). -/
def State.counterCheck (s : State) : State :=
  let battery := if s.battery.isLost then Battery.rebuilt else s.battery.kept
  { s with
    battery := battery
    sticky := { s.sticky with
      countersLost := s.sticky.countersLost || battery.lostMark
      batteryLow := s.sticky.batteryLow || s.lines.batteryLow } }

/-! ## Store scan (R194 to R197, R203) -/

/-- How a marker byte is read (R203). -/
inductive MarkerRead where
  | writing | live | stale | other
  deriving DecidableEq, Repr

/-- A marker byte read (R203). -/
def readMarker (b : Byte) : MarkerRead :=
  if b = 0x0F ∨ b = 0x0B ∨ b = 0x07 then .writing
  else if b = 0x03 then .live
  else if b = 0x02 ∨ b = 0x01 ∨ b = 0x00 then .stale
  else .other

/-- The extent a header begins at a sector, if its fields pass: the body length is bounded from above alone, so that
one of 0 passes with an extent of 1 sector (R194, R3, Table 11-10). -/
def extentOfHeader (sector : Nat) (h : List Byte) : Option Extent :=
  match recKindOf (num h 1 1) with
  | none => none
  | some k =>
    let number := num h 2 2
    let revision := num h 4 2
    let extentLen := num h 6 1
    let bodyLen := num h 8 2
    if numberOk number && decide (1 ≤ revision) && decide (bodyLen ≤ largestBody k)
        && decide (extentLen = extentOf bodyLen) && decide (sector + extentLen ≤ Config.sectors) then
      some { kind := k, number := number, revision := revision, firstSector := sector, extentLen := extentLen,
             bodyLen := bodyLen, lock := decide (byteAt h 7 = 0x00), check := num h 10 2 }
    else none

/-- The scan's record in the mode changed. -/
def State.setScan (c : Scan) (s : State) : State := { s with mode := .startUp (.scan c) }

/-- An access of the scan issued. -/
def State.scanIssue (op : AccessOp) (s : State) : State := s.issue { client := .scan, op := op }

/-- The first page of a sector. -/
def firstPage (sector : Nat) : Nat := sectorBase sector / Config.pageSize

/-- The directory entry of a kept extent (R197). -/
def Extent.entry (e : Extent) : DirEntry :=
  { kind := e.kind, number := e.number, revision := e.revision, firstSector := e.firstSector,
    extentLen := e.extentLen, bodyLen := e.bodyLen, lock := e.lock, state := .live, pins := 0 }

/-- The sectors of kept extents. -/
def keptSectors (kept : List Extent) : List Nat := kept.flatMap fun e => extentSectors e.firstSector e.extentLen

/-- The store's RAM built from the scan (R54, R197). -/
def storeOf (c : Scan) : RecordStore :=
  { directory := c.kept.map Extent.entry
    index := c.kept.map fun e => { kind := e.kind, number := e.number, firstSector := e.firstSector }
    sectorMap := setSectors (setSectors [] (keptSectors c.kept) .held) c.dirty .queued
    eraseQueue := c.dirty
    failedStale := c.failed
    upload := none }

/-- The engine step begun: FAULT with the causes that stand, a RESYNC feed, or IDLE (R198). -/
def State.beginEngineStep (damaged duplicates : Nat) (s : State) : State :=
  let s0 : State := { s with mode := .startUp (.engine damaged duplicates) }
  let outAtOnce := decide (s.battery.settings.mediaType = .continuous) && s.lines.gap
  let causes : Causes :=
    { headOpen := s.lines.headOpen, mediaOut := outAtOnce, mediaLost := false, headFault := s.burn.sensorFault }
  if causes ≠ Causes.empty then (if outAtOnce then s0.setEvent .mediaOut else s0).addCause causes
  else if s.battery.settings.registered then s0.startResync false
  else s0

/-- The engine step ends when the engine stands IDLE or in FAULT with no motion in progress (R198). -/
def State.checkEngineStep (s : State) : State :=
  match s.mode with
  | .startUp (.engine damaged duplicates) =>
    if s.media.motion.isNone ∧ s.media.due.isNone then
      { s with mode := .startUp (.ready damaged duplicates) }
    else s
  | _ => s

/-- The next sector outside every kept extent, from one on (R197). -/
def nextOutside (kept : List Extent) (from_ : Nat) : Option Nat :=
  (List.range Config.sectors).find? fun n => decide (from_ ≤ n) && !(keptSectors kept).contains n

/-- Verification taken to the next sector outside every kept extent, or the scan's end (R197). -/
def State.verifyFrom (from_ : Nat) (c : Scan) (s : State) : State :=
  match nextOutside c.kept from_ with
  | some n =>
    let p := firstPage n
    (s.setScan { c with wait := .verify n ((List.range 15).map fun i => p + 1 + i) }).scanIssue (.read p)
  | none => State.beginEngineStep c.damaged c.duplicates { s with store := storeOf c }

/-- The next losing extent staled, or the verification begun (R196, R197). -/
def State.staleNext (losers : List Extent) (c : Scan) (s : State) : State :=
  match losers with
  | e :: rest =>
    (s.setScan { c with wait := .stale e rest, duplicates := c.duplicates + 1 }).scanIssue
      (.program (sectorBase e.firstSector) staleData)
  | [] => s.verifyFrom 0 c

/-- Whether a candidate wins over another of its kind and number: the higher revision, then the lower first
sector (R196). -/
def Extent.beats (e f : Extent) : Bool :=
  decide (f.revision < e.revision ∨ (f.revision = e.revision ∧ e.firstSector < f.firstSector))

/-- A candidate loses the resolution when another of its kind and number beats it (R196). -/
def Extent.loses (cs : List Extent) (e : Extent) : Bool :=
  cs.any fun f => decide (f.kind = e.kind ∧ f.number = e.number) && f.beats e

/-- The walk taken to a sector, or the resolution when the walk has ended (R194, R196). -/
def State.walkTo (sector : Nat) (c : Scan) (s : State) : State :=
  if sector < Config.sectors then
    (s.setScan { c with wait := .header sector }).scanIssue (.read (firstPage sector))
  else
    s.staleNext (c.candidates.filter (Extent.loses c.candidates))
      { c with kept := c.candidates.filter fun e => !e.loses c.candidates }

/-- The body of a LIVE extent read: a candidate, or damaged (R195). -/
def State.classLive (e : Extent) (c : Scan) (s : State) : State :=
  if byteSum (bodyBytes s.flash e.firstSector e.bodyLen) = e.check then
    s.walkTo (e.firstSector + e.extentLen) { c with candidates := c.candidates ++ [e] }
  else s.walkTo (e.firstSector + 1) { c with damaged := c.damaged + 1 }

/-- The next page of a LIVE extent's body, or its class (R195). DEDUCED: a body of no bytes has no page to read, and is
classed in the event of its header's read (log entry 50). -/
def State.readBody (e : Extent) (left : List Nat) (c : Scan) (s : State) : State :=
  match left with
  | p :: rest => (s.setScan { c with wait := .body e rest }).scanIssue (.read p)
  | [] => s.classLive e c

/-- A sector's header judged (R194, R195). -/
def State.judgeHeader (sector : Nat) (c : Scan) (s : State) : State :=
  let h := flashRange s.flash (sectorBase sector) 32
  match readMarker (byteAt h 0), extentOfHeader sector h with
  | .live, some e => s.readBody e (bodyPages e.firstSector 0 e.bodyLen) c
  | _, _ => s.walkTo (sector + 1) c

/-- The scan goes on at the end of one of its page reads (R194, R195, R197). -/
def State.scanRead (c : Scan) (s : State) : State :=
  match c.wait with
  | .header sector => s.judgeHeader sector c
  | .body e left => s.readBody e left c
  | .verify n (p :: rest) => (s.setScan { c with wait := .verify n rest }).scanIssue (.read p)
  | .verify n [] =>
    s.verifyFrom (n + 1) (if sectorErased s.flash n then c else { c with dirty := c.dirty ++ [n] })
  | .stale _ _ => s

/-- The scan goes on at the end of one of its stale programs; a failed one is counted by R54 and sets no
STORE_FAULT (R54, R196). -/
def State.scanProgram (failed : Bool) (c : Scan) (s : State) : State :=
  match c.wait with
  | .stale e rest =>
    let f : FailedStale :=
      { kind := e.kind, number := e.number, revision := e.revision, firstSector := e.firstSector }
    s.staleNext rest (if failed then { c with failed := c.failed ++ [f] } else c)
  | _ => s

/-- The scan at its start. -/
def Scan.begin : Scan :=
  { wait := .header 0, candidates := [], kept := [], failed := [], damaged := 0, duplicates := 0, dirty := [] }

/-- Start-up begun: every block reset, the straps read, the counter check made, the scan at sector 0 (R192). -/
def State.beginStartUp (straps : BaudStraps) (s : State) : State :=
  State.walkTo 0 Scan.begin (State.counterCheck (s.resetBlocks (.startUp (.scan Scan.begin)) (rateOf straps)))

/-! ## READY (R199, R202) -/

/-- The LIVE records of a kind. -/
def RecordStore.liveCount (k : RecKind) (st : RecordStore) : Nat :=
  st.directory.countP fun e => decide (e.kind = k ∧ e.state = .live)

/-- A READY frame: its part, the number of parts and its drop records (R202). -/
def readyFrame (s : State) (damaged duplicates part parts : Nat) (drops : List Drop) : List Byte :=
  frameBytes 0x90
    ([byte part, byte parts] ++ toBytes 2 (s.store.liveCount .format) ++ toBytes 2 (s.store.liveCount .image)
      ++ toBytes 2 (s.store.liveCount .table) ++ toBytes 2 damaged ++ toBytes 2 duplicates
      ++ toBytes 2 (countSectors s.store.sectorMap .free) ++ toBytes 2 (countSectors s.store.sectorMap .queued)
      ++ [flagByte s.battery.lostMark, byte (engineCode s.media.engine), byte (causeBits s.media.causes),
          byte (stickyBits s.sticky), byte drops.length]
      ++ drops.flatMap dropBytes)

/-- The READY notice: one frame, or two with more than 50 drop records (R202). -/
def readyNotice (s : State) (damaged duplicates : Nat) : List Byte :=
  if s.battery.drops.length ≤ 50 then readyFrame s damaged duplicates 1 1 s.battery.drops
  else readyFrame s damaged duplicates 1 2 (s.battery.drops.take 50)
    ++ readyFrame s damaged duplicates 2 2 (s.battery.drops.drop 50)

/-- READY placed in the empty output queue, CTS raised, the lost mark and the drop records cleared, start-up
ended (R193, R199). -/
def State.placeReady (s : State) : State :=
  match s.mode with
  | .startUp (.ready damaged duplicates) =>
    State.place (readyNotice s damaged duplicates)
      { s with
        mode := .running
        battery := Battery.checked { s.battery with lostMark := false, drops := [] }
        line := { s.line with cts := true }
        media := { s.media with idleSince := s.now } }
  | _ => s

end Sys2Proof.Machine
end

