-- ==== Sys2Proof/Machine/Settle.lean ====
section
/-! DEFINITION. What falls due and is taken before the next command (log entry 3): the room granted to the notices
and to the Decoder in the order of R185, the rest of a motor step, a cleared supply, and READY. -/

namespace Sys2Proof.Machine

/-- A standing SUPPLY reason whose run of samples has reached 11 clears (R157). -/
def State.takeSupplyCleared (s : State) : State :=
  if s.media.standing.supply = true ∧ 11 ≤ s.burn.supplyRun then
    State.clearHold (fun h => { h with supply := false }) { s with burn := { s.burn with supplyRun := 0 } }
  else s

/-- The oldest ENDING job's notice placed when its room is there, and the job gone (R114, R185). -/
def State.placeJobEnd (s : State) : State :=
  match s.queue.ending with
  | tag :: _ =>
    match s.queue.job tag with
    | some j =>
      if s.mayNotify = true ∧ (jobEndFrame j).length ≤ s.freeRoom then (s.place (jobEndFrame j)).departJob j
      else s
    | none => s
  | [] => s

/-- The head of the input buffer, when the Decoder waits for it, no notice waits before it and the room holds its
bound (R185, R186). -/
def State.grantable (s : State) : Option InItem :=
  match s.line.input with
  | item :: _ =>
    if s.mayNotify = true ∧ s.dec.state = .waiting ∧ s.queue.ending = [] ∧ s.media.notice = none
        ∧ replyBound item ≤ s.freeRoom then some item
    else none
  | [] => none

/-- A NAK mark at the head, taken when its room is granted and answered at once (R181, R186, R201). -/
def State.answerMark (s : State) : State :=
  match s.grantable with
  | some (.mark cause merged) => (s.takeHead (.mark cause merged)).reply 0x82 [byte (nakCode cause), byte merged]
  | _ => s

/-- The Decoder's claim granted: a frame is taken, a NAK mark taken and answered (R185, R186). -/
def State.grantHead (s : State) : State :=
  match s.grantable with
  | some (.frame kind body) => s.takeHead (.frame kind body)
  | some (.mark _ _) => s.answerMark
  | none => s

/-- Several JOB_END notices placed while their room is there, the oldest first (R114). -/
def placeJobEnds : Nat → State → State
  | 0, s => s
  | n + 1, s => placeJobEnds n s.placeJobEnd

/-- The notices granted their room: the JOB_END notices, then the ENGINE notice (R185). -/
def State.placeNotices (s : State) : State := (placeJobEnds s.queue.ending.length s).placeEngine

/-- The Decoder's claims granted one after another: a mark answered makes room for the next head (R186). -/
def grantHeads : Nat → State → State
  | 0, s => s
  | n + 1, s => grantHeads n s.grantHead

/-- The free room granted to the waiting claims in their order (R185). Each mark answered takes one item from the
buffer, where one pending overrun may join, so one more than its items is enough `fuel`. -/
def State.grantRoom (s : State) : State := grantHeads (s.line.input.length + 1) s.placeNotices

/-- What can have fallen due, in the order it is taken: the consequences of a motor step (log entry 14), a cleared
supply, the end of start-up, a geometry request that no band drawing keeps waiting any more. -/
def dueEvents : List (State → State) :=
  [State.takeMiss, State.takeResyncLimit, State.takeRecoveryLimit, State.takeCalibrationLimit, State.takeMediaOut,
    State.takeSupplyCleared, State.checkEngineStep, State.placeReady,
    State.takeGeometry]

/-- Everything that has fallen due, taken (log entry 3): first the claims to room that the last event left, then each
event in its order, the claims it makes granted with it (R185). DESIGN CHOICE: the start of an erase is not among
them; it waits for its own command (log entry 45). -/
def State.settle (s : State) : State := dueEvents.foldl (fun x event => (event x).grantRoom) s.grantRoom

/-- A command's effect on the state as it stands once everything due before it has been taken; the engine step
of start-up ends in the event that ends it. -/
def State.after (f : State → State) (s : State) : State := (f s.settle).checkEngineStep

end Sys2Proof.Machine
end

