-- ==== Sys2Proof/Machine/Uploads.lean ====
section
/-! DEFINITION. Uploads, commits, retirements and wipes, and what each does at the end of each of its
accesses (chapter 3). -/

namespace Sys2Proof.Machine

/-- The open upload abandoned (R65). -/
def State.abandonUpload (s : State) : State := { s with store := s.store.abandon }

/-- STORE_FAULT set (R2). -/
def State.setStoreFault (s : State) : State := { s with sticky := { s.sticky with storeFault := true } }

/-- The upload abandoned and its request refused (R55, R58, R60, R61). -/
def State.failUpload (reason : Reason) (detail : Nat) (s : State) : State := s.abandonUpload.refuse reason detail

/-! ## RECORD_BEGIN (R53 to R55) -/

/-- The case of R53 that refuses a RECORD_BEGIN, or the entry it creates. -/
def State.beginChecks (body : List Byte) (s : State) : Except Reason DirEntry :=
  if s.store.upload.isSome then .error .busy
  else
    match beginOf body with
    | none => .error .badValue
    | some (k, number, bodyLen, lock) =>
      if (s.store.live k number).any DirEntry.lock then .error .locked
      else if 65535 ≤ s.store.highestRevision k number then .error .revisionLimit
      else
        match freeRun s.store.sectorMap (extentOf bodyLen) with
        | none => .error .storeFull
        | some f =>
          .ok { kind := k, number := number, revision := s.store.highestRevision k number + 1, firstSector := f,
                extentLen := extentOf bodyLen, bodyLen := bodyLen, lock := lock, state := .writing, pins := 0 }

/-- An accepted RECORD_BEGIN: extent allocated, entry created, context OPEN, header program issued (R55). -/
def State.openUpload (e : DirEntry) (s : State) : State :=
  State.decoderIssue (.program (sectorBase e.firstSector) (headerData e)) .header
    { s with
      store := { s.store with
        directory := s.store.directory ++ [e]
        sectorMap := setSectors s.store.sectorMap (extentSectors e.firstSector e.extentLen) .held
        upload := some { kind := e.kind, number := e.number, revision := e.revision,
                         firstSector := e.firstSector, bodyLen := e.bodyLen, received := 0, timer := none } } }

/-- RECORD_BEGIN's own rule (R53, R55). -/
def State.runRecordBegin (body : List Byte) (s : State) : State :=
  match s.beginChecks body with
  | .error r => s.refuse r 0
  | .ok e => s.openUpload e

/-- The end of the header program (R55). -/
def State.headerEnd (failed : Bool) (s : State) : State :=
  match s.store.writing with
  | some e =>
    if failed then s.failUpload .storeFault 0
    else
      State.startUploadTimer (s.ok (toBytes 2 e.revision ++ toBytes 2 e.firstSector ++ [byte e.extentLen]))
  | none => s.refuse .noUpload 0

/-! ## RECORD_DATA (R56 to R58) -/

/-- RECORD_DATA's own rule (R56, R57). -/
def State.runRecordData (body : List Byte) (s : State) : State :=
  let offset := num body 0 2
  let data := body.drop 2
  match s.store.upload with
  | none => s.refuse .noUpload 0
  | some u =>
    if data.length = 0 ∨ 1000 < data.length then s.refuse .badLength 0
    else if offset ≠ u.received then s.refuse .outOfSequence u.received
    else if u.bodyLen < offset + data.length then s.refuse .badLength 0
    else
      match cutPages data.length (bodyAddr u.firstSector offset) data with
      | (a, piece) :: rest => s.decoderIssue (.program a piece) (.data data.length rest)
      | [] => s

/-- The end of a page program of a RECORD_DATA (R57, R58). -/
def State.dataEnd (failed : Bool) (len : Nat) (left : List (Nat × List Byte)) (s : State) : State :=
  if failed then s.failUpload .storeFault 0
  else
    match left with
    | (a, piece) :: rest => s.decoderIssue (.program a piece) (.data len rest)
    | [] =>
      match s.store.upload with
      | some u =>
        State.ok (toBytes 2 (u.received + len))
          { s with store := { s.store with upload := some { u with received := u.received + len } } }
      | none => s.refuse .noUpload 0

/-! ## RECORD_END (R45, R50, R59 to R63) -/

/-- RECORD_END's own rule up to the first read of the body check pass (R59, R60). -/
def State.runRecordEnd (body : List Byte) (s : State) : State :=
  let check := num body 0 2
  match s.store.upload with
  | none => s.refuse .noUpload 0
  | some u =>
    if u.received < u.bodyLen then s.refuse .incomplete u.received
    else
      match bodyPages u.firstSector 0 u.bodyLen with
      | p :: rest => s.decoderIssue (.read p) (.bodyCheck check rest)
      | [] => s

/-- The body bytes read once a page has been read (R45). -/
def bytesReadAfter (u : Upload) (page : Nat) : Nat :=
  min u.bodyLen ((page + 1) * Config.pageSize - bodyAddr u.firstSector 0)

/-- The next page read of content validation (R45). -/
def State.readForValidation (check : Nat) (pages : List Nat) (pass : Pass) (u : Upload) (s : State) : State :=
  match pages with
  | p :: rest => s.decoderIssue (.read p) (.validate check rest (bytesReadAfter u p) pass)
  | [] => s.failUpload .recordInvalid pass.offset

/-- The end of a read of the body check pass: the next, or the sum compared (R60). -/
def State.bodyCheckEnd (check : Nat) (left : List Nat) (s : State) : State :=
  match left with
  | p :: rest => s.decoderIssue (.read p) (.bodyCheck check rest)
  | [] =>
    match s.store.upload with
    | some u =>
      let sum := byteSum (bodyBytes s.flash u.firstSector u.bodyLen)
      if sum = check then
        s.readForValidation check (bodyPages u.firstSector 0 u.bodyLen) (Pass.begin u.kind) u
      else s.failUpload .checkMismatch sum
    | none => s.refuse .noUpload 0

/-- Validation passed: the commit program issued, the previous LIVE entry looked up (R61). -/
def State.issueCommit (check : Nat) (u : Upload) (s : State) : State :=
  s.decoderIssue (.program (sectorBase u.firstSector) (commitData check))
    (.commit ((s.store.live u.kind u.number).map DirEntry.ref))

/-- The end of a read of content validation: the items it completes are judged (R45, R46, R50, R61). -/
def State.validateEnd (check : Nat) (left : List Nat) (read : Nat) (pass : Pass) (s : State) : State :=
  match s.store.upload with
  | some u =>
    match Pass.run u.bodyLen (bodyBytes s.flash u.firstSector read) (u.bodyLen + 2) pass with
    | .go q => s.readForValidation check left q u
    | .more => s.readForValidation check left pass u
    | .fault o => s.failUpload .recordInvalid o
    | .passed => s.issueCommit check u
  | none => s.refuse .noUpload 0

/-- The previous LIVE entry at a commit's directory change: SUPERSEDED when pinned, DEAD otherwise (R63). -/
def RecordStore.supersede (previous : DirEntry) (st : RecordStore) : RecordStore :=
  if 0 < previous.pins then st.update previous.ref fun e => { e with state := .superseded }
  else st.kill [previous]

/-- The directory change of a commit (R63). -/
def RecordStore.commit (u : Upload) (previous : Option DirEntry) (st : RecordStore) : RecordStore :=
  let st1 := match previous with
    | some p => st.supersede p
    | none => st
  { st1 with
    directory := st1.directory.map fun (e : DirEntry) => if e.state = .writing then { e with state := .live } else e
    index := dropIndex st1.index u.kind u.number
      ++ [{ kind := u.kind, number := u.number, firstSector := u.firstSector }]
    upload := none }

/-- The directory change and the reply of a commit (R62, R63, Table 11-12). -/
def State.finishCommit (previous : Option RecRef) (staleFailed : Bool) (s : State) : State :=
  match s.store.upload with
  | some u =>
    let entry := previous.bind s.store.entry
    let state := match entry with
      | some p => if 0 < p.pins then 1 else 2
      | none => 0
    let revision := match previous with
      | some p => p.revision
      | none => 0
    State.ok (toBytes 2 u.revision ++ toBytes 2 revision ++ [byte state, flagByte staleFailed])
      { s with store := s.store.commit u entry }
  | none => s.refuse .noUpload 0

/-- A stale program of a version's header page issued (R4, R5). -/
def State.issueStale (r : RecRef) (work : Work) (s : State) : State :=
  match s.store.entry r with
  | some e => s.decoderIssue (.program (sectorBase e.firstSector) staleData) work
  | none => s

/-- The end of the commit program (R61, R62). -/
def State.commitEnd (failed : Bool) (previous : Option RecRef) (s : State) : State :=
  if failed then s.failUpload .storeFault 0
  else
    match previous with
    | some r => s.issueStale r (.staleOld r)
    | none => s.finishCommit none false

/-- An extent whose stale program failed is counted by R54 until its first sector is FREE. -/
def RecordStore.noteFailedStale (r : RecRef) (st : RecordStore) : RecordStore :=
  match st.entry r with
  | some e =>
    { st with
      failedStale := st.failedStale
        ++ [{ kind := e.kind, number := e.number, revision := e.revision, firstSector := e.firstSector }] }
  | none => st

/-- The state with a failed stale program counted (R54). -/
def State.noteStale (failed : Bool) (r : RecRef) (s : State) : State :=
  if failed then { s with store := s.store.noteFailedStale r } else s

/-- The end of the stale program of the previous LIVE entry (R62). -/
def State.staleOldEnd (failed : Bool) (r : RecRef) (s : State) : State :=
  (s.noteStale failed r).finishCommit (some r) failed

/-! ## RECORD_ABANDON (R66) -/

/-- RECORD_ABANDON's own rule (R66). -/
def State.runRecordAbandon (s : State) : State :=
  match s.store.upload with
  | none => s.refuse .noUpload 0
  | some u =>
    State.ok ([byte (recKindCode u.kind)] ++ toBytes 2 u.number ++ toBytes 2 u.revision ++ toBytes 2 u.received)
      s.abandonUpload

/-! ## RECORD_RETIRE (R67, R68) -/

/-- RECORD_RETIRE's own rule up to its stale program (R67). -/
def State.runRecordRetire (body : List Byte) (s : State) : State :=
  match nameOf body with
  | none => s.refuse .badValue 0
  | some (k, n) =>
    match s.store.live k n with
    | none => s.refuse .notFound 0
    | some e => if e.lock then s.refuse .locked 0 else s.issueStale e.ref (.retire e.ref)

/-- The directory change of a retirement (R67). -/
def RecordStore.retire (e : DirEntry) (st : RecordStore) : RecordStore :=
  let st1 := if 0 < e.pins then st.update e.ref fun x => { x with state := .retired } else st.kill [e]
  { st1 with index := dropIndex st1.index e.kind e.number }

/-- The end of the stale program of a retirement (R67, R68). -/
def State.retireEnd (failed : Bool) (r : RecRef) (s : State) : State :=
  match s.store.entry r with
  | some e =>
    if failed then s.refuse .storeFault 0
    else
      State.ok (toBytes 2 e.revision ++ [byte (if 0 < e.pins then 1 else 2), byte e.pins])
        { s with store := s.store.retire e }
  | none => s.refuse .storeFault 0

/-! ## STORE_WIPE (R71, R72) -/

/-- The last event of a wipe: upload abandoned, last-label record cleared, every entry DEAD, the index empty
(R72). -/
def State.finishWipe (failed : Nat) (s : State) : State :=
  let dead := s.store.directory
  let sectors := (dead.map DirEntry.extentLen).sum
  State.ok (toBytes 2 dead.length ++ toBytes 2 sectors ++ toBytes 2 failed)
    { s with
      store := { s.store.kill dead with index := [], upload := none }
      queue := { s.queue with last := none } }

/-- The next stale program of a wipe, or its last event (R72). -/
def State.wipeNext (left : List RecRef) (failed : Nat) (s : State) : State :=
  match left with
  | r :: rest => s.issueStale r (.wipe r rest failed)
  | [] => s.finishWipe failed

/-- STORE_WIPE's own rule up to its first stale program (R71, R72). -/
def State.runStoreWipe (service : Bool) (s : State) : State :=
  if !service then s.refuse .serviceLine 0
  else if s.queue.jobs ≠ [] ∨ s.queue.tickets ≠ [] then s.refuse .inUse 0
  else if s.queue.reprint = true ∨ (s.media.engine ≠ .idle ∧ s.media.engine ≠ .off) then s.refuse .busy 0
  else
    s.wipeNext ((bySector (s.store.directory.filter fun e => decide (e.state = .live))).map DirEntry.ref) 0

/-- The end of a stale program of a wipe (R54, R72). -/
def State.wipeEnd (failed : Bool) (r : RecRef) (left : List RecRef) (failures : Nat) (s : State) : State :=
  (s.noteStale failed r).wipeNext left (failures + (if failed then 1 else 0))

/-! ## The end of a program of the request in execution -/

/-- The request in execution goes on at the end of one of its programs. -/
def State.decoderProgram (failed : Bool) (s : State) : State :=
  match s.dec.work with
  | .header => s.headerEnd failed
  | .data len left => s.dataEnd failed len left
  | .commit previous => s.commitEnd failed previous
  | .staleOld r => s.staleOldEnd failed r
  | .retire r => s.retireEnd failed r
  | .wipe r left failures => s.wipeEnd failed r left failures
  | _ => s

end Sys2Proof.Machine
end

