-- ==== Sys2Proof/Machine/Submission.lean ====
section
/-! DEFINITION. JOB_SUBMIT: its checks, the reads it makes, and the binding (section 5.2). -/

namespace Sys2Proof.Machine

/-- The LIVE format a job names, as it stands in flash (R97). -/
def State.liveFormat (s : State) (items : JobItems) : Format :=
  match s.store.live .format items.format with
  | some e => parseFormat (s.entryBody e)
  | none => parseFormat []

/-- The binding of a job whose checks all pass: pins, binding counts, the record, its place (R100, R201). -/
def State.bindJob (items : JobItems) (s : State) : State :=
  let format := s.liveFormat items
  match s.store.bind ((RecKind.format, items.format) :: format.records) with
  | .error _ => s.refuse .unresolved 0
  | .ok (refs, store) =>
    match firstUndefined format.counterSet s.battery with
    | some _ => s.refuse .unresolved 0
    | none =>
      let s1 : State :=
        { s.withCounters (bindCounters format.counterSet s.battery.counters) with
          store := store
          queue := { s.queue with jobs := insertJob (Job.create items refs format.counterSet) s.queue.jobs } }
      State.ok
        ([byte (s1.queue.position items.tag), byte refs.length]
          ++ refs.flatMap fun r => byte (recKindCode r.kind) :: toBytes 2 r.number ++ toBytes 2 r.revision)
        s1.boundary

/-- Every counter of a source is ACTIVE or EXHAUSTED (R97, check 3). -/
def State.countersDefined (s : State) (src : List SourcePart) : Bool :=
  (firstUndefined (sourceCounters src) s.battery).isNone

/-- The LIVE symbol table of a number, as it stands in flash (R97). -/
def State.liveTable (s : State) (table : Nat) : SymbolTable :=
  match s.store.live .table table with
  | some e => parseTable (s.entryBody e)
  | none => parseTable []

/-- The page reads of the LIVE symbol table of a number (R97, R140). -/
def State.tablePages (s : State) (table : Nat) : List Nat :=
  match s.store.live .table table with
  | some e => bodyPages e.firstSector 0 e.bodyLen
  | none => []

/-- The checks of a BARCODE field against its table: BAD_DATA or NO_FIT, or none (R98, R99). -/
def barcodeRefusal (b : Battery) (items : JobItems) (format : Format) (t : SymbolTable) (f : Field) :
    Option Reason :=
  match f.kind with
  | .barcode _ m barHeight ratio _ quiet readable maxWidth src =>
    let data := canProduce b items.slots src
    if !t.dataOk data then some .badData
    else
      let size := t.footprint m ratio quiet barHeight readable data
      if maxWidth ≠ 0 ∧ maxWidth < size.1 then some .noFit
      else if fitsLabel format (f.originX + items.shiftX) (f.originY + items.shiftY) (turned f.rotation size) then none
      else some .noFit
  | _ => none

/-- The checks of a field of the LIVE format against the LIVE symbol table it names (R98, R99). -/
def State.fieldRefusal (s : State) (items : JobItems) (f : Field) : Option Reason :=
  match f.kind with
  | .barcode n _ _ _ _ _ _ _ _ => barcodeRefusal s.battery items (s.liveFormat items) (s.liveTable n) f
  | _ => none

/-- The fields checked one by one from a place of the list on (R97). A BARCODE field whose references stand
waits for the reads of its table, where the table has pages to read; the job is bound when every field has passed. -/
def State.submitFields (items : JobItems) : List Field → Nat → State → State
  | [], _, s => s.bindJob items
  | f :: fs, i, s =>
    match f.kind with
    | .image n _ =>
      if (s.store.live .image n).isNone then s.refuse .unresolved f.id
      else State.submitFields items fs (i + 1) s
    | .text _ _ _ _ src =>
      if s.countersDefined src then State.submitFields items fs (i + 1) s else s.refuse .unresolved f.id
    | .barcode n _ _ _ _ _ _ _ src =>
      if (s.store.live .table n).isNone then s.refuse .unresolved f.id
      else if !s.countersDefined src then s.refuse .unresolved f.id
      else
        match s.tablePages n with
        | p :: rest => s.askGeometry items i p rest
        | [] =>
          match s.fieldRefusal items f with
          | some r => s.refuse r f.id
          | none => State.submitFields items fs (i + 1) s
    | _ => State.submitFields items fs (i + 1) s

/-- The end of a read of the format's body: the next, or the check of its fields (R97). -/
def State.submitFormatEnd (items : JobItems) (left : List Nat) (s : State) : State :=
  match left with
  | p :: rest => s.decoderIssue (.read p) (.submitFormat items rest)
  | [] => s.submitFields items (s.liveFormat items).fields 0

/-- The geometry of a BARCODE field answered: the field's checks, and the fields after it (R97 to R99, R140). -/
def State.geometryDone (items : JobItems) (field : Nat) (s : State) : State :=
  match (s.liveFormat items).fields.drop field with
  | f :: fs =>
    match s.fieldRefusal items f with
    | some r => s.refuse r f.id
    | none => s.submitFields items fs (field + 1)
  | [] => s.bindJob items

/-- The end of a read of a symbol table: the next, or the geometry's answer, after which the renderer goes on with its
band drawings unless a further request was made with it (R140, log entry 51). -/
def State.submitTableEnd (items : JobItems) (field : Nat) (left : List Nat) (s : State) : State :=
  match left with
  | p :: rest => s.readTable items field p rest
  | [] => ((s.await .none).geometryDone items field).renderNext

/-- JOB_SUBMIT's own rule up to the first read of the format's body (R96, R97). -/
def State.runJobSubmit (body : List Byte) (s : State) : State :=
  match jobItemsOf body with
  | .error r => s.refuse r 0
  | .ok items =>
    if Config.maxJobs ≤ s.queue.jobs.length then s.refuse .queueFull 0
    else if (s.queue.job items.tag).isSome then s.refuse .duplicateTag 0
    else
      match s.store.live .format items.format with
      | none => s.refuse .unresolved 0
      | some e =>
        match bodyPages e.firstSector 0 e.bodyLen with
        | p :: rest => s.decoderIssue (.read p) (.submitFormat items rest)
        | [] => s.submitFields items (s.liveFormat items).fields 0

/-- The request in execution goes on at the end of one of its page reads. -/
def State.decoderRead (s : State) : State :=
  match s.dec.work with
  | .bodyCheck check left => s.bodyCheckEnd check left
  | .validate check left read pass => s.validateEnd check left read pass
  | .submitFormat items left => s.submitFormatEnd items left
  | .submitTable items field left => s.submitTableEnd items field left
  | _ => s

end Sys2Proof.Machine
end

