-- ==== Sys2Proof/Machine/Flash.lean ====
section
/-! DEFINITION. The commands of the flash array and the erase service: PAGE_PROGRAM_END, PROGRAM_TIMEOUT,
PAGE_READ_END, ERASE_START, SUSPENSION_EFFECT, PROGRESS_WINDOW_END, ERASE_COMPLETE, ERASE_GIVE_UP. -/

namespace Sys2Proof.Machine

/-- The outcome of a command that always completes. -/
abbrev Result := Host.Outcome State Fault Refusal

/-- The partner an access was issued for goes on at the end of its program. A failed program sets
STORE_FAULT, but for a stale program of the start-up scan (R2, R196). -/
def State.afterProgram (client : Client) (failed : Bool) (s : State) : State :=
  match client with
  | .decoder => State.decoderProgram failed (if failed then s.setStoreFault else s)
  | .scan =>
    match s.mode with
    | .startUp (.scan c) => s.scanProgram failed c
    | _ => s
  | _ => s

/-- The partner an access was issued for goes on at the end of its read. -/
def State.afterRead (client : Client) (s : State) : State :=
  match client with
  | .decoder => s.decoderRead
  | .renderer =>
    State.readHand { s with render := { s.render with hand := s.render.hand.map fun h => { h with reading := false } } }
  | .scan =>
    match s.mode with
    | .startUp (.scan c) => s.scanRead c
    | _ => s
  | .orphan => s

/-- A page lies in the array (section 1.1). -/
def pageExists (page : Nat) : Bool := decide (page < Config.pages)

/-- A program that ends with its bytes as the array left them: a read-back that differs is a failed program
(R2, log entry 16). -/
def State.endProgram (client : Client) (addr : Nat) (data : List Byte) (left : Option (List Byte)) (s : State) : State :=
  let old := flashRange s.flash addr data.length
  let asked := programmed old data
  let found := leftBy old asked left
  State.afterProgram client (decide (found ≠ asked))
    (State.passOn { s with flash := flashWriteAll s.flash addr found })

/-- A program not reported ended within 3 ms: failed, its bytes any part of the way (R2, log entry 8). -/
def State.failProgram (client : Client) (addr : Nat) (data : List Byte) (s : State) : State :=
  State.afterProgram client true (State.passOn (s.cutProgram addr data))

/-- PAGE_PROGRAM_END (R2). An end reported later than 3 ms is no end: the program has failed (log entry 15). -/
def execPageProgramEnd (left : Option (List Byte)) (s : State) : Result :=
  let s0 := s.settle
  match s0.array.busy with
  | some { access := { client := client, op := .program addr data }, started := t } =>
    if pageExists (addr / Config.pageSize) then
      if s0.now - t ≤ Config.programLimit then .next (s0.endProgram client addr data left).checkEngineStep
      else .next (s0.failProgram client addr data).checkEngineStep
    else .fault .noSuchFlashAddress
  | _ => .next s0

/-- PROGRAM_TIMEOUT (R2). -/
def execProgramTimeout (s : State) : Result :=
  let s0 := s.settle
  match s0.array.busy with
  | some { access := { client := client, op := .program addr data }, started := t } =>
    if pageExists (addr / Config.pageSize) then
      .next ((s0.atLeast (t + Config.programLimit)).failProgram client addr data).checkEngineStep
    else .fault .noSuchFlashAddress
  | _ => .next s0

/-- PAGE_READ_END (R1). -/
def execPageReadEnd (s : State) : Result :=
  let s0 := s.settle
  match s0.array.busy with
  | some { access := { client := client, op := .read page }, started := t } =>
    if pageExists page then
      .next (State.afterRead client (s0.atLeast (t + Config.readTime)).passOn).checkEngineStep
    else .fault .noSuchFlashAddress
  | _ => .next s0

/-- An erase of a sector started at a time (R19). -/
def EraseRun.begin (sector now : Nat) : EraseRun :=
  { sector := sector, accumulated := 0, since := now, window := none, suspension := none }

/-- The head of the erase queue begins ERASING when the service is idle, the array free and no access waits
(R19); the service starts when start-up has ended (R27). -/
def State.startErase (s : State) : State :=
  match s.store.eraseQueue with
  | n :: rest =>
    if s.isRunning = true ∧ s.array.erase = .idle ∧ s.array.busy = none ∧ s.array.waiting = [] then
      { s with
        store := { s.store with eraseQueue := rest, sectorMap := setSector s.store.sectorMap n .erasing }
        array := { s.array with erase := .erasing (EraseRun.begin n s.now) } }
    else s
  | [] => s

/-- ERASE_START (R19). -/
def execEraseStart (s : State) : Result := .next (s.after State.startErase)

/-- A suspension takes effect 30 µs after it was taken; those 30 µs are erase time, and the accesses that wait
are served in it (R17, R20). -/
def State.takeEffect (s : State) : State :=
  match s.array.erase with
  | .erasing { sector := n, accumulated := acc, since := since, window := _, suspension := some t } =>
    let s1 := s.atLeast (t + Config.suspendLatency)
    State.passOn
      { s1 with
        array := { s1.array with
          serving := s1.array.waiting
          waiting := []
          erase := .suspended n (acc + (s1.now - since)) } }
  | _ => s

/-- SUSPENSION_EFFECT (R20). -/
def execSuspensionEffect (s : State) : Result := .next (s.after State.takeEffect)

/-- The progress window ends, and a suspension is taken if any access waits (R21). -/
def State.endWindow (s : State) : State :=
  match s.array.erase with
  | .erasing { sector := n, accumulated := acc, since := since, window := some w, suspension := p } =>
    let s1 := s.atLeast w
    { s1 with
      array := { s1.array with
        erase := .erasing
          { sector := n, accumulated := acc, since := since, window := none,
            suspension := if s1.array.waiting = [] then p else some s1.now } } }
  | _ => s

/-- PROGRESS_WINDOW_END (R21). -/
def execProgressWindowEnd (s : State) : Result := .next (s.after State.endWindow)

/-- A sector as an erase left it: every byte FFh but those given, whose bits can only have been set (log
entry 16). -/
def erasedBut (m : Memory) (sector : Nat) (residue : List (Nat × Byte)) : Memory :=
  residue.foldl
    (fun acc p =>
      if p.1 < Config.sectorSize then
        flashWrite acc (sectorBase sector + p.1) (flashRead m (sectorBase sector + p.1) ||| p.2)
      else acc)
    (flashErase m sector)

/-- The erase given up: the sector BAD, STORE_FAULT set, the service idle, the bytes free values (R23, log
entry 8). -/
def State.giveUp (n : Nat) (s : State) : State :=
  let s1 := s.setStoreFault.cutErase n
  State.passOn
    { s1 with
      store := { s1.store with sectorMap := setSector s1.store.sectorMap n .bad }
      array := { s1.array with erase := .idle } }

/-- The sector verified erased: FREE, and a failed stale program on it forgotten; the service idle and the
array passed on (R22, R54). -/
def State.freeSector (n : Nat) (s : State) : State :=
  State.passOn
    { s with
      store := { s.store with
        sectorMap := setSector s.store.sectorMap n .free
        failedStale := s.store.failedStale.filter fun f => decide (f.firstSector ≠ n) }
      array := { s.array with erase := .idle } }

/-- A reported completion: verified, and taken neither while suspended nor while a suspension is taken (R22). One
reported after more than 400 ms of accumulated time is none, and at 500 ms the erase is given up instead (R22, R23,
log entry 15). DESIGN CHOICE: the limit of 400 ms holds also for a completion put off by a suspension taken in the
last 30 µs before it, so that such an erase is never taken as complete (log entry 53). -/
def State.completeErase (residue : List (Nat × Byte)) (s : State) : State :=
  match s.array.erase with
  | .erasing r =>
    if r.suspension.isSome then s
    else if Config.eraseGiveUp ≤ r.time s.now then s.giveUp r.sector
    else if Config.eraseLimit < r.time s.now then s
    else
      let flash := erasedBut s.flash r.sector residue
      if sectorErased flash r.sector then State.freeSector r.sector { s with flash := flash }
      else { s with flash := flash }
  | _ => s

/-- ERASE_COMPLETE (R22). -/
def execEraseComplete (residue : List (Nat × Byte)) (s : State) : Result :=
  .next (s.after (State.completeErase residue))

/-- The erase reaching 500 ms of accumulated time given up (R23). -/
def State.reachGiveUp (s : State) : State :=
  match s.array.erase with
  | .erasing r => (s.atLeast (r.since + (Config.eraseGiveUp - r.accumulated))).giveUp r.sector
  | _ => s

/-- ERASE_GIVE_UP (R23). -/
def execEraseGiveUp (s : State) : Result := .next (s.after State.reachGiveUp)

end Sys2Proof.Machine
end

