-- ==== Sys2Proof/Machine/CounterRequests.lean ====
section
/-! DEFINITION. The counter requests (section 4.6) and BATTERY_LOW, BATTERY_RETENTION_LOSS (R90, R93). -/

namespace Sys2Proof.Machine

/-- One counter's record replaced in the state, with the table check (R90). -/
def State.putCounter (id : Nat) (c : Counter) (s : State) : State :=
  s.withCounters (setCounter id c s.battery.counters)

/-- The id of a counter request, if it lies in 1 to 64. -/
def idOf (body : List Byte) : Option Nat := if counterIdOk (num body 0 1) then some (num body 0 1) else none

/-- A report to the Job Queue when a request has made a counter able to issue (R84 to R86). -/
def State.reportIfAble (id : Nat) (before : Counter) (s : State) : State :=
  if !before.canIssue && (s.battery.counter id).canIssue then s.reportAble [id] else s

/-- A counter under a new definition: ACTIVE at the start value, its return list emptied; its binding count
stands (R85). -/
def Counter.define (d : CounterDef) (c : Counter) : Counter :=
  { c with state := .active, defn := d, current := d.start, returns := [] }

/-- COUNTER_DEFINE's own rule (R85). -/
def State.runCounterDefine (body : List Byte) (s : State) : State :=
  match idOf body, counterDefOf body with
  | some id, some d =>
    let c := s.battery.counter id
    if c.outstanding ≠ [] then s.refuse .inUse 0
    else if 0 < c.bound ∧ (d.width ≠ c.defn.width ∨ d.alphabet ≠ c.defn.alphabet) then s.refuse .inUse 0
    else State.ok (valueListBytes c.returns) ((s.putCounter id (c.define d)).reportIfAble id c)
  | _, _ => s.refuse .badValue 0

/-- COUNTER_DEFINE (R85). -/
def execCounterDefine (s : State) : Result := .next (s.after (State.onRequest 0x10 State.runCounterDefine))

/-- COUNTER_SET's own rule (R86). -/
def State.runCounterSet (body : List Byte) (s : State) : State :=
  let value := num body 1 8
  match idOf body with
  | none => s.refuse .badValue 0
  | some id =>
    let c := s.battery.counter id
    if c.state = .undefined then s.refuse .notFound 0
    else if c.outstanding ≠ [] then s.refuse .inUse 0
    else if value < c.defn.low ∨ c.defn.high < value then s.refuse .badValue 0
    else
      State.ok (toBytes 8 c.current ++ [byte (counterStateCode c.state)])
        ((s.putCounter id { c with current := value, state := .active }).reportIfAble id c)

/-- COUNTER_SET (R86). -/
def execCounterSet (s : State) : Result := .next (s.after (State.onRequest 0x11 State.runCounterSet))

/-- COUNTER_UNDEFINE's own rule (R87). -/
def State.runCounterUndefine (body : List Byte) (s : State) : State :=
  match idOf body with
  | none => s.refuse .badValue 0
  | some id =>
    let c := s.battery.counter id
    if c.state = .undefined then s.refuse .notFound 0
    else if 0 < c.bound ∨ c.outstanding ≠ [] then s.refuse .inUse 0
    else State.ok (valueListBytes c.returns) (s.putCounter id Counter.undefinedRecord)

/-- COUNTER_UNDEFINE (R87). -/
def execCounterUndefine (s : State) : Result := .next (s.after (State.onRequest 0x12 State.runCounterUndefine))

/-- COUNTER_CLEAR_RETURNS's own rule (R88). -/
def State.runCounterClearReturns (body : List Byte) (s : State) : State :=
  match idOf body with
  | none => s.refuse .badValue 0
  | some id =>
    let c := s.battery.counter id
    if c.state = .undefined then s.refuse .notFound 0
    else State.ok (valueListBytes c.returns) (s.putCounter id { c with returns := [] })

/-- COUNTER_CLEAR_RETURNS (R88). -/
def execCounterClearReturns (s : State) : Result :=
  .next (s.after (State.onRequest 0x13 State.runCounterClearReturns))

/-- COUNTER_READ's own rule (R89, Table 11-12). -/
def State.runCounterRead (body : List Byte) (s : State) : State :=
  match idOf body with
  | none => s.refuse .badValue 0
  | some id => s.ok (byte id :: counterBytes (s.battery.counter id))

/-- COUNTER_READ (R89). -/
def execCounterRead (s : State) : Result := .next (s.after (State.onRequest 0x14 State.runCounterRead))

/-- The battery's level against its warning level. While main power is on, a battery below it sets the sticky
flag BATTERY_LOW, watched from the end of the counter check (R93); the part held in reset has no check made. -/
def State.seeBattery (below : Bool) (s : State) : State :=
  { s with
    lines := { s.lines with batteryLow := below }
    sticky := if s.isAwake then { s.sticky with batteryLow := s.sticky.batteryLow || below } else s.sticky }

/-- BATTERY_LOW (R93). -/
def execBatteryLow (below : Bool) (s : State) : Result := .next (s.after (State.seeBattery below))

/-- The retention latch set while main power is off (R90). -/
def State.setLatch (s : State) : State :=
  if s.mode = .off then { s with battery := { s.battery with latch := true } } else s

/-- BATTERY_RETENTION_LOSS (R90). -/
def execBatteryRetentionLoss (s : State) : Result := .next (s.after State.setLatch)

end Sys2Proof.Machine
end

