-- ==== Sys2Proof/Machine/JobRequests.lean ====
section
/-! DEFINITION. The job requests: JOB_SUBMIT, JOB_CANCEL, JOB_HOLD, JOB_RELEASE, JOB_QUERY, QUEUE_LIST, REPRINT,
REPRINT_CLEAR, and the event JOB_END (chapter 5). -/

namespace Sys2Proof.Machine

/-- JOB_SUBMIT (R96 to R100). -/
def execJobSubmit (s : State) : Result := .next (s.after (State.onRequest 0x22 State.runJobSubmit))

/-! ## JOB_CANCEL (R111, R112) -/

/-- A job that a cancel can still take (R111). -/
def Job.cancellable (j : Job) : Bool := decide (j.state ≠ .ending) && !j.cancelled

/-- The jobs of some tags cancelled one after another, with how many, the tickets discarded and the counters
made able to issue (R111, R112). -/
def cancelTags : List Nat → State → State × Nat × List Nat
  | [], s => (s, 0, [])
  | tag :: tags, s =>
    let one := s.cancelJob tag
    let rest := cancelTags tags one.1
    (rest.1, one.2.discarded + rest.2.1, one.2.able ++ rest.2.2)

/-- JOB_CANCEL of every job that a cancel can take, in queue order (R111). The JOB_END notices it produces leave after
its reply (log entry 52). -/
def State.cancelAll (s : State) : State :=
  let tags := (s.queue.jobs.filter Job.cancellable).map fun j => j.items.tag
  let done := cancelTags tags s
  State.ok [byte tags.length] (done.1.afterCancel done.2.1 done.2.2)

/-- JOB_CANCEL of one tag that passes its checks (R111, R112, Table 11-12). The JOB_END notice it produces leaves after
its reply (log entry 52). -/
def State.cancelOne (tag : Nat) (s : State) : State :=
  let done := s.cancelJob tag
  let waiting := done.1.queue.hasTicket tag
  State.ok
    ([byte done.2.discarded, byte done.2.returned] ++ toBytes 2 done.2.dropped ++ [if waiting then 0 else 1])
    (done.1.afterCancel done.2.discarded done.2.able)

/-- JOB_CANCEL's own rule (R111). -/
def State.runJobCancel (body : List Byte) (s : State) : State :=
  let scope := num body 0 1
  let tag := num body 1 2
  if scope = 1 then s.cancelAll
  else if scope ≠ 0 ∨ tag = 0 then s.refuse .badValue 0
  else
    match s.queue.job tag with
    | none => s.refuse .notFound 0
    | some j => if j.cancellable then s.cancelOne tag else s.refuse .cancelLate 0

/-- JOB_CANCEL (R111, R112). -/
def execJobCancel (s : State) : Result := .next (s.after (State.onRequest 0x23 State.runJobCancel))

/-! ## JOB_HOLD and JOB_RELEASE (R102) -/

/-- The payload of JOB_HOLD and JOB_RELEASE: state and hold reasons after the request (Table 11-12). -/
def holdPayload (j : Job) : List Byte := [byte (jobStateCode j.state), byte (jobHoldBits j)]

/-- JOB_HOLD's own rule (R102). -/
def State.runJobHold (body : List Byte) (s : State) : State :=
  let tag := num body 0 2
  match s.queue.job tag with
  | none => s.refuse .notFound 0
  | some j =>
    State.ok (holdPayload { j with holdOperator := true })
      { s with queue := s.queue.updateJob tag fun k => { k with holdOperator := true } }

/-- JOB_HOLD (R102). -/
def execJobHold (s : State) : Result := .next (s.after (State.onRequest 0x20 State.runJobHold))

/-- JOB_RELEASE's own rule; a reason removed may cause a label boundary at once (R102, R104, log entry 44).
An ENGINE notice it produces leaves after its reply (log entry 52). -/
def State.runJobRelease (body : List Byte) (s : State) : State :=
  let tag := num body 0 2
  match s.queue.job tag with
  | none => s.refuse .notFound 0
  | some j =>
    let s1 : State := { s with queue := s.queue.updateJob tag fun k => { k with holdOperator := false } }
    State.ok (holdPayload { j with holdOperator := false }) (if j.holdOperator then s1.boundary else s1)

/-- JOB_RELEASE (R102). -/
def execJobRelease (s : State) : Result := .next (s.after (State.onRequest 0x21 State.runJobRelease))

/-! ## JOB_QUERY and QUEUE_LIST (R119) -/

/-- A job as JOB_QUERY reports it, its tickets apart (Table 11-12). -/
def jobBytes (position : Nat) (j : Job) : List Byte :=
  let i := j.items
  let group := match j.openGroup with
    | some g => toBytes 2 g.label ++ [byte g.nextCopy]
    | none => [0, 0, 0]
  toBytes 2 i.tag ++ toBytes 2 i.format ++ toBytes 2 i.quantity
    ++ [byte i.copies, byte (priorityCode i.priority), flagByte i.noInterrupt] ++ toBytesInt 1 i.darkness
    ++ toBytes 2 i.speed ++ toBytesInt 1 i.shiftX ++ toBytesInt 1 i.shiftY
    ++ [byte i.slots.length] ++ (i.slots.flatMap fun x => [byte x.number, byte x.text.length])
    ++ [byte position, byte (jobStateCode j.state), byte (jobHoldBits j), byte (j.blocking.getD 0),
        flagByte j.cancelled]
    ++ toBytes 2 j.nextLabel ++ group ++ toBytes 2 j.groupsCompleted ++ toBytes 4 j.labelsCompleted
    ++ toBytes 2 j.labelsVoided ++ toBytes 2 j.gaps ++ toBytes 4 j.labelsClipped
    ++ [byte (outcomeCode j.outcome), byte j.entries.length]
    ++ (j.entries.flatMap fun r => byte (recKindCode r.kind) :: toBytes 2 r.number ++ toBytes 2 r.revision)

/-- A ticket's label number, copy number, state and burned flag (Table 11-12). -/
def ticketBytes (t : Ticket) : List Byte :=
  toBytes 2 t.key.label ++ [byte t.key.copy, byte (ticketStateCode t.state), flagByte t.burned]

/-- JOB_QUERY's own rule (R119). -/
def State.runJobQuery (body : List Byte) (s : State) : State :=
  let tag := num body 0 2
  match s.queue.job tag with
  | none => s.refuse .notFound 0
  | some j =>
    let tickets := s.queue.tickets.filter fun t => decide (t.key.source = some tag)
    s.ok (jobBytes (s.queue.position tag) j ++ [byte tickets.length] ++ tickets.flatMap ticketBytes)

/-- JOB_QUERY (R119). -/
def execJobQuery (s : State) : Result := .next (s.after (State.onRequest 0x24 State.runJobQuery))

/-- The label groups of a job not yet begun (R94). -/
def Job.labelsLeft (j : Job) : Nat := if j.hasLabelsLeft then j.items.quantity + 1 - j.nextLabel else 0

/-- A job as QUEUE_LIST lists it (Table 11-12). -/
def queueJobBytes (j : Job) : List Byte :=
  toBytes 2 j.items.tag
    ++ [byte (priorityCode j.items.priority), byte (jobStateCode j.state), byte (jobHoldBits j)]
    ++ toBytes 2 j.labelsLeft ++ toBytes 4 j.labelsCompleted

/-- QUEUE_LIST's own rule (R119). -/
def State.runQueueList (s : State) : State :=
  let q := s.queue
  s.ok
    (byte q.jobs.length :: q.jobs.flatMap queueJobBytes ++ [byte q.tickets.length]
      ++ (q.tickets.flatMap fun t => toBytes 2 (t.key.source.getD 0) ++ ticketBytes t)
      ++ [flagByte q.reprint]
      ++ toBytes 2 (match q.last with
          | some l => l.tag
          | none => 0))

/-- QUEUE_LIST (R119). -/
def execQueueList (s : State) : Result := .next (s.after (State.onRequest 0x25 fun _ => State.runQueueList))

/-! ## REPRINT and REPRINT_CLEAR (R117, R118) -/

/-- A reprint ticket stands in the list. -/
def JobQueue.reprintTicket (q : JobQueue) : Bool := q.tickets.any fun t => decide (t.key.source = none)

/-- REPRINT's own rule (R117). An ENGINE notice it produces leaves after its reply (log entry 52). -/
def State.runReprint (s : State) : State :=
  if s.queue.last = none then s.refuse .notFound 0
  else if s.queue.reprint || s.queue.reprintTicket then s.refuse .busy 0
  else State.ok [] (State.boundary { s with queue := { s.queue with reprint := true } })

/-- REPRINT (R117). -/
def execReprint (s : State) : Result := .next (s.after (State.onRequest 0x26 fun _ => State.runReprint))

/-- The last-label record cleared, its pins released (R16, R118). -/
def State.clearLast (s : State) : State :=
  match s.queue.last with
  | some l => { s with store := s.store.release l.entries, queue := { s.queue with last := none } }
  | none => s

/-- REPRINT_CLEAR's own rule (R118). -/
def State.runReprintClear (s : State) : State :=
  if s.queue.reprintTicket then s.refuse .busy 0
  else State.ok [] (State.clearLast { s with queue := { s.queue with reprint := false } })

/-- REPRINT_CLEAR (R118). -/
def execReprintClear (s : State) : Result := .next (s.after (State.onRequest 0x27 fun _ => State.runReprintClear))

/-- JOB_END: the oldest ENDING job's notice is placed when there is room, and the job leaves the queue (R114). -/
def execJobEnd (s : State) : Result := .next s.placeJobEnd

end Sys2Proof.Machine
end

