-- ==== Sys2Proof/Machine/Printing.lean ====
section
/-! DEFINITION. The commands of rendering and burning: BAND_DRAWN, HEAD_SAMPLE, SUPPLY_CLEARED, LOADING_END,
STROBE_PHASE_END, LINE_END (chapters 6 and 7). -/

namespace Sys2Proof.Machine

/-! ## BAND_DRAWN (R121, R124, R129) -/

/-- The dots of a band of a ticket, drawn from flash and the ticket's values (R128, R129). -/
def State.drawBand (s : State) (t : Ticket) (band : Nat) : List (List Bool) :=
  let d := s.ticketData t
  bandDots (s.placedFields d) (s.boundFormat d.refs).width (t.length.getD 0) band

/-- The renderer's report that a ticket's starting bands are COMPLETE makes a RENDERING ticket READY (R107,
R124). -/
def Ticket.oneMoreBand (t : Ticket) : Ticket :=
  { t with
    rendered := t.rendered + 1
    state := if t.state = .rendering ∧ t.rendered + 1 = startingBands (t.length.getD 0) then .ready else t.state }

/-- A report that a band of the PRINTING ticket is COMPLETE clears UNDERRUN when it holds the held line (R162). -/
def State.bandReport (t : Ticket) (band : Nat) (s : State) : State :=
  match s.media.labelLine with
  | .standing n =>
    if t.state = .printing ∧ n / Config.bandLines = band then s.clearHold fun h => { h with underrun := false }
    else s
  | _ => s

/-- The drawing of the band in hand ends, once its reads have been made: the buffer COMPLETE, readiness and
last-band reports, the next band taken (R124). -/
def State.finishBand (s : State) : State :=
  match s.render.hand with
  | some h =>
    match s.queue.ticket h.ticket with
    | some t =>
      if h.pagesLeft ≠ [] ∨ h.reading = true then s
      else
        let buffer := s.render.buffers.getD h.buffer Buffer.empty
        let after := t.oneMoreBand
        let s1 : State :=
          { s with
            render :=
              { buffers := s.render.buffers.set h.buffer
                  { buffer with state := .complete, dots := s.drawBand t h.band }
                hand := none }
            queue := s.queue.updateTicket t.key fun _ => after }
        let s2 := s1.bandReport t h.band
        let s3 := if after.state = .ready ∧ t.state = .rendering then s2.tryStart else s2
        State.renderNext (if after.whole then s3.boundary else s3)
    | none => s
  | none => s

/-- BAND_DRAWN (R124). -/
def execBandDrawn (s : State) : Result := .next (s.after State.finishBand)

/-! ## HEAD_SAMPLE and SUPPLY_CLEARED (R143, R156, R157) -/

/-- The Media Tracker acts on causes: the part runs, or start-up has reached its engine step (R168, R198). -/
def State.engineActs (s : State) : Bool :=
  match s.mode with
  | .running => true
  | .startUp (.scan _) => false
  | .startUp _ => true
  | _ => false

/-- A temperature lies in the range a working head can give (R143). -/
def headInRange (theta : Int) : Bool := decide (-20 ≤ theta ∧ theta ≤ 100)

/-- The sensor fault judged at a sample (R143). -/
def State.judgeSensor (theta : Int) (s : State) : State :=
  if !headInRange theta && !s.burn.sensorFault then
    let s1 : State := { s with burn := { s.burn with sensorFault := true } }
    if s1.engineActs then s1.addCause Causes.onlyHeadFault else s1
  else if headInRange theta && s.burn.sensorFault then
    State.clearCause (fun c => { c with headFault := false }) { s with burn := { s.burn with sensorFault := false } }
  else s

/-- A standing HEAT reason cleared by a sample of 60 or below that no sensor fault discards (R156). -/
def State.judgeHeat (theta : Int) (s : State) : State :=
  if s.media.standing.heat = true ∧ headInRange theta = true ∧ theta ≤ 60 then
    s.clearHold fun h => { h with heat := false }
  else s

/-- The supply run while SUPPLY stands (R157). -/
def State.countSupply (supply : Nat) (s : State) : State :=
  if s.media.standing.supply then
    { s with burn := { s.burn with supplyRun := if 200 ≤ supply then min 11 (s.burn.supplyRun + 1) else 0 } }
  else s

/-- A head sample taken, 10 ms after the one before it (R142, R143); the order of what follows is log entry
23. -/
def State.sampleHead (theta : Int) (supply : Nat) (s : State) : State :=
  if s.isAwake then
    let s1 := s.atLeast (s.burn.lastSample + Config.samplePeriod)
    let s2 : State := { s1 with burn := { s1.burn with theta := theta, supply := supply, lastSample := s1.now } }
    ((s2.judgeSensor theta).judgeHeat theta).countSupply supply
  else s

/-- HEAD_SAMPLE (R143). -/
def execHeadSample (theta : Int) (supply : Nat) (s : State) : Result :=
  .next (s.after (State.sampleHead theta supply))

/-- SUPPLY_CLEARED (R157). -/
def execSupplyCleared (s : State) : Result := .next s.grantRoom.takeSupplyCleared

/-! ## LOADING_END, STROBE_PHASE_END, LINE_END (R149, R151, R152, R154) -/

/-- The line in hand at another stage. -/
def State.setStage (stage : LineStage) (s : State) : State :=
  { s with burn := { s.burn with line := s.burn.line.map fun l => { l with stage := stage } } }

/-- Loading ends after 60 µs: the first phase begins, and the buffer of a band's last line is freed (R154). -/
def State.endLoading (s : State) : State :=
  match s.burn.line with
  | some l =>
    if l.stage = .loading then
      let s1 := s.atLeast (l.started + Config.loadTime)
      (s1.setStage (if l.phases = 0 then .waiting else .phase 1)).freeBand l.number
    else s
  | none => s

/-- LOADING_END (R154). -/
def execLoadingEnd (s : State) : Result := .next (s.after State.endLoading)

/-- A phase ends P0 after it began, and the next begins, or the line waits (R151, R154). -/
def State.endPhase (s : State) : State :=
  match s.burn.line with
  | some l =>
    match l.stage with
    | .phase k => (s.atLeast (l.phaseStart (k + 1))).setStage (if k < l.phases then .phase (k + 1) else .waiting)
    | _ => s
  | none => s

/-- STROBE_PHASE_END (R151). -/
def execStrobePhaseEnd (s : State) : Result := .next (s.after State.endPhase)

/-- A line is stretched when its loading and phases need more than the line period (R152). -/
def LineInHand.stretched (period : Nat) (l : LineInHand) : Bool := decide (period < strobeTime l.phases l.p0)

/-- The line end: its duration has run out, the history moves on, a stretched line is counted, the line is
reported burned, and the motor's step off it falls due (R149, R152, R154, R161). -/
def State.endLine (s : State) : State :=
  match s.burn.line, s.burn.values with
  | some l, some v =>
    if l.stage = .waiting then
      let s1 := s.atLeast (l.started + l.duration)
      let more := if l.stretched v.period then 1 else 0
      State.setDue s1.now
        { s1 with
          burn := { s1.burn.endLine s1.now with
            stretchedLabel := s1.burn.stretchedLabel + more
            stretchedTotal := sat16 (s1.burn.stretchedTotal + more) }
          media := { s1.media with labelLine := .stepping l.number } }
    else s
  | _, _ => s

/-- LINE_END (R154). -/
def execLineEnd (s : State) : Result := .next (s.after State.endLine)

end Sys2Proof.Machine
end

