-- ==== Sys2Proof/Machine/MediaCommands.lean ====
section
/-! DEFINITION. The media commands: MOTOR_STEP and what falls due at a step, the sensor and switch changes,
PAUSE, RESUME, FEED, CALIBRATE, the settings, idle power, and the event ENGINE (chapter 8). -/

namespace Sys2Proof.Machine

/-! ## Steps (R161, R163 to R168) -/

/-- A motor step where one may be made. -/
def State.tryStep (gap : Bool) (s : State) : State := if s.canStep then s.stepMotor gap else s

/-- MOTOR_STEP (R161, R163). -/
def execMotorStep (gap : Bool) (s : State) : Result := .next (s.after (State.tryStep gap))

/-! The events that a step makes due come after the claims to room that the step itself left (R185, log entry 3). -/

/-- MISSED_GAP (R163). -/
def execMissedGap (s : State) : Result := .next s.grantRoom.takeMiss.checkEngineStep

/-- MEDIA_OUT (R168). -/
def execMediaOut (s : State) : Result := .next s.grantRoom.takeMediaOut.checkEngineStep

/-- RESYNC_NO_EDGE (R165). -/
def execResyncNoEdge (s : State) : Result := .next s.grantRoom.takeResyncLimit.checkEngineStep

/-- RECOVERY_LIMIT (R166). -/
def execRecoveryLimit (s : State) : Result := .next s.grantRoom.takeRecoveryLimit.checkEngineStep

/-- CALIBRATION_LIMIT (R167). -/
def execCalibrationLimit (s : State) : Result := .next s.grantRoom.takeCalibrationLimit.checkEngineStep

/-! ## Switch and sensors (R168, R171) -/

/-- The head-open switch after a change: an opening raises HEAD_OPEN, a closing clears it (R168). -/
def State.seeHead (isOpen : Bool) (s : State) : State :=
  let s1 : State := { s with lines := { s.lines with headOpen := isOpen } }
  if isOpen = s.lines.headOpen ∨ s.engineActs = false then s1
  else if isOpen then (s1.setEvent .headOpen).addCause Causes.onlyHeadOpen
  else s1.clearCause fun c => { c with headOpen := false }

/-- HEAD_SWITCH_CHANGE (R168). -/
def execHeadSwitchChange (isOpen : Bool) (s : State) : Result := .next (s.after (State.seeHead isOpen))

/-- The media sensor after a change at rest: reading media, it clears MEDIA_OUT (R168). DESIGN CHOICE: a change between
two steps of a running motor also sets the level that the next step compares with (log entry 30). -/
def State.seeMedia (gap : Bool) (s : State) : State :=
  let s1 : State := { s with lines := { s.lines with gap := gap } }
  if gap then s1 else s1.clearCause fun c => { c with mediaOut := false }

/-- MEDIA_SENSOR_CHANGE (R168). -/
def execMediaSensorChange (gap : Bool) (s : State) : Result := .next (s.after (State.seeMedia gap))

/-- The label-taken sensor after a change: a presented PEEL label taken is fed back (R171). -/
def State.seeTaken (noLabel : Bool) (s : State) : State :=
  let s1 : State := { s with lines := { s.lines with noLabel := noLabel } }
  if noLabel = true ∧ s1.isRunning = true ∧ s1.media.engine = .presented ∧ s1.media.presentedUnder = .peel then
    s1.takeLabel
  else s1

/-- LABEL_TAKEN (R171). -/
def execLabelTaken (noLabel : Bool) (s : State) : Result := .next (s.after (State.seeTaken noLabel))

/-! ## PAUSE and RESUME (R172) -/

/-- The engine is in a state in which PAUSE acts at once (R172). -/
def Engine.pausesAtOnce : Engine → Bool
  | .idle => true
  | .off => true
  | .presented => true
  | _ => false

/-- PAUSE's effect (R172). -/
def State.takePause (s : State) : State :=
  if s.media.engine = .paused ∨ s.media.pausePending = true then s
  else if s.media.engine.pausesAtOnce then s.enterPause
  else { s with media := { s.media with pausePending := true } }

/-- PAUSE's own rule (R172). An ENGINE notice it produces leaves after its reply (log entry 52). -/
def State.runPause (s : State) : State :=
  s.takePause.ok [flagByte (decide (s.takePause.media.engine = .paused))]

/-- PAUSE (R172). -/
def execPause (s : State) : Result := .next (s.after (State.onRequest 0x30 fun _ => State.runPause))

/-- RESUME's effect, where it is not refused (R170, R172). -/
def State.takeResume (s : State) : State :=
  if s.media.engine = .paused then s.rest.beginOrRest
  else if s.media.engine = .fault then s.faultPath
  else { s with media := { s.media with pausePending := false } }

/-- RESUME's own rule (R172). An ENGINE notice it produces leaves after its reply (log entry 52). -/
def State.runResume (s : State) : State :=
  if s.media.engine = .fault ∧ s.media.causes.condition = true then s.refuse .busy 0
  else s.takeResume.ok [byte (engineCode s.takeResume.media.engine)]

/-- RESUME (R172). -/
def execResume (s : State) : Result := .next (s.after (State.onRequest 0x31 fun _ => State.runResume))

/-! ## FEED and CALIBRATE (R173) -/

/-- The engine is IDLE or OFF. -/
def Engine.resting : Engine → Bool
  | .idle => true
  | .off => true
  | _ => false

/-- FEED's own rule (R173). An ENGINE notice it produces leaves after its reply (log entry 52). -/
def State.runFeed (s : State) : State :=
  if !s.media.engine.resting then s.refuse .busy 0
  else if s.battery.settings.registered then State.ok [] (s.startMotion .feedTop .feeding false false)
  else if s.battery.settings.uncalibrated then
    State.ok [] (s.startMotion (.calibrateSeek 0) .calibrating false false)
  else State.ok [] (s.startMotion (.feedLines 64) .feeding false false)

/-- FEED (R173). -/
def execFeed (s : State) : Result := .next (s.after (State.onRequest 0x32 fun _ => State.runFeed))

/-- CALIBRATE's own rule (R173). An ENGINE notice it produces leaves after its reply (log entry 52). -/
def State.runCalibrate (s : State) : State :=
  if !s.media.engine.resting then s.refuse .busy 0
  else if s.battery.settings.mediaType = .continuous then s.ok []
  else State.ok [] (s.startMotion (.calibrateSeek 0) .calibrating false false)

/-- CALIBRATE (R173). -/
def execCalibrate (s : State) : Result := .next (s.after (State.onRequest 0x33 fun _ => State.runCalibrate))

/-! ## Settings (R174, R190) -/

/-- The idle timer runs: the engine IDLE and no ticket READY (R175). -/
def State.idleRuns (s : State) : Bool := s.isRunning && decide (s.media.engine = .idle) && !s.someReady

/-- Head supply and motor current switched off (R175). -/
def State.powerDown (s : State) : State := s.transit fun m => { m with power := false, engine := .off }

/-- The idle time in µs. -/
def Settings.idleLimit (st : Settings) : Nat := st.idleTime * 1000000

/-- A new idle time compared with the time already run (R175). -/
def State.compareIdle (s : State) : State :=
  if s.idleRuns = true ∧ s.battery.settings.idleTime ≠ 0
      ∧ s.battery.settings.idleLimit ≤ s.now - s.media.idleSince then s.powerDown
  else s

/-- Settings written with the table check (R90, R174). -/
def State.writeSettings (st : Settings) (s : State) : State :=
  { s with battery := Battery.checked { s.battery with settings := st } }

/-- Accepted settings: a change of media type sets P, G and the count to 0 and reports the loss of the printable
length; a new idle time is compared at once (R174, R175). -/
def State.applySettings (new : Settings) (s : State) : State :=
  let old := s.battery.settings
  let s1 :=
    if new.mediaType = old.mediaType then s.writeSettings new
    else ((s.writeSettings { new with pitch := 0, gapLength := 0 }).setCount 0).printableChanged
  if new.idleTime = old.idleTime then s1 else s1.compareIdle

/-- SETTINGS_SET's own rule (R174). An ENGINE notice it produces leaves after its reply (log entry 52). -/
def State.runSettingsSet (body : List Byte) (s : State) : State :=
  match settingsOf body s.battery.settings with
  | none => s.refuse .badValue 0
  | some new =>
    if new.mediaType ≠ s.battery.settings.mediaType ∧ s.media.engine.resting = false then s.refuse .busy 0
    else State.ok [] (s.applySettings new)

/-- SETTINGS_SET (R174). -/
def execSettingsSet (s : State) : Result := .next (s.after (State.onRequest 0x34 State.runSettingsSet))

/-- SETTINGS_GET's own rule (R190, Table 11-12). -/
def State.runSettingsGet (service : Bool) (s : State) : State :=
  s.ok (settingsBytes s.battery.settings ++ [byte s.line.rate, flagByte service])

/-- SETTINGS_GET, with the service strap when the request is taken (R190). -/
def execSettingsGet (service : Bool) (s : State) : Result :=
  .next (s.after (State.onRequest 0x35 fun _ => State.runSettingsGet service))

/-! ## Idle power (R175) -/

/-- The idle timer reaching the idle time (R175). -/
def State.expireIdle (s : State) : State :=
  if s.idleRuns = true ∧ s.battery.settings.idleTime ≠ 0 then
    (s.atLeast (s.media.idleSince + s.battery.settings.idleLimit)).powerDown
  else s

/-- IDLE_TIMEOUT (R175). -/
def execIdleTimeout (s : State) : Result := .next (s.after State.expireIdle)

/-- The wake delay ends: the first step falls due, or a label start that waited for the wake alone is examined
afresh (R160, R175, log entries 20 and 31). -/
def State.endWake (s : State) : State :=
  match s.media.motion with
  | some m =>
    match m.wake with
    | some w =>
      let s1 := s.atLeast w
      if m.kind = .awaitStart then State.settleStart { s1 with media := { s1.media with motion := none } }
      else { s1 with media := { s1.media with motion := some { m with wake := none, due := s1.now } } }
    | none => s
  | none => s

/-- WAKE_DELAY_END (R175). -/
def execWakeDelayEnd (s : State) : Result := .next (s.after State.endWake)

/-- ENGINE: the pending notice is placed when there is room (R177, R185). -/
def execEngine (s : State) : Result := .next s.placeEngine

end Sys2Proof.Machine
end

