-- ==== Sys2Proof/Machine/PowerCommands.lean ====
section
/-! DEFINITION. Power, the reset line and READY: POWER_ON, MAIN_POWER_LOSS, RESET_LINE, RESET_LINE_ASSERTED, READY
(R90, R192, R199). -/

namespace Sys2Proof.Machine

/-- Main power becoming stable: start-up begins, or the part stays held while the reset line is asserted (R192). -/
def State.powerUp (straps : BaudStraps) (s : State) : State :=
  if s.mode = .off then
    if s.lines.resetAsserted then { s with mode := .held } else s.beginStartUp straps
  else s

/-- POWER_ON (R192). -/
def execPowerOn (straps : BaudStraps) (s : State) : Result := .next (s.after (State.powerUp straps))

/-- The reset line released: start-up begins where main power is on (R192). -/
def State.releaseReset (straps : BaudStraps) (s : State) : State :=
  if s.lines.resetAsserted then
    let s1 : State := { s with lines := { s.lines with resetAsserted := false } }
    if s.mode = .off then s1 else s1.beginStartUp straps
  else s

/-- RESET_LINE (R192). -/
def execResetLine (straps : BaudStraps) (s : State) : Result := .next (s.after (State.releaseReset straps))

/-- The reset line asserted: the part is put in reset and stays held (R192). -/
def State.assertReset (s : State) : State :=
  let s1 : State := { s with lines := { s.lines with resetAsserted := true } }
  if s.mode = .off ∨ s.mode = .held then s1 else s1.resetBlocks .held s.line.rate

/-- RESET_LINE_ASSERTED (R192). -/
def execResetLineAsserted (s : State) : Result := .next (s.after State.assertReset)

/-- Main power falls: every array operation ends without completing, and only flash and the battery-backed RAM
keep what they hold (R27, R90, log entry 13). -/
def State.losePower (s : State) : State := if s.mode = .off then s else s.resetBlocks .off s.line.rate

/-- MAIN_POWER_LOSS (R90). -/
def execMainPowerLoss (s : State) : Result := .next (s.after State.losePower)

/-- READY: the notice placed and CTS raised in one event, which ends start-up (R199). -/
def execReady (s : State) : Result := .next s.placeReady

end Sys2Proof.Machine
end

