-- ==== Sys2Proof/Machine/RecordRequests.lean ====
section
/-! DEFINITION. The record requests: RECORD_BEGIN to RECORD_RETIRE, RECORD_QUERY, DIRECTORY_LIST,
STORE_USAGE, STORE_WIPE, and the timer UPLOAD_TIMEOUT (sections 1.10 and 3.1 to 3.8). -/

namespace Sys2Proof.Machine

/-- RECORD_BEGIN (R53 to R55). -/
def execRecordBegin (s : State) : Result := .next (s.after (State.onRequest 0x01 State.runRecordBegin))

/-- RECORD_DATA (R56, R57). -/
def execRecordData (s : State) : Result := .next (s.after (State.onRequest 0x02 State.runRecordData))

/-- RECORD_END (R59, R60). -/
def execRecordEnd (s : State) : Result := .next (s.after (State.onRequest 0x03 State.runRecordEnd))

/-- RECORD_ABANDON (R66). -/
def execRecordAbandon (s : State) : Result :=
  .next (s.after (State.onRequest 0x04 fun _ => State.runRecordAbandon))

/-- The upload times out when its idle timer runs and reaches 10 seconds (R52, R65). -/
def State.timeOutUpload (s : State) : State :=
  match s.store.upload with
  | some { timer := some t, .. } =>
    if s.isRunning then (s.atLeast (t + Config.uploadIdle)).abandonUpload else s
  | _ => s

/-- UPLOAD_TIMEOUT (R52). -/
def execUploadTimeout (s : State) : Result := .next (s.after State.timeOutUpload)

/-- RECORD_RETIRE (R67). -/
def execRecordRetire (s : State) : Result := .next (s.after (State.onRequest 0x05 State.runRecordRetire))

/-- An entry as RECORD_QUERY lists it (Table 11-12). -/
def queryEntry (e : DirEntry) : List Byte :=
  toBytes 2 e.revision ++ [byte (dirStateCode e.state)] ++ toBytes 2 e.firstSector ++ [byte e.extentLen]
    ++ toBytes 2 e.bodyLen ++ [flagByte e.lock, byte e.pins]

/-- RECORD_QUERY's own rule (R24). -/
def State.runRecordQuery (body : List Byte) (s : State) : State :=
  match nameOf body with
  | none => s.refuse .badValue 0
  | some (k, n) =>
    let found := s.store.directory.filter fun e => e.named k n
    if found = [] then s.refuse .notFound 0
    else
      let sorted := found.insertionSort fun a b => a.revision ≤ b.revision
      s.ok (byte sorted.length :: sorted.flatMap queryEntry)

/-- RECORD_QUERY (R24). -/
def execRecordQuery (s : State) : Result := .next (s.after (State.onRequest 0x06 State.runRecordQuery))

/-- The numbers of a kind that have an entry, from one on, ascending (R25). -/
def RecordStore.numbersFrom (k : RecKind) (start : Nat) (st : RecordStore) : List Nat :=
  ((st.directory.filter fun e => decide (e.kind = k ∧ start ≤ e.number)).map DirEntry.number).eraseDups.insertionSort
    (· ≤ ·)

/-- A number as DIRECTORY_LIST lists it (R25, Table 11-12). -/
def RecordStore.listNumber (k : RecKind) (n : Nat) (st : RecordStore) : List Byte :=
  let es := st.directory.filter fun e => e.named k n
  let live := match st.live k n with
    | some e => toBytes 2 e.revision ++ toBytes 2 e.bodyLen ++ [flagByte e.lock, byte e.pins]
    | none => toBytes 2 0 ++ toBytes 2 0 ++ [0, 0]
  toBytes 2 n ++ live
    ++ [byte (es.countP fun e => decide (e.state = .superseded)),
        byte (es.countP fun e => decide (e.state = .retired)),
        flagByte (es.any fun e => decide (e.state = .writing))]

/-- DIRECTORY_LIST's own rule (R25). -/
def State.runDirectoryList (body : List Byte) (s : State) : State :=
  match nameOf body with
  | none => s.refuse .badValue 0
  | some (k, start) =>
    let numbers := s.store.numbersFrom k start
    let listed := numbers.take 32
    let continuation := (numbers.drop 32).headD 0
    s.ok (byte listed.length :: listed.flatMap (fun n => s.store.listNumber k n) ++ toBytes 2 continuation)

/-- DIRECTORY_LIST (R25). -/
def execDirectoryList (s : State) : Result := .next (s.after (State.onRequest 0x07 State.runDirectoryList))

/-- STORE_USAGE's own rule (R26, Table 11-12). -/
def State.runStoreUsage (s : State) : State :=
  let run := largestRun s.store.sectorMap
  s.ok
    (toBytes 2 (countSectors s.store.sectorMap .free) ++ toBytes 2 run.1 ++ toBytes 2 run.2
      ++ toBytes 2 (countSectors s.store.sectorMap .held) ++ toBytes 2 s.backlog
      ++ toBytes 2 (countSectors s.store.sectorMap .bad) ++ toBytes 2 s.store.directory.length
      ++ toBytes 2 (s.store.liveCount .format) ++ toBytes 2 (s.store.liveCount .image)
      ++ toBytes 2 (s.store.liveCount .table))

/-- STORE_USAGE (R26). -/
def execStoreUsage (s : State) : Result := .next (s.after (State.onRequest 0x08 fun _ => State.runStoreUsage))

/-- STORE_WIPE, with the service strap as sampled when it is taken (R71, R72). -/
def execStoreWipe (service : Bool) (s : State) : Result :=
  .next (s.after (State.onRequest 0x09 fun _ => State.runStoreWipe service))

end Sys2Proof.Machine
end

