-- ==== Sys2Proof/Machine/SerialCommands.lean ====
section
/-! DEFINITION. The serial line and the Request Decoder's own requests: SERIAL_BYTE_RECEIVED, BYTE_TIMEOUT,
RTS_CHANGE, BYTE_TRANSMITTED, NAK, UNKNOWN_KIND, STATUS, STATUS_CLEAR, RESTART, RESTART_LIMIT (chapter 9). -/

namespace Sys2Proof.Machine

/-! ## Reception (R180 to R183) -/

/-- The body length that the frame in assembly gives. -/
def frameLength (stored : List Byte) : Nat := num stored 1 2

/-- A frame with both its check bytes judged: whole, or a CHECK error (R180, R181). -/
def LineIf.judge (l : LineIf) : LineIf :=
  let n := frameLength l.stored
  if byteSum ((l.stored.drop 1).take (n + 3)) = num l.stored (n + 4) 2 then
    { l with
      input := l.input ++ [.frame (byteAt l.stored 3) ((l.stored.drop 4).take n)]
      stored := []
      assembly := .hunt }
  else l.frameError .check

/-- The assembly after a byte has been stored (R180). -/
def LineIf.assembled (l : LineIf) : LineIf :=
  match l.assembly with
  | .hunt => { l with assembly := .length }
  | .length =>
    if l.stored.length < 3 then l
    else if 1024 < frameLength l.stored then l.frameError .length
    else { l with assembly := .kind }
  | .kind => { l with assembly := if frameLength l.stored = 0 then .check else .body }
  | .body => if l.stored.length = frameLength l.stored + 4 then { l with assembly := .check } else l
  | .check => if l.stored.length = frameLength l.stored + 6 then l.judge else l

/-- A byte received with the buffer full: the frame in assembly ends with OVERRUN; in HUNT a lost A5h makes an
overrun pending or adds to it, up to 255 (R182). -/
def LineIf.overflow (b : Byte) (l : LineIf) : LineIf :=
  if l.assembly = .hunt then
    if b = 0xA5 then
      { l with overrun := some (match l.overrun with
          | some n => min 255 (n + 1)
          | none => 1) }
    else l
  else l.frameError .overrun

/-- A byte received at a time (R180, R182). -/
def LineIf.receive (now : Nat) (b : Byte) (l : LineIf) : LineIf :=
  if Config.inputSize ≤ l.fill then l.overflow b
  else if l.assembly = .hunt ∧ b ≠ 0xA5 then l
  else LineIf.assembled { l with stored := l.stored ++ [b], lastByteAt := now }

/-- Bytes are stored: the part runs and no RESTART has been answered (R180, R183, R191). -/
def State.receives (s : State) : Bool := s.isRunning && s.line.restart.isNone

/-- A byte on the receive line. One with a framing fault is as not received (R179). -/
def State.receiveByte (b : Byte) (stopBit : Bool) (s : State) : State :=
  if s.receives && stopBit then
    State.wakeDecoder { s with line := (s.line.receive s.now b).followFill }
  else s

/-- SERIAL_BYTE_RECEIVED (R180). -/
def execSerialByteReceived (b : Byte) (stopBit : Bool) (s : State) : Result :=
  .next (s.after (State.receiveByte b stopBit))

/-- The byte timer expires in a frame's assembly (R181). -/
def State.expireByte (s : State) : State :=
  if s.receives = true ∧ s.line.assembly ≠ .hunt then
    let s1 := s.atLeast (s.line.lastByteAt + Config.byteTimeout)
    State.wakeDecoder { s1 with line := (s1.line.frameError .timeout).followFill }
  else s

/-- BYTE_TIMEOUT (R181). -/
def execByteTimeout (s : State) : Result := .next (s.after State.expireByte)

/-! ## Transmission (R184, R191) -/

/-- Request-to-send at a new level (R184). -/
def State.seeRts (high : Bool) (s : State) : State :=
  let s1 : State := { s with lines := { s.lines with rts := high } }
  if s.isRunning then s1.beginSending else s1

/-- RTS_CHANGE (R184). -/
def execRtsChange (high : Bool) (s : State) : Result := .next (s.after (State.seeRts high))

/-- The byte in progress sent: it leaves the queue and its room is free; at the RESTART mark start-up begins
(R184, R191). -/
def State.sendByte (straps : BaudStraps) (s : State) : State :=
  match s.line.sending with
  | some t =>
    let s1 := s.atLeast (t + byteTime s.line.rate)
    let s2 : State := { s1 with line := { s1.line with output := s1.line.output.tail, sending := none } }
    match s2.line.restart with
    | some m =>
      if m.bytes ≤ 1 then s2.beginStartUp straps
      else State.beginSending { s2 with line := { s2.line with restart := some { m with bytes := m.bytes - 1 } } }
    | none => s2.beginSending
  | none => s

/-- BYTE_TRANSMITTED; the straps are read only when the byte is the last up to a RESTART mark (R184, R191). -/
def execByteTransmitted (straps : BaudStraps) (s : State) : Result := .next (s.after (State.sendByte straps))

/-! ## NAK and UNKNOWN_KIND (R181, R186) -/

/-- NAK: a mark at the head is taken and answered once its room is granted, behind the notices (R181, R185, R186). -/
def execNak (s : State) : Result := .next s.placeNotices.answerMark

/-- A frame whose kind names no request, refused (R186). -/
def State.refuseUnknown (s : State) : State :=
  match s.headItem with
  | some (.frame kind _) =>
    if (requestRow kind).isNone then (s.begun kind).refuse .unknownKind 0 else s
  | _ => s

/-- UNKNOWN_KIND (R186). -/
def execUnknownKind (s : State) : Result := .next (s.after State.refuseUnknown)

/-! ## STATUS and STATUS_CLEAR (R188, R189) -/

/-- The STATUS payload (Table 11-5). -/
def statusBytes (s : State) : List Byte :=
  let m := s.media
  let reasons := if m.engine = .hold then holdBits m.holds else 0
  [byte (engineCode m.engine), byte reasons, byte (causeBits m.causes), flagByte m.power,
    flagByte m.pausePending]
    ++ toBytes 2 m.count ++ [byte (registrationCode m.count), byte (mediaEventCode m.event)]
    ++ toBytesInt 2 s.burn.theta ++ toBytes 2 s.burn.supply ++ toBytes 2 s.burn.stretchedLast
    ++ toBytes 2 s.burn.stretchedTotal
    ++ [byte s.queue.jobs.length, byte s.queue.tickets.length, flagByte s.queue.reprint]
    ++ toBytes 2 (countSectors s.store.sectorMap .free) ++ toBytes 2 s.backlog
    ++ [flagByte s.store.upload.isSome, byte (stickyBits s.sticky)]

/-- STATUS's own rule; the last media event read becomes NO_CHANGE (R176, R188). -/
def State.runStatus (s : State) : State := State.ok (statusBytes s) (s.setEvent .noChange)

/-- STATUS (R188). -/
def execStatus (s : State) : Result := .next (s.after (State.onRequest 0x38 fun _ => State.runStatus))

/-- The flags after a clear; BATTERY_LOW is set again at once while the battery is low (R93, R189). -/
def State.clearSticky (mask : Byte) (s : State) : State :=
  let cleared := stickyClear mask s.sticky
  { s with sticky := { cleared with batteryLow := cleared.batteryLow || s.lines.batteryLow } }

/-- STATUS_CLEAR's own rule (R189). -/
def State.runStatusClear (body : List Byte) (s : State) : State :=
  let mask := byteAt body 0
  if mask.getLsbD 7 then s.refuse .badValue 0
  else State.ok [byte (stickyBits (s.clearSticky mask).sticky)] (s.clearSticky mask)

/-- STATUS_CLEAR (R189). -/
def execStatusClear (s : State) : Result := .next (s.after (State.onRequest 0x39 State.runStatusClear))

/-! ## RESTART (R191) -/

/-- RESTART's own rule: the reply, CTS low, the input discarded, the end of the output queue marked (R191). -/
def State.runRestart (s : State) : State :=
  let s1 := State.ok [] { s with line := { s.line with input := [], stored := [], assembly := .hunt, overrun := none } }
  { s1 with
    line := { s1.line with
      cts := false
      restart := some { bytes := s1.line.output.length, placed := s1.now } } }

/-- RESTART (R191). -/
def execRestart (s : State) : Result := .next (s.after (State.onRequest 0x3A fun _ => State.runRestart))

/-- The 2 seconds of a RESTART whose mark has not been reached end: start-up begins (R191). DESIGN CHOICE: whatever
request-to-send did in them (log entry 49). -/
def State.endRestart (straps : BaudStraps) (s : State) : State :=
  match s.line.restart with
  | some m => (s.atLeast (m.placed + Config.restartLimit)).beginStartUp straps
  | none => s

/-- RESTART_LIMIT (R191). -/
def execRestartLimit (straps : BaudStraps) (s : State) : Result := .next (s.after (State.endRestart straps))

end Sys2Proof.Machine
end

