-- ==== Sys2Proof/Machine/Dispatch.lean ====
section
/-! DEFINITION. The meaning of each command: one arm per constructor, each one call. -/

namespace Sys2Proof.Machine

def exec (i : Instr) (s : State) : Host.Outcome State Fault Refusal :=
  match i with
  | .powerOn straps => Sys2Proof.Machine.execPowerOn straps s
  | .resetLine straps => Sys2Proof.Machine.execResetLine straps s
  | .mainPowerLoss => Sys2Proof.Machine.execMainPowerLoss s
  | .batteryRetentionLoss => Sys2Proof.Machine.execBatteryRetentionLoss s
  | .batteryLow below => Sys2Proof.Machine.execBatteryLow below s
  | .ready => Sys2Proof.Machine.execReady s
  | .serialByteReceived b stopBit => Sys2Proof.Machine.execSerialByteReceived b stopBit s
  | .byteTimeout => Sys2Proof.Machine.execByteTimeout s
  | .rtsChange high => Sys2Proof.Machine.execRtsChange high s
  | .byteTransmitted straps => Sys2Proof.Machine.execByteTransmitted straps s
  | .nak => Sys2Proof.Machine.execNak s
  | .unknownKind => Sys2Proof.Machine.execUnknownKind s
  | .recordBegin => Sys2Proof.Machine.execRecordBegin s
  | .recordData => Sys2Proof.Machine.execRecordData s
  | .recordEnd => Sys2Proof.Machine.execRecordEnd s
  | .recordAbandon => Sys2Proof.Machine.execRecordAbandon s
  | .uploadTimeout => Sys2Proof.Machine.execUploadTimeout s
  | .recordRetire => Sys2Proof.Machine.execRecordRetire s
  | .recordQuery => Sys2Proof.Machine.execRecordQuery s
  | .directoryList => Sys2Proof.Machine.execDirectoryList s
  | .storeUsage => Sys2Proof.Machine.execStoreUsage s
  | .storeWipe service => Sys2Proof.Machine.execStoreWipe service s
  | .pageProgramEnd left => Sys2Proof.Machine.execPageProgramEnd left s
  | .programTimeout => Sys2Proof.Machine.execProgramTimeout s
  | .pageReadEnd => Sys2Proof.Machine.execPageReadEnd s
  | .eraseStart => Sys2Proof.Machine.execEraseStart s
  | .suspensionEffect => Sys2Proof.Machine.execSuspensionEffect s
  | .progressWindowEnd => Sys2Proof.Machine.execProgressWindowEnd s
  | .eraseComplete residue => Sys2Proof.Machine.execEraseComplete residue s
  | .eraseGiveUp => Sys2Proof.Machine.execEraseGiveUp s
  | .counterDefine => Sys2Proof.Machine.execCounterDefine s
  | .counterSet => Sys2Proof.Machine.execCounterSet s
  | .counterUndefine => Sys2Proof.Machine.execCounterUndefine s
  | .counterClearReturns => Sys2Proof.Machine.execCounterClearReturns s
  | .counterRead => Sys2Proof.Machine.execCounterRead s
  | .jobSubmit => Sys2Proof.Machine.execJobSubmit s
  | .jobCancel => Sys2Proof.Machine.execJobCancel s
  | .jobHold => Sys2Proof.Machine.execJobHold s
  | .jobRelease => Sys2Proof.Machine.execJobRelease s
  | .jobQuery => Sys2Proof.Machine.execJobQuery s
  | .queueList => Sys2Proof.Machine.execQueueList s
  | .reprint => Sys2Proof.Machine.execReprint s
  | .reprintClear => Sys2Proof.Machine.execReprintClear s
  | .jobEnd => Sys2Proof.Machine.execJobEnd s
  | .bandDrawn => Sys2Proof.Machine.execBandDrawn s
  | .headSample theta supply => Sys2Proof.Machine.execHeadSample theta supply s
  | .supplyCleared => Sys2Proof.Machine.execSupplyCleared s
  | .loadingEnd => Sys2Proof.Machine.execLoadingEnd s
  | .strobePhaseEnd => Sys2Proof.Machine.execStrobePhaseEnd s
  | .lineEnd => Sys2Proof.Machine.execLineEnd s
  | .motorStep gap => Sys2Proof.Machine.execMotorStep gap s
  | .missedGap => Sys2Proof.Machine.execMissedGap s
  | .mediaOut => Sys2Proof.Machine.execMediaOut s
  | .resyncNoEdge => Sys2Proof.Machine.execResyncNoEdge s
  | .recoveryLimit => Sys2Proof.Machine.execRecoveryLimit s
  | .calibrationLimit => Sys2Proof.Machine.execCalibrationLimit s
  | .headSwitchChange isOpen => Sys2Proof.Machine.execHeadSwitchChange isOpen s
  | .mediaSensorChange gap => Sys2Proof.Machine.execMediaSensorChange gap s
  | .labelTaken noLabel => Sys2Proof.Machine.execLabelTaken noLabel s
  | .pause => Sys2Proof.Machine.execPause s
  | .resume => Sys2Proof.Machine.execResume s
  | .feed => Sys2Proof.Machine.execFeed s
  | .calibrate => Sys2Proof.Machine.execCalibrate s
  | .settingsSet => Sys2Proof.Machine.execSettingsSet s
  | .settingsGet service => Sys2Proof.Machine.execSettingsGet service s
  | .idleTimeout => Sys2Proof.Machine.execIdleTimeout s
  | .wakeDelayEnd => Sys2Proof.Machine.execWakeDelayEnd s
  | .engine => Sys2Proof.Machine.execEngine s
  | .status => Sys2Proof.Machine.execStatus s
  | .statusClear => Sys2Proof.Machine.execStatusClear s
  | .restart => Sys2Proof.Machine.execRestart s
  | .restartLimit straps => Sys2Proof.Machine.execRestartLimit straps s
  | .resetLineAsserted => Sys2Proof.Machine.execResetLineAsserted s

end Sys2Proof.Machine
end

