-- ==== Sys2Proof/Safety.lean ====
section
/-! DEFINITION. What a safe state of the part is, and what a request's answer looks like, in the terms the
statements use. -/

namespace Sys2Proof.Machine

/-! ## Requests and their answers (R185, R186, R201) -/

/-- The kind code of the request that a command executes (Table 11-2), or none for an event. -/
def requestCode : Instr → Option Nat
  | .recordBegin => some 0x01
  | .recordData => some 0x02
  | .recordEnd => some 0x03
  | .recordAbandon => some 0x04
  | .recordRetire => some 0x05
  | .recordQuery => some 0x06
  | .directoryList => some 0x07
  | .storeUsage => some 0x08
  | .storeWipe _ => some 0x09
  | .counterDefine => some 0x10
  | .counterSet => some 0x11
  | .counterUndefine => some 0x12
  | .counterClearReturns => some 0x13
  | .counterRead => some 0x14
  | .jobHold => some 0x20
  | .jobRelease => some 0x21
  | .jobSubmit => some 0x22
  | .jobCancel => some 0x23
  | .jobQuery => some 0x24
  | .queueList => some 0x25
  | .reprint => some 0x26
  | .reprintClear => some 0x27
  | .pause => some 0x30
  | .resume => some 0x31
  | .feed => some 0x32
  | .calibrate => some 0x33
  | .settingsSet => some 0x34
  | .settingsGet _ => some 0x35
  | .status => some 0x38
  | .statusClear => some 0x39
  | .restart => some 0x3A
  | _ => none

/-- The request a state is about to execute: the Decoder has taken a frame of that kind, with a body its kind can take
(R186). -/
def State.asks (u : State) (code : Nat) (body : List Byte) : Prop :=
  u.headItem = some (.frame (byte code) body) ∧ bodyLengthOk (byte code) body = true

/-- The state `v`, which is `u` with a request's first effect, with the Decoder executing the request, waiting for what
`work` names (R186). -/
def State.taken (u : State) (code : Nat) (work : Work) (v : State) : State :=
  { v with dec := { u.dec with state := .executing, kind := byte code, taken := none, work := work } }

/-- The state `u` with its request in execution and nothing else done, as the effect of a request finds it (R186). -/
def State.headGone (u : State) (code : Nat) : State :=
  { u with dec := { u.dec with state := .executing, kind := byte code, taken := none } }

/-- The state `v`, which is `u` with the last effect of a request that has been executing, with that request answered:
the reply at the end of the output queue, the reservation ended, and the next head awaited where one stands (R185,
R186, R191). -/
def State.replied (u : State) (code : Nat) (reply : List Byte) (v : State) : State :=
  { v with
    line := { u.line with
      output := u.line.output ++ reply
      sending := if u.line.sending = none ∧ u.lines.rts = true then some u.now else u.line.sending }
    dec := { state := if u.line.input ≠ [] ∧ u.line.restart = none then .waiting else .idle
             reserved := none, kind := byte code, taken := none, work := .none } }

/-- The state `v`, which is `u` with the whole effect of the request it asks for, with that request answered. -/
def State.answered (u : State) (code : Nat) (reply : List Byte) (v : State) : State := u.replied code reply v

/-- The state `u` with a new Line Interface whose fill CTS follows, the Decoder woken where it is idle and something
stands in the buffer (R183, R186, R191). -/
def State.lineFollowed (u : State) (l : LineIf) : State :=
  { u with
    line := l.followFill
    dec := { u.dec with
      state := if u.dec.state = .idle ∧ l.input ≠ [] ∧ l.restart = none then .waiting else u.dec.state } }

/-- The state `u` with its Decoder's next access issued, the request in execution waiting for it (R1). -/
def State.issued (u : State) (op : AccessOp) (work : Work) : State :=
  { u with
    array := u.array.arrive u.now { client := .decoder, op := op }
    dec := { u.dec with work := work } }

/-- The state `u` with the program in progress ended as it was asked, the array passed on (R1, R2). -/
def State.programDone (u : State) (addr : Nat) (data : List Byte) : State :=
  { u with
    flash := flashWriteAll u.flash addr (programmed (flashRange u.flash addr data.length) data)
    array := u.array.passOn u.now }

/-- The state `u` with the program in progress failed by its limit at a time: its bytes any part of the way,
STORE_FAULT set, the array passed on (R2, log entry 8). -/
def State.programFailed (u : State) (addr : Nat) (data : List Byte) (now : Nat) : State :=
  { u with
    now := now
    flash := (u.cutProgram addr data).flash
    freeCount := (u.cutProgram addr data).freeCount
    sticky := { u.sticky with storeFault := true }
    array := u.array.passOn now }

/-- An OK reply: kind 80h, the request's code and the payload (R201). -/
def okReply (code : Nat) (payload : List Byte) : List Byte := frameBytes 0x80 (byte code :: payload)

/-- A REFUSED reply: kind 81h, the request's code, the reason and a 4-byte detail (R201). -/
def refusedReply (code : Nat) (reason : Reason) (detail : Nat) : List Byte :=
  frameBytes 0x81 (byte code :: byte (reasonCode reason) :: toBytes 4 detail)

/-- A NAK reply: kind 82h, the cause and the merged count (R201). -/
def nakReply (cause : NakCause) (merged : Nat) : List Byte := frameBytes 0x82 [byte (nakCode cause), byte merged]

/-! ## Resets (R192) -/

/-- The state with every block at its values after reset: flash as the operations cut short left it, the
battery-backed RAM and the board's levels as they were (R27, R90, R192). -/
def State.blocksReset (u : State) (mode : Mode) (rate : Nat) : State :=
  { pending := u.pending
    now := u.now
    freeCount := u.cutArray.freeCount
    mode := mode
    lines := u.lines
    flash := u.cutArray.flash
    array := FlashArray.afterReset
    store := RecordStore.afterReset
    battery := u.battery
    queue := JobQueue.afterReset
    render := Renderer.afterReset
    burn := Burn.afterReset u.now
    media := Media.afterReset u.now
    sticky := Sticky.clear
    line := LineIf.afterReset rate
    dec := Decoder.afterReset }

/-- The state in which start-up has begun: the blocks reset, the counter check made with its two flags, and the
first page of sector 0 being read by the scan (R91 to R93, R192 to R194). -/
def State.startedUp (u : State) (rate : Nat) : State :=
  let battery := if u.battery.isLost then Battery.rebuilt else u.battery.kept
  { u.blocksReset (.startUp (.scan Scan.begin)) rate with
    battery := battery
    sticky := { Sticky.clear with countersLost := battery.lostMark, batteryLow := u.lines.batteryLow }
    array :=
      { FlashArray.afterReset with
        busy := some { access := { client := .scan, op := .read 0 }, started := u.now } } }

/-- The state `v` with the scan of start-up as given, waiting for the access it has issued (R194 to R197). -/
def State.scanned (v : State) (c : Scan) (op : AccessOp) : State :=
  { v with
    mode := .startUp (.scan c)
    array := v.array.arrive v.now { client := .scan, op := op } }

/-! ## The Media Tracker (R161, R175, R177, R178) -/

/-- The state with the Media Tracker as given and what follows a change of it in the same event: the idle timer starts
at an entry to IDLE, a running part produces its ENGINE notice, and the attention line follows (R175, R177, R178). -/
def State.tracked (s : State) (m : Media) : State :=
  { s with
    media := { m with
      idleSince := if m.engine = .idle ∧ s.media.engine ≠ .idle then s.now else m.idleSince
      notice := if s.mode = .running ∧ produces s.media m = true then some (noticeAfter s.media m) else m.notice
      attention := decide (m.engine = .fault) || m.counterHold } }

/-- The Media Tracker with a motion begun in an engine state at a time: power UP, the first step 1,250 µs later, or
with power DOWN after the wake of 50 ms (R161, R175, log entry 31). -/
def Media.moving (m : Media) (now : Nat) (engine : Engine) (kind : MotionKind) (forLabel forRecovery : Bool) : Media :=
  { m with
    engine := engine
    power := true
    motion := some
      { kind := kind, forLabel := forLabel, forRecovery := forRecovery
        wake := if m.power = true then none else some (now + 50000)
        due := if m.power = true then now + 1250 else now + 50000 } }

/-! ## Content validation (R46) -/

/-- An item that is one number of `n` bytes, judged: a body that ends before it is a fault at the body length, bytes not
yet read are waited for, a value that is not good is a fault at the item, and a good one passes (R45, R46). -/
def Pass.judges (p : Pass) (n : Nat) (good : Nat → Prop) (next : Nat → Pass) : Prop :=
  ∀ (bodyLen v : Nat) (avail : List Byte), v = num avail 0 n →
    (bodyLen < p.offset + n → p.step bodyLen avail = .fault bodyLen)
    ∧ (p.offset + n ≤ bodyLen → avail.length < n → p.step bodyLen avail = .more)
    ∧ (p.offset + n ≤ bodyLen → n ≤ avail.length →
      (¬ good v → p.step bodyLen avail = .fault p.offset) ∧ (good v → p.step bodyLen avail = .go (next v)))

/-- An item that is a count and as many bytes, judged: the count first, then every byte, both faults at the item's first
byte (R46). -/
def Pass.judgesList (p : Pass) (good : Nat → Prop) (each : Byte → Prop) (next : Nat → Pass) : Prop :=
  ∀ (bodyLen v : Nat) (avail : List Byte), v = num avail 0 1 →
    (bodyLen < p.offset + 1 → p.step bodyLen avail = .fault bodyLen)
    ∧ (p.offset + 1 ≤ bodyLen → avail = [] → p.step bodyLen avail = .more)
    ∧ (p.offset + 1 ≤ bodyLen → 1 ≤ avail.length →
      (¬ good v → p.step bodyLen avail = .fault p.offset)
      ∧ (good v → bodyLen < p.offset + (1 + v) → p.step bodyLen avail = .fault bodyLen)
      ∧ (good v → p.offset + (1 + v) ≤ bodyLen → avail.length < 1 + v → p.step bodyLen avail = .more)
      ∧ (good v → p.offset + (1 + v) ≤ bodyLen → 1 + v ≤ avail.length →
        ((∃ b ∈ (avail.drop 1).take v, ¬ each b) → p.step bodyLen avail = .fault p.offset)
        ∧ ((∀ b ∈ (avail.drop 1).take v, each b) → p.step bodyLen avail = .go (next v))))

/-! ## The Job Queue (R94, R101) -/

/-- A job that can supply a new label group: no hold reason, and labels left (R94, R101). -/
def Job.supplies (j : Job) : Prop :=
  j.holdCounter = false ∧ j.holdOperator = false ∧ j.cancelled = false ∧ j.nextLabel ≤ j.items.quantity

/-! ## Safe states -/

/-- The flash contents are in canonical form. -/
def State.flashSound (s : State) : Prop := Memory.wf s.flash = true

/-- The attention line is asserted while the engine is in FAULT or the counter hold is set, and the counter hold
is set while some job holds the reason COUNTER (R101, R178). -/
def State.attentionSound (s : State) : Prop :=
  s.media.counterHold = s.queue.jobs.any Job.holdCounter
    ∧ s.media.attention = (decide (s.media.engine = .fault) || s.media.counterHold)

/-- The items of the JOB_SUBMIT in execution, if one is. -/
def itemsSubmitted : Work → Option JobItems
  | .submitFormat items _ => some items
  | .awaitTable items _ _ _ => some items
  | .submitTable items _ _ => some items
  | _ => none

/-- At most 32 jobs with pairwise distinct tags and at most 4 tickets; a JOB_SUBMIT in execution has its place (R95,
R96). -/
def State.queueSound (s : State) : Prop :=
  s.queue.jobs.length ≤ Config.maxJobs ∧ s.queue.tickets.length ≤ Config.maxTickets
    ∧ (s.queue.jobs.map fun j => j.items.tag).Nodup
    ∧ ∀ items, itemsSubmitted s.dec.work = some items →
        s.queue.jobs.length < Config.maxJobs ∧ ∀ j ∈ s.queue.jobs, j.items.tag ≠ items.tag

/-- The stored table check is the sum of the stored table (R90). -/
def State.tableSound (s : State) : Prop := s.battery.check = tableSum s.battery

/-- A counter's current value, start value, and every value of its two lists lie within its bounds (R75). -/
def Counter.inBounds (c : Counter) : Prop :=
  (c.defn.low ≤ c.current ∧ c.current ≤ c.defn.high) ∧ (c.defn.low ≤ c.defn.start ∧ c.defn.start ≤ c.defn.high)
    ∧ (∀ v ∈ c.returns, c.defn.low ≤ v ∧ v ≤ c.defn.high)
    ∧ ∀ o ∈ c.outstanding, c.defn.low ≤ o.value ∧ o.value ≤ c.defn.high

/-- Every counter's values lie within its bounds. -/
def State.countersInBounds (s : State) : Prop := ∀ c ∈ s.battery.counters, c.inBounds

/-- Every counter's return list holds at most 8 values and no value twice (R76). -/
def State.returnsSound (s : State) : Prop :=
  ∀ c ∈ s.battery.counters, c.returns.length ≤ 8 ∧ c.returns.Nodup

/-- The registration count lies between 0 and 256 (R164). -/
def State.countSound (s : State) : Prop := s.media.count ≤ 256

/-- Every sticky flag set in one is set in the other. -/
def Sticky.kept (a b : Sticky) : Prop :=
  (a.storeFault = true → b.storeFault = true) ∧ (a.heatHoldSeen = true → b.heatHoldSeen = true)
    ∧ (a.supplyHoldSeen = true → b.supplyHoldSeen = true) ∧ (a.underrunSeen = true → b.underrunSeen = true)
    ∧ (a.registrationWarning = true → b.registrationWarning = true)
    ∧ (a.batteryLow = true → b.batteryLow = true) ∧ (a.countersLost = true → b.countersLost = true)

/-- The commands that clear sticky flags: STATUS_CLEAR, and those that reset the part or may start it up (R188 to
R192). -/
def clearsSticky : Instr → Bool
  | .statusClear => true
  | .powerOn _ => true
  | .resetLine _ => true
  | .mainPowerLoss => true
  | .byteTransmitted _ => true
  | .restartLimit _ => true
  | .resetLineAsserted => true
  | _ => false

end Sys2Proof.Machine
end

