-- ==== Sys2Proof/Certificates/Slice0/Obligations.lean ====
section
/-! DEFINITION. The statements for the provers. Where a statement is about a command, `u` is the state `s` with
everything that had fallen due taken (log entry 3). A request command finds a frame of its kind taken by the Decoder,
with a body its kind can take (`State.asks`, log entry 4); its next state is written out as `u` with the effect the
rule gives, in execution or answered (`State.taken`, `State.answered`). For an event that itself falls due, such as
MISSED_GAP, `u` is `s` with only the room granted that its claims wait for. -/

open Sys2Proof Sys2Proof.Machine

/-! ## The machine -/

/-- The command at the front of the queue is executed on the state with the queue's rest. On an empty queue the block
idles and one microsecond of its clock passes: the model's choice (log entry 2). -/
def Obligations.StepRunsFrontCommand : Prop :=
  (∀ (c : Instr) (rest : List Instr) (s : State), s.pending = c :: rest →
    step s = exec c { s with pending := rest })
  ∧ ∀ s : State, s.pending = [] → step s = .next { s with now := s.now + 1 }

/-- Every command answers a next state in every state, with the queue of waiting commands as it was: the effect is on
everything but the queue. The three that end an access do so too, unless the access they end is of a page outside the
array (section 1.1, log entry 39). None is refused. The model's choices in it: log entries 1, 39. -/
def Obligations.CommandsAnswerAndLeaveTheQueueAlone : Prop :=
  ∀ (c : Instr) (s : State),
    (∃ t, exec c s = .next t ∧ t.pending = s.pending)
    ∨ exec c s = .fault .noSuchFlashAddress
      ∧ (c = .pageReadEnd ∨ c = .programTimeout ∨ ∃ left, c = .pageProgramEnd left)
      ∧ ∃ b, s.settle.array.busy = some b ∧ Config.pages ≤ b.access.op.page

/-! ## Reset -/

/-- What each chapter gives its block right after a reset: the Job Queue, ticket list and last-label record empty and
no reprint pending; six FREE band buffers and nothing in hand; no line in hand, no label values, derating 0, history
cleared, no last line end, supply run 0, counts 0, no sensor fault; the Media Tracker's table of R159, the idle timer
0; the assembly in HUNT, the buffers empty, CTS low; the Decoder idle; no sticky flag; the store's RAM empty and the
erase service idle. The state after reset meets every invariant that the statements below keep. The model's choices in
it: log entries 6, 7, 11. -/
def Obligations.ResetState : Prop :=
  (let s := State.reset
  (s.queue.jobs = [] ∧ s.queue.tickets = [] ∧ s.queue.last = none ∧ s.queue.reprint = false)
  ∧ (s.render.buffers.length = 6 ∧ (∀ b ∈ s.render.buffers, b.state = .free ∧ b.ticket = none) ∧ s.render.hand = none)
  ∧ (s.burn.line = none ∧ s.burn.values = none ∧ s.burn.derating = 0 ∧ s.burn.previous = [] ∧ s.burn.before = []
    ∧ s.burn.lastLineEnd = none ∧ s.burn.supplyRun = 0 ∧ s.burn.stretchedLabel = 0 ∧ s.burn.stretchedLast = 0
    ∧ s.burn.stretchedTotal = 0 ∧ s.burn.sensorFault = false)
  ∧ (s.media.engine = .idle ∧ s.media.power = true ∧ s.media.holds = ⟨false, false, false⟩
    ∧ s.media.causes = ⟨false, false, false, false⟩ ∧ s.media.setAside = ⟨false, false, false⟩
    ∧ s.media.pausePending = false ∧ s.media.d = 0 ∧ s.media.high = 0 ∧ s.media.count = 0 ∧ s.media.gapRun = 0
    ∧ s.media.out = none ∧ s.media.event = .none ∧ s.media.counterHold = false ∧ s.media.notice = none
    ∧ s.media.attention = false ∧ s.media.idleSince = s.now)
  ∧ (s.line.assembly = .hunt ∧ s.line.stored = [] ∧ s.line.input = [] ∧ s.line.overrun = none ∧ s.line.cts = false
    ∧ s.line.output = [] ∧ s.dec.state = .idle)
  ∧ s.sticky = ⟨false, false, false, false, false, false, false⟩
  ∧ (s.store.directory = [] ∧ s.store.index = [] ∧ s.store.sectorMap = [] ∧ s.store.eraseQueue = []
    ∧ s.store.upload = none ∧ s.array.busy = none ∧ s.array.erase = .idle))
  ∧ (State.reset.flashSound ∧ State.reset.attentionSound ∧ State.reset.countSound ∧ State.reset.queueSound
    ∧ State.reset.tableSound ∧ State.reset.countersInBounds ∧ State.reset.returnsSound)

/-! ## Invariants that every step keeps -/

/-- Every step keeps the flash contents in canonical form: addresses strictly rising, no erased byte listed. The
model's choices in it: log entry 11. -/
def Obligations.FlashStaysCanonical : Prop :=
  ∀ s t : State, s.flashSound → step s = .next t → t.flashSound

/-- Every step keeps the attention line asserted exactly while the engine is in FAULT or the counter hold is set, and
the counter hold set exactly while a job holds the reason COUNTER. -/
def Obligations.AttentionFollowsFaultAndCounterHold : Prop :=
  ∀ s t : State, s.attentionSound → step s = .next t → t.attentionSound

/-- Every step keeps the queue at 32 jobs at most with pairwise distinct tags, and the ticket list at 4 tickets at
most; and every step keeps the registration count at 256 at most. -/
def Obligations.QueueAndCountStayWithinTheirRoom : Prop :=
  (∀ s t : State, s.queueSound → step s = .next t → t.queueSound)
  ∧ ∀ s t : State, s.countSound → step s = .next t → t.countSound

/-- Every step that changes a counter record, a setting, the lost mark or a drop record writes the table check with
it: the stored check stays the sum of the stored table. The model's choices in it: log entry 10. -/
def Obligations.TableCheckStaysInAgreement : Prop :=
  ∀ s t : State, s.tableSound → step s = .next t → t.tableSound

/-- Every step keeps each counter's current value, and every value of its return and outstanding lists, within its
bounds; and each return list at 8 values at most with no value twice. -/
def Obligations.CounterValuesStayInBounds : Prop :=
  (∀ s t : State, s.countersInBounds → step s = .next t → t.countersInBounds)
  ∧ ∀ s t : State, s.returnsSound → step s = .next t → t.returnsSound

/-- A sticky flag that is set stays set through every command but STATUS_CLEAR and those that reset the part or may
start it up. -/
def Obligations.StickyFlagsStaySet : Prop :=
  ∀ (c : Instr) (s t : State), clearsSticky c = false → exec c s = .next t → s.sticky.kept t.sticky

/-- A part held in reset stays held through every command but RESET_LINE and MAIN_POWER_LOSS, and start-up begins at
the release of the line. A part in reset has no RESTART mark. The model's choices in it: log entries 1, 6. -/
def Obligations.HeldPartLeavesResetAtItsRelease : Prop :=
  (∀ (c : Instr) (s t : State), s.mode = .held → s.line.restart = none → exec c s = .next t →
    (∀ straps, c ≠ .resetLine straps) → c ≠ .mainPowerLoss → t.mode = .held)
  ∧ ∀ (straps : BaudStraps) (s u : State), s.settle = u → u.mode = .held → u.lines.resetAsserted = true →
      exec (.resetLine straps) s
        = .next (State.startedUp { u with lines := { u.lines with resetAsserted := false } } (rateOf straps))

/-! ## Start-up, reset and power (chapters 4.7 and 10) -/

/-- Start-up begins at POWER_ON with the reset line released, at RESTART_LIMIT whatever request-to-send did, and at
the byte that reaches a RESTART mark: every block reset, the counter check made, the scan's first read begun. The scan
judges a header at each sector it reaches. One that begins no extent, or whose marker is not LIVE, is passed by; the
body of a LIVE extent is read page by page, one of no bytes by no read, and by its sum the extent is a candidate, its
sectors passed by, or damaged and counted. When the walk has ended, of each kind and number the candidate of the
highest revision is kept, of equal ones that of the lowest first sector; the others are staled in order and counted as
duplicates, a failed program setting no STORE_FAULT. Then every sector outside a kept extent is read. At its end, the
store's RAM is built and the engine step begins: FAULT with the causes that stand, a RESYNC feed, or IDLE; it ends
with no motion in progress. The model's choices in it: log entries 2, 5, 6, 12, 15, 26, 31, 34, 49, 50. -/
def Obligations.StartUpBeginsAndScansTheStore : Prop :=
  ((∀ (straps : BaudStraps) (s u : State), s.settle = u → u.mode = .off →
    exec (.powerOn straps) s
      = .next (if u.lines.resetAsserted = true then { u with mode := .held } else u.startedUp (rateOf straps)))
  ∧ (∀ (straps : BaudStraps) (s u : State) (m : RestartMark), s.settle = u → u.line.restart = some m →
    exec (.restartLimit straps) s
      = .next (State.startedUp { u with now := max u.now (m.placed + 2000000) } (rateOf straps)))
  ∧ ∀ (straps : BaudStraps) (s u : State) (m : RestartMark) (began : Nat), s.settle = u →
    u.line.sending = some began → u.line.restart = some m → m.bytes ≤ 1 →
    exec (.byteTransmitted straps) s
      = .next (State.startedUp { u with now := max u.now (began + byteTime u.line.rate) } (rateOf straps)))
  ∧ (∀ (s u w v : State) (c : Scan) (page began : Nat), s.settle = u → u.mode = .startUp (.scan c) →
    u.array.busy = some { access := { client := .scan, op := .read page }, started := began } → page < 32768 →
    w = { u with now := max u.now (began + 40) } → v = { w with array := u.array.passOn w.now } →
    (∀ (sector : Nat) (h : List Byte), c.wait = .header sector → h = flashRange u.flash (sector * 4096) 32 →
      (readMarker (byteAt h 0) ≠ .live ∨ extentOfHeader sector h = none →
        exec .pageReadEnd s = .next (State.checkEngineStep (v.walkTo (sector + 1) c)))
      ∧ ∀ (e : Extent) (p : Nat) (rest : List Nat), readMarker (byteAt h 0) = .live →
        extentOfHeader sector h = some e → bodyPages e.firstSector 0 e.bodyLen = p :: rest →
        exec .pageReadEnd s = .next (v.scanned { c with wait := .body e rest } (.read p)))
    ∧ (∀ (sector : Nat) (h : List Byte) (e : Extent), c.wait = .header sector → h = flashRange u.flash (sector * 4096) 32 →
      readMarker (byteAt h 0) = .live → extentOfHeader sector h = some e → e.bodyLen = 0 →
      (e.check = 0 →
        exec .pageReadEnd s = .next
          (State.checkEngineStep
            (v.walkTo (e.firstSector + e.extentLen) { c with candidates := c.candidates ++ [e] })))
      ∧ (e.check ≠ 0 →
        exec .pageReadEnd s = .next
          (State.checkEngineStep (v.walkTo (e.firstSector + 1) { c with damaged := c.damaged + 1 }))))
    ∧ (∀ (e : Extent) (p : Nat) (rest : List Nat), c.wait = .body e (p :: rest) →
      exec .pageReadEnd s = .next (v.scanned { c with wait := .body e rest } (.read p)))
    ∧ (∀ e : Extent, c.wait = .body e [] →
      (byteSum (bodyBytes u.flash e.firstSector e.bodyLen) = e.check →
        exec .pageReadEnd s = .next
          (State.checkEngineStep
            (v.walkTo (e.firstSector + e.extentLen) { c with candidates := c.candidates ++ [e] })))
      ∧ (byteSum (bodyBytes u.flash e.firstSector e.bodyLen) ≠ e.check →
        exec .pageReadEnd s = .next
          (State.checkEngineStep (v.walkTo (e.firstSector + 1) { c with damaged := c.damaged + 1 }))))
    ∧ (∀ (n p : Nat) (rest : List Nat), c.wait = .verify n (p :: rest) →
      exec .pageReadEnd s = .next (v.scanned { c with wait := .verify n rest } (.read p)))
    ∧ ∀ n : Nat, c.wait = .verify n [] →
      ((∀ a, n * 4096 ≤ a → a < n * 4096 + 4096 → flashRead u.flash a = 0xFF) → u.flashSound →
        exec .pageReadEnd s = .next (State.checkEngineStep (v.verifyFrom (n + 1) c)))
      ∧ ((∃ a, n * 4096 ≤ a ∧ a < n * 4096 + 4096 ∧ flashRead u.flash a ≠ 0xFF) →
        exec .pageReadEnd s = .next
          (State.checkEngineStep (v.verifyFrom (n + 1) { c with dirty := c.dirty ++ [n] }))))
  ∧ (∀ (s u v : State) (c : Scan) (e : Extent) (rest : List Extent) (addr began now : Nat) (data : List Byte),
    s.settle = u → u.mode = .startUp (.scan c) → c.wait = .stale e rest →
    u.array.busy = some { access := { client := .scan, op := .program addr data }, started := began } →
    addr / 256 < 32768 → now = max u.now (began + 3000) → v = { u.programFailed addr data now with sticky := u.sticky } →
    (u.now - began ≤ 3000 →
      exec (.pageProgramEnd none) s
        = .next (State.checkEngineStep ((u.programDone addr data).staleNext rest c)))
    ∧ exec .programTimeout s = .next
      (State.checkEngineStep
        (v.staleNext rest
          { c with
            failed := c.failed ++
              [{ kind := e.kind, number := e.number, revision := e.revision, firstSector := e.firstSector }] })))
  ∧ (∀ (v : State) (c : Scan) (n : Nat) (losers : List Extent) (e : Extent),
    (n < 2048 → v.walkTo n c = v.scanned { c with wait := .header n } (.read (16 * n)))
    ∧ (2048 ≤ n → losers = c.candidates.filter (Extent.loses c.candidates) →
      v.walkTo n c = v.staleNext losers { c with kept := c.candidates.filter fun e => !e.loses c.candidates })
    ∧ v.staleNext (e :: losers) c
      = v.scanned { c with wait := .stale e losers, duplicates := c.duplicates + 1 }
          (.program (e.firstSector * 4096) [0x00])
    ∧ v.staleNext [] c = v.verifyFrom 0 c)
  ∧ (∀ (cs : List Extent) (e : Extent),
    (e.loses cs = true ↔ ∃ f ∈ cs, f.kind = e.kind ∧ f.number = e.number
      ∧ (e.revision < f.revision ∨ (f.revision = e.revision ∧ f.firstSector < e.firstSector)))
    ∧ (cs.Pairwise (fun f g => f.firstSector ≠ g.firstSector) → e ∈ cs →
      ∃! f, f ∈ cs ∧ f.kind = e.kind ∧ f.number = e.number ∧ f.loses cs = false))
  ∧ (∀ (v : State) (c : Scan) (m : Nat) (inside : Nat → Prop),
    (∀ k, inside k ↔ ∃ e ∈ c.kept, e.firstSector ≤ k ∧ k < e.firstSector + e.extentLen) →
    (∀ n, m ≤ n → n < 2048 → ¬ inside n → (∀ k, m ≤ k → k < n → inside k) →
      v.verifyFrom m c
        = v.scanned { c with wait := .verify n ((List.range 15).map fun i => 16 * n + 1 + i) } (.read (16 * n)))
    ∧ ((∀ k, m ≤ k → k < 2048 → inside k) →
      v.verifyFrom m c = State.beginEngineStep c.damaged c.duplicates { v with store := storeOf c })
    ∧ (storeOf c).directory = c.kept.map (fun (e : Extent) =>
        { kind := e.kind, number := e.number, revision := e.revision, firstSector := e.firstSector,
          extentLen := e.extentLen, bodyLen := e.bodyLen, lock := e.lock, state := .live, pins := 0 })
    ∧ (storeOf c).index = c.kept.map (fun (e : Extent) =>
        { kind := e.kind, number := e.number, firstSector := e.firstSector })
    ∧ (∀ k, (k ∈ c.dirty → sectorState (storeOf c).sectorMap k = .queued)
      ∧ (k ∉ c.dirty → inside k → sectorState (storeOf c).sectorMap k = .held)
      ∧ (k ∉ c.dirty → ¬ inside k → sectorState (storeOf c).sectorMap k = .free))
    ∧ (storeOf c).eraseQueue = c.dirty ∧ (storeOf c).failedStale = c.failed ∧ (storeOf c).upload = none)
  ∧ (∀ (s w : State) (damaged duplicates : Nat) (out : Bool) (causes : Causes),
    w = { s with mode := .startUp (.engine damaged duplicates) } →
    out = (decide (s.battery.settings.mediaType = .continuous) && s.lines.gap) →
    causes = { headOpen := s.lines.headOpen, mediaOut := out, mediaLost := false, headFault := s.burn.sensorFault } →
    (s.lines.headOpen = true ∨ out = true ∨ s.burn.sensorFault = true →
      s.beginEngineStep damaged duplicates
        = State.addCause causes
            { w with media := { s.media with event := if out = true then .mediaOut else s.media.event } })
    ∧ (s.lines.headOpen = false → out = false → s.burn.sensorFault = false →
      (s.battery.settings.mediaType ≠ .continuous → 0 < s.battery.settings.pitch → s.media.power = true →
        s.beginEngineStep damaged duplicates = { w with
          media := { s.media with
            engine := .resync
            out := none
            motion := some
              { kind := .resyncSeek 0, forLabel := false, forRecovery := false, wake := none, due := s.now + 1250 }
            attention := s.media.counterHold } })
      ∧ (s.battery.settings.mediaType = .continuous ∨ s.battery.settings.pitch = 0 →
        s.beginEngineStep damaged duplicates = w)))
  ∧ ∀ (s : State) (damaged duplicates : Nat), s.mode = .startUp (.engine damaged duplicates) →
    (s.media.motion = none → s.media.due = none →
      s.checkEngineStep = { s with mode := .startUp (.ready damaged duplicates) })
    ∧ (s.media.motion ≠ none ∨ s.media.due ≠ none → s.checkEngineStep = s)

/-- The reset line asserted puts every block of a part that starts up or runs at its values after reset and holds it
there; a loss of main power does so and leaves the part off. Flash is left as the operations cut short leave it, and
the battery-backed RAM as it was: where no program is in progress and no sector is being erased, both are unchanged.
Otherwise every byte outside the program in progress and the sector being erased reads as before, and a byte of that
program outside that sector can only have lost ones. The model's choices in it: log entries 6, 13. -/
def Obligations.ResetLineAndPowerLossResetTheBlocks : Prop :=
  (∀ s u : State, s.settle = u → u.mode ≠ .off → u.mode ≠ .held →
    exec .resetLineAsserted s
      = .next (State.blocksReset { u with lines := { u.lines with resetAsserted := true } } .held u.line.rate))
  ∧ (∀ s u : State, s.settle = u → u.mode = .off ∨ u.mode = .held →
    exec .resetLineAsserted s = .next { u with lines := { u.lines with resetAsserted := true } })
  ∧ (∀ s u : State, s.settle = u → u.mode ≠ .off →
    exec .mainPowerLoss s = .next (u.blocksReset .off u.line.rate))
  ∧ (∀ (u : State) (mode : Mode) (rate : Nat),
    (∀ b, u.array.busy = some b → ∃ page, b.access.op = .read page) → u.array.erase = .idle →
      (u.blocksReset mode rate).flash = u.flash ∧ (u.blocksReset mode rate).battery = u.battery)
  ∧ ∀ (u : State) (mode : Mode) (rate a : Nat), u.flashSound →
    (∀ r, u.array.erase = .erasing r → inSector r.sector a = false) →
    (∀ sector time, u.array.erase = .suspended sector time → inSector sector a = false) →
      flashRead (u.blocksReset mode rate).flash a &&& flashRead u.flash a = flashRead (u.blocksReset mode rate).flash a
      ∧ ((∀ client addr data began,
          u.array.busy = some { access := { client, op := .program addr data }, started := began } →
          a < addr ∨ addr + data.length ≤ a) →
        flashRead (u.blocksReset mode rate).flash a = flashRead u.flash a)

/-- The counter check. A table with its retention latch set or a check that disagrees is rebuilt: every counter
UNDEFINED, the default settings, the lost mark set, no drop record. Any other table keeps each counter but for its
outstanding values, which are dropped, and its binding count, which becomes 0; each counter that had outstanding
values leaves a drop record with their number, the lowest and the highest; the drop records stand in order of id.
Either way the latch is clear and the check agrees. A battery below its warning level sets BATTERY_LOW while the part
starts up or runs, and the flag stays when the level rises; while the part is held in reset or without main power only
the level changes. A retention loss while main power is off sets the latch, and at any other time changes nothing.
Nothing else changes. The model's choices in it: log entries 5, 10, 13. -/
def Obligations.BatteryBackedTableIsCheckedAndKept : Prop :=
  ((∀ b : Battery, b.isLost = true ↔ b.latch = true ∨ b.check ≠ tableSum b)
  ∧ (Battery.rebuilt.counters = List.replicate 64 Counter.undefinedRecord ∧ Battery.rebuilt.settings = Settings.default
    ∧ Battery.rebuilt.lostMark = true ∧ Battery.rebuilt.drops = [] ∧ Battery.rebuilt.latch = false
    ∧ Battery.rebuilt.check = tableSum Battery.rebuilt)
  ∧ ∀ b : Battery,
    (∀ i : Nat, b.kept.counters[i]? = (b.counters[i]?).map fun (c : Counter) => { c with outstanding := [], bound := 0 })
    ∧ (∀ d : Drop, d ∈ b.kept.drops ↔ d ∈ b.drops ∨
        ∃ (i : Nat) (c : Counter), b.counters[i]? = some c ∧ c.outstanding ≠ [] ∧ d.id = i + 1
          ∧ d.count = c.outstanding.length
          ∧ d.lowest ∈ c.outstanding.map Outstanding.value ∧ d.highest ∈ c.outstanding.map Outstanding.value
          ∧ ∀ v ∈ c.outstanding.map Outstanding.value, d.lowest ≤ v ∧ v ≤ d.highest)
    ∧ b.kept.drops.Pairwise (fun x y => x.id ≤ y.id)
    ∧ b.kept.settings = b.settings ∧ b.kept.lostMark = b.lostMark ∧ b.kept.latch = false
    ∧ b.kept.check = tableSum b.kept)
  ∧ ((∀ (below : Bool) (s u : State), s.settle = u →
    (u.mode = .running ∨ (∃ stage, u.mode = .startUp stage) →
      exec (.batteryLow below) s = .next
        { u with
          lines := { u.lines with batteryLow := below }
          sticky := { u.sticky with batteryLow := u.sticky.batteryLow || below } })
    ∧ (u.mode = .held ∨ u.mode = .off →
      exec (.batteryLow below) s = .next { u with lines := { u.lines with batteryLow := below } }))
  ∧ ∀ s u : State, s.settle = u →
    exec .batteryRetentionLoss s
      = .next (if u.mode = .off then { u with battery := { u.battery with latch := true } } else u))

/-! ## The serial line (chapter 9) -/

/-- A byte received by a running part with no RESTART answered is given to the assembly, and CTS and the Decoder
follow the buffer; a byte whose stop bit is wrong, or one after RESTART, changes nothing. The frame in assembly ended
by an error leaves its NAK mark in the place of its bytes, and the assembly in HUNT: LENGTH at a length above 1,024,
CHECK at a check that disagrees, OVERRUN at a byte that finds the buffer full, TIMEOUT when the byte timer runs out. A
lost A5h in HUNT makes an overrun pending or adds to it, up to 255. The model's choices in it: log entries 2, 27. -/
def Obligations.ReceivedBytesAreAssembled : Prop :=
  (∀ (b : Byte) (stop : Bool) (s u : State), s.settle = u → u.mode = .running →
    (stop = true → u.line.restart = none →
      exec (.serialByteReceived b stop) s = .next (u.lineFollowed (u.line.receive u.now b)))
    ∧ (stop = false ∨ u.line.restart ≠ none → exec (.serialByteReceived b stop) s = .next u))
  ∧ ((∀ (l : LineIf) (now : Nat) (b : Byte), l.fill < 4096 → l.overrun = none → l.assembly = .length →
    l.stored.length = 2 → 1024 < num (l.stored ++ [b]) 1 2 →
    l.receive now b = { l with input := l.input ++ [.mark .length 1], stored := [], assembly := .hunt, lastByteAt := now })
  ∧ (∀ (l : LineIf) (now n : Nat) (b : Byte), l.fill < 4096 → l.overrun = none → l.assembly = .check →
    n = num (l.stored ++ [b]) 1 2 → l.stored.length = n + 5 →
    byteSum (((l.stored ++ [b]).drop 1).take (n + 3)) ≠ num (l.stored ++ [b]) (n + 4) 2 →
    l.receive now b = { l with input := l.input ++ [.mark .check 1], stored := [], assembly := .hunt, lastByteAt := now })
  ∧ (∀ (l : LineIf) (now : Nat) (b : Byte), 4096 ≤ l.fill → l.overrun = none → l.assembly ≠ .hunt →
    l.receive now b = { l with input := l.input ++ [.mark .overrun 1], stored := [], assembly := .hunt })
  ∧ (∀ (l : LineIf) (now : Nat), 4096 ≤ l.fill → l.assembly = .hunt →
    l.receive now 0xA5 = { l with overrun := some (min 255 (l.overrun.getD 0 + 1)) })
  ∧ ∀ s u : State, s.settle = u → u.mode = .running → u.line.restart = none → u.line.overrun = none →
    u.line.assembly ≠ .hunt →
    exec .byteTimeout s = .next
      (State.lineFollowed { u with now := max u.now (u.line.lastByteAt + 100001) }
        { u.line with input := u.line.input ++ [.mark .timeout 1], stored := [], assembly := .hunt }))

/-- A frame is assembled from its bytes: from HUNT with nothing stored and room for the whole frame, the bytes of a
frame with a body of at most 1,024 bytes, whenever each arrives, leave that frame alone at the end of the input buffer
and the assembly in HUNT again. -/
def Obligations.FrameIsAssembledFromItsBytes : Prop :=
  ∀ (l : LineIf) (kind : Byte) (body : List Byte) (times : List Nat),
    l.assembly = .hunt → l.stored = [] → l.overrun = none → body.length ≤ 1024 →
    l.fill + (body.length + 6) ≤ 4096 → times.length = body.length + 6 →
    (times.zip (frameBytes kind body)).foldl (fun l p => l.receive p.1 p.2) l
      = { l with input := l.input ++ [.frame kind body], lastByteAt := times.getLast?.getD l.lastByteAt }

/-- Request-to-send going high starts the oldest byte of the output queue where none is being sent; going low it stops
no byte. A byte sent leaves the queue, and the next begins where request-to-send is high. The model's choices in it:
log entries 2, 5, 27. -/
def Obligations.TransmissionFollowsRequestToSend : Prop :=
  (∀ (high : Bool) (s u : State), s.settle = u → u.mode = .running →
    exec (.rtsChange high) s = .next
      { u with
        lines := { u.lines with rts := high }
        line := { u.line with
          sending := if u.line.sending = none ∧ high = true ∧ u.line.output ≠ [] then some u.now
            else u.line.sending } })
  ∧ ∀ (straps : BaudStraps) (s u : State) (began ended : Nat), s.settle = u → u.mode = .running →
    u.line.sending = some began → ended = max u.now (began + byteTime u.line.rate) →
    (∀ m, u.line.restart = some m → 1 < m.bytes) →
    exec (.byteTransmitted straps) s = .next
      { u with
        now := ended
        line := { u.line with
          output := u.line.output.tail
          sending := if u.lines.rts = true ∧ u.line.output.tail ≠ [] then some ended else none
          restart := u.line.restart.map fun m => { m with bytes := m.bytes - 1 } } }

/-! ## Requests (chapter 9) -/

/-- A request whose body has a length its kind cannot take is refused with BAD_LENGTH and has no other effect; a
RECORD_DATA or RECORD_END so refused restarts the upload idle timer. A frame whose kind names no request is refused
with UNKNOWN_KIND and has no other effect. A JOB_END notice that waits without room keeps the ENGINE notice and the
Decoder waiting, and an ENGINE notice the Decoder. A waiting Decoder is granted its claim when no notice waits and the
room holds the bound of the head, and not otherwise: a frame leaves the buffer, CTS following, and is in execution
with its room reserved, the upload idle timer stopped for a RECORD_DATA or RECORD_END; a NAK mark leaves it and is
answered at once with a NAK of its cause and merged count. The command NAK is that of a mark. The model's choices in
it: log entries 3, 4. -/
def Obligations.UnanswerableHeadsRefused : Prop :=
  (∀ (c : Instr) (code : Nat) (body : List Byte) (s u : State), requestCode c = some code → s.settle = u →
    u.headItem = some (.frame (byte code) body) → bodyLengthOk (byte code) body = false →
    exec c s = .next
      (u.answered code (refusedReply code .badLength 0)
        (if code = 0x02 ∨ code = 0x03 then u.startUploadTimer else u)))
  ∧ (∀ (s u : State) (kind : Byte) (body : List Byte), s.settle = u → u.headItem = some (.frame kind body) →
    requestRow kind = none →
    exec .unknownKind s = .next (u.answered kind.toNat (refusedReply kind.toNat .unknownKind 0) u))
  ∧ ∀ (s w : State) (head : InItem) (rest : List InItem), s.line.input = head :: rest →
    w = { s with line := s.line.headTaken } →
    (s.mode = .running → s.line.restart = none → s.dec.state = .waiting → s.queue.ending = [] → s.media.notice = none →
      replyBound head ≤ s.freeRoom →
      (∀ kind body, head = .frame kind body → s.grantRoom =
        { w with
          dec := { s.dec with
            state := .executing, reserved := some (replyBound head), kind := kind, taken := some head }
          store := if kind = 0x02 ∨ kind = 0x03 then
              { s.store with upload := s.store.upload.map fun up => { up with timer := none } }
            else s.store })
      ∧ ∀ cause merged, head = .mark cause merged →
        exec .nak s = .next (w.replied 0 (nakReply cause merged) w))
    ∧ (s.mode ≠ .running ∨ s.line.restart ≠ none ∨ s.dec.state ≠ .waiting
        ∨ (s.queue.ending = [] ∧ s.media.notice = none ∧ s.freeRoom < replyBound head) →
      s.grantRoom.dec = s.dec ∧ s.grantRoom.line.input = s.line.input
      ∧ (s.queue.ending = [] → s.media.notice = none → exec .nak s = .next s))
    ∧ (∀ n, s.media.notice = some n → s.freeRoom < (engineFrame n).length →
      s.grantRoom.dec = s.dec ∧ s.grantRoom.line.input = s.line.input)
    ∧ (∀ (tag : Nat) (later : List Nat) (j : Job), s.queue.ending = tag :: later → s.queue.job tag = some j →
      s.freeRoom < (jobEndFrame j).length → s.grantRoom = s ∧ exec .nak s = .next s ∧ exec .engine s = .next s)
    ∧ (∀ n, s.queue.ending = [] → s.media.notice = some n → s.freeRoom < (engineFrame n).length →
      s.grantRoom = s ∧ exec .nak s = .next s)

/-- STATUS answers the part's status and makes the last media event NO_CHANGE. STATUS_CLEAR clears the sticky flags
that its mask names, sets BATTERY_LOW again while the battery is low, and answers the flags; a mask with bit 7 set is
refused. RESTART is answered, what the input buffer holds is discarded, CTS goes low, and the end of the output queue
is marked with the time; nothing else changes. The model's choices in it: log entries 3, 4, 38. -/
def Obligations.StatusAndRestartAnswered : Prop :=
  ((∀ (s u : State) (body : List Byte), s.settle = u → u.asks 0x38 body →
    exec .status s = .next
      (u.answered 0x38 (okReply 0x38 (statusBytes u)) { u with media := { u.media with event := .noChange } }))
  ∧ ∀ (s u : State) (mask : Byte) (flags : Sticky), s.settle = u → u.asks 0x39 [mask] →
    flags = { stickyClear mask u.sticky with
      batteryLow := (u.sticky.batteryLow && !mask.getLsbD 5) || u.lines.batteryLow } →
    exec .statusClear s = .next
      (if mask.getLsbD 7 = true then u.answered 0x39 (refusedReply 0x39 .badValue 0) u
       else u.answered 0x39 (okReply 0x39 [byte (stickyBits flags)]) { u with sticky := flags }))
  ∧ ∀ (s u : State) (body output : List Byte), s.settle = u → u.asks 0x3A body →
    output = u.line.output ++ okReply 0x3A [] →
    exec .restart s = .next
      { u with
        line := { u.line with
          assembly := .hunt, stored := [], input := [], overrun := none, cts := false
          output := output
          sending := if u.line.sending = none ∧ u.lines.rts = true then some u.now else u.line.sending
          restart := some { bytes := output.length, placed := u.now } }
        dec := { state := .idle, reserved := none, kind := byte 0x3A, taken := none, work := .none } }

/-! ## The Record Store (chapters 1 and 3) -/

/-- RECORD_BEGIN: the cases that refuse it, in their order, each with no other effect; and with none of them, the
extent allocated, its sectors HELD, a WRITING entry of the next revision, the context OPEN with nothing received, and
the header program issued. The extent allocated is the lowest-numbered run of FREE sectors of its length, and
allocation fails only where there is none. A body is in range with the kind 46h, 47h or 53h, the number in 1 to 999,
the body length in 1 to the largest body of the kind, and the lock 0 or 1; any other is refused with BAD_VALUE. The
model's choices in it: log entries 3, 4. -/
def Obligations.RecordBeginRefusedOrOpened : Prop :=
  (∀ (s u : State) (body : List Byte), s.settle = u → u.asks 0x01 body →
    (u.store.upload ≠ none → exec .recordBegin s = .next (u.answered 0x01 (refusedReply 0x01 .busy 0) u))
    ∧ (u.store.upload = none →
      (beginOf body = none → exec .recordBegin s = .next (u.answered 0x01 (refusedReply 0x01 .badValue 0) u))
      ∧ ∀ (k : RecKind) (n len : Nat) (lock : Bool), beginOf body = some (k, n, len, lock) →
        ((∃ e, u.store.live k n = some e ∧ e.lock = true) →
          exec .recordBegin s = .next (u.answered 0x01 (refusedReply 0x01 .locked 0) u))
        ∧ ((∀ e, u.store.live k n = some e → e.lock = false) →
          (65535 ≤ u.store.highestRevision k n →
            exec .recordBegin s = .next (u.answered 0x01 (refusedReply 0x01 .revisionLimit 0) u))
          ∧ (u.store.highestRevision k n < 65535 →
            (freeRun u.store.sectorMap (extentOf len) = none →
              exec .recordBegin s = .next (u.answered 0x01 (refusedReply 0x01 .storeFull 0) u))
            ∧ ∀ (f : Nat) (e : DirEntry), freeRun u.store.sectorMap (extentOf len) = some f →
              e = { kind := k, number := n, revision := u.store.highestRevision k n + 1, firstSector := f,
                    extentLen := extentOf len, bodyLen := len, lock := lock, state := .writing, pins := 0 } →
              exec .recordBegin s = .next
                (u.taken 0x01 .header
                  { u with
                    store := { u.store with
                      directory := u.store.directory ++ [e]
                      sectorMap := setSectors u.store.sectorMap (extentSectors f (extentOf len)) .held
                      upload := some { kind := k, number := n, revision := u.store.highestRevision k n + 1,
                                       firstSector := f, bodyLen := len, received := 0, timer := none } }
                    array := u.array.arrive u.now
                      { client := .decoder, op := .program (f * 4096) (headerData e) } })))))
  ∧ (∀ (m : List (Nat × SectorState)) (n : Nat), 1 ≤ n → n ≤ 2048 →
    (∀ f, freeRun m n = some f → f + n ≤ 2048 ∧ (∀ i < n, sectorState m (f + i) = .free)
      ∧ ∀ g < f, ∃ i < n, sectorState m (g + i) ≠ .free)
    ∧ (freeRun m n = none → ∀ f, f + n ≤ 2048 → ∃ i < n, sectorState m (f + i) ≠ .free))
  ∧ ∀ (body : List Byte) (k : RecKind) (n len : Nat) (lock : Bool), beginOf body = some (k, n, len, lock) ↔
    ((num body 0 1 = 0x46 ∧ k = .format) ∨ (num body 0 1 = 0x47 ∧ k = .image) ∨ (num body 0 1 = 0x53 ∧ k = .table))
    ∧ n = num body 1 2 ∧ 1 ≤ n ∧ n ≤ 999
    ∧ len = num body 3 2 ∧ 1 ≤ len
    ∧ len ≤ (match k with
      | .format => 16352
      | .image => 65504
      | .table => 4064)
    ∧ ((num body 5 1 = 0 ∧ lock = false) ∨ (num body 5 1 = 1 ∧ lock = true))

/-- RECORD_DATA: its refusals in their order, after each of which the idle timer restarts; and with none of them, the
idle timer stopped and the program of its first piece issued. The data of a RECORD_DATA is cut at page boundaries: the
pieces joined are the data, each piece is of one page, and each begins where the one before it ends. RECORD_END:
refused with NO_UPLOAD, or INCOMPLETE with the bytes received, or the idle timer stopped and the first page read of
the body check pass issued. The model's choices in it: log entries 3, 4, 12. -/
def Obligations.RecordDataAndEndTaken : Prop :=
  ((∀ (s u : State) (body : List Byte), s.settle = u → u.asks 0x02 body →
    (u.store.upload = none → exec .recordData s = .next (u.answered 0x02 (refusedReply 0x02 .noUpload 0) u))
    ∧ ∀ (up : Upload) (offset len : Nat), u.store.upload = some up → offset = num body 0 2 → len = body.length - 2 →
      (len = 0 ∨ 1000 < len →
        exec .recordData s = .next (u.answered 0x02 (refusedReply 0x02 .badLength 0) u.startUploadTimer))
      ∧ (1 ≤ len → len ≤ 1000 →
        (offset ≠ up.received →
          exec .recordData s
            = .next (u.answered 0x02 (refusedReply 0x02 .outOfSequence up.received) u.startUploadTimer))
        ∧ (offset = up.received →
          (up.bodyLen < offset + len →
            exec .recordData s = .next (u.answered 0x02 (refusedReply 0x02 .badLength 0) u.startUploadTimer))
          ∧ (offset + len ≤ up.bodyLen →
            ∀ (a : Nat) (piece : List Byte) (rest : List (Nat × List Byte)),
              cutPages len (up.firstSector * 4096 + 32 + offset) (body.drop 2) = (a, piece) :: rest →
              exec .recordData s = .next
                (u.taken 0x02 (.data len rest)
                  { u with
                    store := { u.store with upload := some { up with timer := none } }
                    array := u.array.arrive u.now { client := .decoder, op := .program a piece } })))))
  ∧ ∀ (addr : Nat) (data : List Byte),
    ((cutPages data.length addr data).flatMap fun p => p.2) = data
    ∧ (∀ p ∈ cutPages data.length addr data, p.2 ≠ [] ∧ p.1 / 256 = (p.1 + p.2.length - 1) / 256)
    ∧ (∀ p, (cutPages data.length addr data).head? = some p → p.1 = addr)
    ∧ (cutPages data.length addr data).IsChain fun p q => q.1 = p.1 + p.2.length)
  ∧ ∀ (s u : State) (body : List Byte), s.settle = u → u.asks 0x03 body →
    (u.store.upload = none → exec .recordEnd s = .next (u.answered 0x03 (refusedReply 0x03 .noUpload 0) u))
    ∧ ∀ up : Upload, u.store.upload = some up →
      (up.received < up.bodyLen →
        exec .recordEnd s
          = .next (u.answered 0x03 (refusedReply 0x03 .incomplete up.received) u.startUploadTimer))
      ∧ ∀ (p : Nat) (rest : List Nat), up.bodyLen ≤ up.received → bodyPages up.firstSector 0 up.bodyLen = p :: rest →
        exec .recordEnd s = .next
          (u.taken 0x03 (.bodyCheck (num body 0 2) rest)
            { u with
              store := { u.store with upload := some { up with timer := none } }
              array := u.array.arrive u.now { client := .decoder, op := .read p } })

/-- An upload ends without a commit. RECORD_ABANDON with none open is refused; otherwise it answers what was open and
abandons it, and so does UPLOAD_TIMEOUT, 10 seconds after the idle timer started. Abandoning empties the context and
makes the WRITING entry DEAD: it leaves the directory, and no other does; its sectors, in ascending order, are queued
for erase at the tail of the erase queue, and no other sector's state changes. RECORD_RETIRE: refused with BAD_VALUE,
NOT_FOUND or LOCKED, or the stale program of the LIVE entry's header issued with nothing else changed. A kind of 46h,
47h or 53h and a number of 1 to 999 are in range. The model's choices in it: log entries 2, 3, 4. -/
def Obligations.UploadAbandonedAndRecordRetired : Prop :=
  ((∀ (s u : State) (body : List Byte), s.settle = u → u.asks 0x04 body →
    (u.store.upload = none → exec .recordAbandon s = .next (u.answered 0x04 (refusedReply 0x04 .noUpload 0) u))
    ∧ ∀ up : Upload, u.store.upload = some up →
      exec .recordAbandon s = .next
        (u.answered 0x04
          (okReply 0x04 ([byte (recKindCode up.kind)] ++ toBytes 2 up.number ++ toBytes 2 up.revision
            ++ toBytes 2 up.received))
          { u with store := u.store.abandon }))
  ∧ (∀ (s u : State) (up : Upload) (began : Nat), s.settle = u → u.mode = .running → u.store.upload = some up →
    up.timer = some began →
    exec .uploadTimeout s
      = .next { u with now := max u.now (began + 10000000), store := u.store.abandon })
  ∧ ∀ (st : RecordStore) (dead : List DirEntry) (sectors : List Nat),
    dead = (st.directory.filter fun e => decide (e.state = .writing)) →
    sectors = ((bySector dead).flatMap fun e => extentSectors e.firstSector e.extentLen) →
    st.abandon.upload = none ∧ st.abandon.index = st.index
    ∧ (∀ e, e ∈ st.abandon.directory ↔ e ∈ st.directory ∧ e.state ≠ .writing)
    ∧ st.abandon.eraseQueue = st.eraseQueue ++ sectors
    ∧ (∀ n, sectorState st.abandon.sectorMap n = if n ∈ sectors then .queued else sectorState st.sectorMap n)
    ∧ ∀ e, dead = [e] → sectors = (List.range e.extentLen).map fun i => e.firstSector + i)
  ∧ (∀ (body : List Byte) (k : RecKind) (n : Nat), nameOf body = some (k, n) ↔
    ((num body 0 1 = 0x46 ∧ k = .format) ∨ (num body 0 1 = 0x47 ∧ k = .image) ∨ (num body 0 1 = 0x53 ∧ k = .table))
    ∧ n = num body 1 2 ∧ 1 ≤ n ∧ n ≤ 999)
  ∧ (∀ (s u : State) (body : List Byte), s.settle = u → u.asks 0x05 body →
    (nameOf body = none → exec .recordRetire s = .next (u.answered 0x05 (refusedReply 0x05 .badValue 0) u))
    ∧ ∀ (k : RecKind) (n : Nat), nameOf body = some (k, n) →
      (u.store.live k n = none → exec .recordRetire s = .next (u.answered 0x05 (refusedReply 0x05 .notFound 0) u))
      ∧ ∀ e : DirEntry, u.store.live k n = some e →
        (e.lock = true → exec .recordRetire s = .next (u.answered 0x05 (refusedReply 0x05 .locked 0) u))
        ∧ (e.lock = false → u.store.entry e.ref = some e →
          exec .recordRetire s = .next
            (u.taken 0x05 (.retire e.ref)
              { u with
                array := u.array.arrive u.now
                  { client := .decoder, op := .program (e.firstSector * 4096) [0x00] } })))

/-- RECORD_QUERY, DIRECTORY_LIST and STORE_USAGE answer from the directory and the sector map and change nothing.
JOB_QUERY and QUEUE_LIST answer from the queue and change nothing; a tag with no job is refused. The model's choices
in it: log entries 3, 4. -/
def Obligations.QueriesOnlyAnswer : Prop :=
  ((∀ (s u : State) (body : List Byte), s.settle = u → u.asks 0x06 body →
    (nameOf body = none → exec .recordQuery s = .next (u.answered 0x06 (refusedReply 0x06 .badValue 0) u))
    ∧ ∀ (k : RecKind) (n : Nat) (found order : List DirEntry), nameOf body = some (k, n) →
      found = (u.store.directory.filter fun e => e.named k n) →
      (found = [] → exec .recordQuery s = .next (u.answered 0x06 (refusedReply 0x06 .notFound 0) u))
      ∧ (found ≠ [] → order = (found.insertionSort fun a b => a.revision ≤ b.revision) →
        exec .recordQuery s
          = .next (u.answered 0x06 (okReply 0x06 (byte order.length :: order.flatMap queryEntry)) u)))
  ∧ (∀ (s u : State) (body : List Byte), s.settle = u → u.asks 0x07 body →
    (nameOf body = none → exec .directoryList s = .next (u.answered 0x07 (refusedReply 0x07 .badValue 0) u))
    ∧ ∀ (k : RecKind) (start : Nat) (numbers : List Nat), nameOf body = some (k, start) →
      numbers = u.store.numbersFrom k start →
      exec .directoryList s = .next
        (u.answered 0x07
          (okReply 0x07
            (byte (numbers.take 32).length :: (numbers.take 32).flatMap (fun n => u.store.listNumber k n)
              ++ toBytes 2 ((numbers.drop 32).headD 0))) u))
  ∧ ∀ (s u : State) (body : List Byte), s.settle = u → u.asks 0x08 body →
    exec .storeUsage s = .next
      (u.answered 0x08
        (okReply 0x08
          (toBytes 2 (countSectors u.store.sectorMap .free) ++ toBytes 2 (largestRun u.store.sectorMap).1
            ++ toBytes 2 (largestRun u.store.sectorMap).2 ++ toBytes 2 (countSectors u.store.sectorMap .held)
            ++ toBytes 2 u.backlog ++ toBytes 2 (countSectors u.store.sectorMap .bad)
            ++ toBytes 2 u.store.directory.length ++ toBytes 2 (u.store.liveCount .format)
            ++ toBytes 2 (u.store.liveCount .image) ++ toBytes 2 (u.store.liveCount .table))) u))
  ∧ ((∀ (s u : State) (body : List Byte) (tag : Nat), s.settle = u → u.asks 0x24 body → tag = num body 0 2 →
    (u.queue.job tag = none → exec .jobQuery s = .next (u.answered 0x24 (refusedReply 0x24 .notFound 0) u))
    ∧ ∀ (j : Job) (mine : List Ticket), u.queue.job tag = some j →
      mine = (u.queue.tickets.filter fun t => decide (t.key.source = some tag)) →
      exec .jobQuery s = .next
        (u.answered 0x24
          (okReply 0x24 (jobBytes (u.queue.position tag) j ++ [byte mine.length] ++ mine.flatMap ticketBytes)) u))
  ∧ ∀ (s u : State) (body : List Byte), s.settle = u → u.asks 0x25 body →
    exec .queueList s = .next
      (u.answered 0x25
        (okReply 0x25
          (byte u.queue.jobs.length :: u.queue.jobs.flatMap queueJobBytes ++ [byte u.queue.tickets.length]
            ++ (u.queue.tickets.flatMap fun t => toBytes 2 (t.key.source.getD 0) ++ ticketBytes t)
            ++ [flagByte u.queue.reprint] ++ toBytes 2 ((u.queue.last.map LastLabel.tag).getD 0))) u))

/-- STORE_WIPE: refused without the service strap, with any job or ticket, or with the engine busy or a reprint
pending; otherwise, with no LIVE record its last event follows at once, and with one the first stale program is
issued, of the LIVE extent of lowest first sector. The last event empties the directory, the index, the context and
the last-label record. The model's choices in it: log entries 3, 4, 5. -/
def Obligations.StoreWipeRefusedOrBegun : Prop :=
  ∀ (service : Bool) (s u : State) (body : List Byte) (lives : List DirEntry), s.settle = u → u.asks 0x09 body →
    lives = bySector (u.store.directory.filter fun e => decide (e.state = .live)) →
    (service = false → exec (.storeWipe service) s = .next (u.answered 0x09 (refusedReply 0x09 .serviceLine 0) u))
    ∧ (service = true →
      (u.queue.jobs ≠ [] ∨ u.queue.tickets ≠ [] →
        exec (.storeWipe service) s = .next (u.answered 0x09 (refusedReply 0x09 .inUse 0) u))
      ∧ (u.queue.jobs = [] → u.queue.tickets = [] →
        (u.queue.reprint = true ∨ (u.media.engine ≠ .idle ∧ u.media.engine ≠ .off) →
          exec (.storeWipe service) s = .next (u.answered 0x09 (refusedReply 0x09 .busy 0) u))
        ∧ (u.queue.reprint = false → u.media.engine = .idle ∨ u.media.engine = .off →
          (lives = [] →
            exec (.storeWipe service) s = .next
              (u.answered 0x09
                (okReply 0x09
                  (toBytes 2 u.store.directory.length
                    ++ toBytes 2 (u.store.directory.map DirEntry.extentLen).sum ++ toBytes 2 0))
                { u with
                  store := { u.store.kill u.store.directory with index := [], upload := none }
                  queue := { u.queue with last := none } }))
          ∧ ∀ (e : DirEntry) (rest : List DirEntry), lives = e :: rest → u.store.entry e.ref = some e →
            exec (.storeWipe service) s = .next
              (u.taken 0x09 (.wipe e.ref (rest.map DirEntry.ref) 0)
                { u with
                  array := u.array.arrive u.now
                    { client := .decoder, op := .program (e.firstSector * 4096) [0x00] } }))))

/-- The end of a program of the request in execution, as it was asked: a header program opens the upload's idle timer
and answers; a page program is followed by the next piece or by the reply that counts the data received; a commit
program is followed by the stale program of the previous LIVE entry or by the directory change; and the directory
change of a commit, of a retirement and of a wipe comes with its reply. The model's choices in it: log entries 3, 15.
-/
def Obligations.ProgramsOfARequestEnd : Prop :=
  ∀ (s u v : State) (addr began : Nat) (data : List Byte), s.settle = u → u.mode = .running →
    u.array.busy = some { access := { client := .decoder, op := .program addr data }, started := began } →
    addr / 256 < 32768 → u.now - began ≤ 3000 → v = u.programDone addr data →
    (∀ e, u.dec.work = .header → u.dec.kind = byte 0x01 → u.store.writing = some e →
      exec (.pageProgramEnd none) s = .next
        (u.replied 0x01
          (okReply 0x01 (toBytes 2 e.revision ++ toBytes 2 e.firstSector ++ [byte e.extentLen])) v.startUploadTimer))
    ∧ (∀ (len a : Nat) (piece : List Byte) (rest : List (Nat × List Byte)), u.dec.work = .data len ((a, piece) :: rest) →
      exec (.pageProgramEnd none) s = .next (v.issued (.program a piece) (.data len rest)))
    ∧ (∀ (len : Nat) (up : Upload), u.dec.work = .data len [] → u.dec.kind = byte 0x02 → u.store.upload = some up →
      exec (.pageProgramEnd none) s = .next
        (u.replied 0x02 (okReply 0x02 (toBytes 2 (up.received + len)))
          { v with
            store := { u.store with upload := some { up with received := up.received + len, timer := some u.now } } }))
    ∧ (∀ up : Upload, u.dec.work = .commit none → u.dec.kind = byte 0x03 → u.store.upload = some up →
      exec (.pageProgramEnd none) s = .next
        (u.replied 0x03 (okReply 0x03 (toBytes 2 up.revision ++ toBytes 2 0 ++ [0, 0]))
          { v with store := u.store.commit up none }))
    ∧ (∀ (r : RecRef) (e : DirEntry), u.dec.work = .commit (some r) → u.store.entry r = some e →
      exec (.pageProgramEnd none) s = .next (v.issued (.program (e.firstSector * 4096) [0x00]) (.staleOld r)))
    ∧ (∀ (r : RecRef) (e : DirEntry) (up : Upload), u.dec.work = .staleOld r → u.dec.kind = byte 0x03 →
      u.store.entry r = some e → u.store.upload = some up →
      exec (.pageProgramEnd none) s = .next
        (u.replied 0x03
          (okReply 0x03 (toBytes 2 up.revision ++ toBytes 2 r.revision ++ [if 0 < e.pins then 1 else 2, 0]))
          { v with store := u.store.commit up (some e) }))
    ∧ (∀ (r : RecRef) (e : DirEntry), u.dec.work = .retire r → u.dec.kind = byte 0x05 → u.store.entry r = some e →
      exec (.pageProgramEnd none) s = .next
        (u.replied 0x05 (okReply 0x05 (toBytes 2 e.revision ++ [if 0 < e.pins then 1 else 2, byte e.pins]))
          { v with store := u.store.retire e }))
    ∧ (∀ (r next : RecRef) (left : List RecRef) (failed : Nat) (e : DirEntry), u.dec.work = .wipe r (next :: left) failed →
      u.store.entry next = some e →
      exec (.pageProgramEnd none) s
        = .next (v.issued (.program (e.firstSector * 4096) [0x00]) (.wipe next left failed)))
    ∧ ∀ (r : RecRef) (failed : Nat), u.dec.work = .wipe r [] failed → u.dec.kind = byte 0x09 →
      exec (.pageProgramEnd none) s = .next
        (u.replied 0x09
          (okReply 0x09
            (toBytes 2 u.store.directory.length ++ toBytes 2 (u.store.directory.map DirEntry.extentLen).sum
              ++ toBytes 2 failed))
          { v with
            store := { u.store.kill u.store.directory with index := [], upload := none }
            queue := { u.queue with last := none } })

/-- A program of the request in execution has failed, and sets STORE_FAULT, where it is not reported ended within 3
ms, is reported ended later than that, or is reported ended and its bytes read back as other than asked. A failed
header, page or commit program abandons the upload and refuses its request with STORE_FAULT; a failed stale program
leaves a retirement refused, a commit carried out with its failure reported, and a wipe going on with its next stale
program or ended, the failure counted in its reply; an extent whose stale program failed has its revision counted. The
model's choices in it: log entries 2, 3, 8, 15. -/
def Obligations.ProgramTimeoutFailsTheRequest : Prop :=
  ∀ (c : Instr) (s u w v : State) (addr began : Nat) (data old asked : List Byte), s.settle = u → u.mode = .running →
    u.array.busy = some { access := { client := .decoder, op := .program addr data }, started := began } →
    addr / 256 < 32768 → old = flashRange u.flash addr data.length → asked = List.zipWith (· &&& ·) old data →
    (c = .programTimeout ∧ w = { u with now := max u.now (began + 3000) } ∧ v = w.programFailed addr data w.now)
      ∨ (∃ left, c = .pageProgramEnd left ∧ 3000 < u.now - began ∧ w = u ∧ v = w.programFailed addr data w.now)
      ∨ (∃ given found, c = .pageProgramEnd (some given) ∧ u.now - began ≤ 3000 ∧ w = u
        ∧ found = List.zipWith (· &&& ·) old (given ++ asked.drop given.length) ∧ found ≠ asked
        ∧ v = { u with
          flash := flashWriteAll u.flash addr found
          sticky := { u.sticky with storeFault := true }
          array := u.array.passOn u.now }) →
    (∀ e, u.dec.work = .header → u.dec.kind = byte 0x01 → u.store.writing = some e →
      exec c s = .next (w.replied 0x01 (refusedReply 0x01 .storeFault 0) { v with store := u.store.abandon }))
    ∧ (∀ (len : Nat) (left : List (Nat × List Byte)), u.dec.work = .data len left → u.dec.kind = byte 0x02 →
      exec c s = .next (w.replied 0x02 (refusedReply 0x02 .storeFault 0) { v with store := u.store.abandon }))
    ∧ (∀ previous : Option RecRef, u.dec.work = .commit previous → u.dec.kind = byte 0x03 →
      exec c s = .next (w.replied 0x03 (refusedReply 0x03 .storeFault 0) { v with store := u.store.abandon }))
    ∧ (∀ (r : RecRef) (e : DirEntry) (up : Upload), u.dec.work = .staleOld r → u.dec.kind = byte 0x03 →
      u.store.entry r = some e → u.store.upload = some up →
      exec c s = .next
        (w.replied 0x03
          (okReply 0x03 (toBytes 2 up.revision ++ toBytes 2 r.revision ++ [if 0 < e.pins then 1 else 2, 1]))
          { v with store := (u.store.noteFailedStale r).commit up (some e) }))
    ∧ (∀ (r : RecRef) (e : DirEntry), u.dec.work = .retire r → u.dec.kind = byte 0x05 → u.store.entry r = some e →
      exec c s = .next (w.replied 0x05 (refusedReply 0x05 .storeFault 0) v))
    ∧ (∀ (r next : RecRef) (left : List RecRef) (failed : Nat) (e : DirEntry), u.dec.work = .wipe r (next :: left) failed →
      u.store.entry next = some e →
      exec c s = .next
        (State.issued { v with store := u.store.noteFailedStale r } (.program (e.firstSector * 4096) [0x00])
          (.wipe next left (failed + 1))))
    ∧ ∀ (r : RecRef) (failed : Nat), u.dec.work = .wipe r [] failed → u.dec.kind = byte 0x09 →
      exec c s = .next
        (w.replied 0x09
          (okReply 0x09
            (toBytes 2 u.store.directory.length ++ toBytes 2 (u.store.directory.map DirEntry.extentLen).sum
              ++ toBytes 2 (failed + 1)))
          { v with
            store := { (u.store.noteFailedStale r).kill u.store.directory with index := [], upload := none }
            queue := { u.queue with last := none } })

/-- The end of a page read of the request in execution: the body check pass and content validation go on to their next
page; a sum that disagrees or a fault found abandons the upload and refuses RECORD_END with what was found; a body
that passes has its commit program issued. A JOB_SUBMIT's reads of its format and of each symbol table go on to their
next page; the last of the format's is followed by the checks of its fields in list order, and the last of a table's
by the checks of the field that names it and of the fields after it. The model's choices in it: log entries 2, 3, 12,
35, 40, 51. -/
def Obligations.ReadsOfARequestEnd : Prop :=
  ∀ (s u w v : State) (page began : Nat), s.settle = u → u.mode = .running →
    u.array.busy = some { access := { client := .decoder, op := .read page }, started := began } → page < 32768 →
    w = { u with now := max u.now (began + 40) } → v = { w with array := u.array.passOn w.now } →
    (∀ (check p : Nat) (rest : List Nat), u.dec.work = .bodyCheck check (p :: rest) →
      exec .pageReadEnd s = .next (v.issued (.read p) (.bodyCheck check rest)))
    ∧ (∀ (check sum : Nat) (up : Upload), u.dec.work = .bodyCheck check [] → u.dec.kind = byte 0x03 →
      u.store.upload = some up → sum = byteSum (bodyBytes u.flash up.firstSector up.bodyLen) →
      (sum ≠ check →
        exec .pageReadEnd s
          = .next (w.replied 0x03 (refusedReply 0x03 .checkMismatch sum) { v with store := u.store.abandon }))
      ∧ (∀ (p : Nat) (rest : List Nat), sum = check → bodyPages up.firstSector 0 up.bodyLen = p :: rest →
        exec .pageReadEnd s
          = .next (v.issued (.read p) (.validate check rest (bytesReadAfter up p) (Pass.begin up.kind)))))
    ∧ (∀ (check read : Nat) (left : List Nat) (pass : Pass) (up : Upload) (found : PassStep),
      u.dec.work = .validate check left read pass → u.dec.kind = byte 0x03 → u.store.upload = some up →
      found = Pass.run up.bodyLen (bodyBytes u.flash up.firstSector read) (up.bodyLen + 2) pass →
      (∀ offset, found = .fault offset →
        exec .pageReadEnd s
          = .next (w.replied 0x03 (refusedReply 0x03 .recordInvalid offset) { v with store := u.store.abandon }))
      ∧ (∀ (p : Nat) (rest : List Nat) (next : Pass), found = .go next → left = p :: rest →
        exec .pageReadEnd s = .next (v.issued (.read p) (.validate check rest (bytesReadAfter up p) next)))
      ∧ (found = .passed →
        exec .pageReadEnd s = .next
          (v.issued (.program (up.firstSector * 4096) (0x03 :: List.replicate 9 0xFF ++ toBytes 2 check))
            (.commit ((u.store.live up.kind up.number).map DirEntry.ref)))))
    ∧ (∀ (items : JobItems) (p : Nat) (rest : List Nat), u.dec.work = .submitFormat items (p :: rest) →
      exec .pageReadEnd s = .next (v.issued (.read p) (.submitFormat items rest)))
    ∧ (∀ items : JobItems, u.dec.work = .submitFormat items [] →
      exec .pageReadEnd s = .next (v.submitFields items (v.liveFormat items).fields 0))
    ∧ (∀ (items : JobItems) (field p : Nat) (rest : List Nat), u.dec.work = .submitTable items field (p :: rest) →
      exec .pageReadEnd s = .next (v.issued (.read p) (.submitTable items field rest)))
    ∧ ∀ (items : JobItems) (field : Nat), u.dec.work = .submitTable items field [] →
      exec .pageReadEnd s = .next (v.submitTableEnd items field [])

/-- The directory change of a commit: the WRITING entry becomes LIVE and the number index maps its kind and number to
its extent, the previous LIVE entry becomes SUPERSEDED where it is pinned and DEAD otherwise, and the context is
EMPTY. Entries that become DEAD leave the directory; their sectors, extent after extent in ascending order of first
sector, become queued for erase and join the tail of the erase queue; no other sector's state changes. A pin adds one
to each entry it names. A release takes one from each, and of those it names exactly the SUPERSEDED and RETIRED ones
left with none become DEAD. The previous last-label binding is released after the new one is pinned. A retirement
takes the kind and number from the index and makes its entry RETIRED where it is pinned and DEAD otherwise. A failed
stale program is remembered with its kind, number, revision and first sector. -/
def Obligations.DirectoryChanges : Prop :=
  (∀ (st : RecordStore) (up : Upload) (p : DirEntry),
    (st.commit up none).directory
        = st.directory.map (fun (e : DirEntry) => if e.state = .writing then { e with state := .live } else e)
    ∧ (0 < p.pins →
      (st.commit up (some p)).directory = st.directory.map (fun (e : DirEntry) =>
        if e.ref = p.ref then { e with state := .superseded }
        else if e.state = .writing then { e with state := .live } else e)
      ∧ (st.commit up (some p)).eraseQueue = st.eraseQueue ∧ (st.commit up (some p)).sectorMap = st.sectorMap)
    ∧ (p.pins = 0 →
      (st.commit up (some p)).directory = (st.directory.filter fun e => decide (e ≠ p)).map (fun (e : DirEntry) =>
        if e.state = .writing then { e with state := .live } else e)
      ∧ (st.commit up (some p)).eraseQueue = st.eraseQueue ++ extentSectors p.firstSector p.extentLen
      ∧ ∀ n, sectorState (st.commit up (some p)).sectorMap n
        = if n ∈ extentSectors p.firstSector p.extentLen then .queued else sectorState st.sectorMap n)
    ∧ (st.commit up none).eraseQueue = st.eraseQueue ∧ (st.commit up none).sectorMap = st.sectorMap
    ∧ ∀ previous, (st.commit up previous).upload = none
      ∧ ((st.commit up previous).index.find? fun i => decide (i.kind = up.kind ∧ i.number = up.number))
          = some { kind := up.kind, number := up.number, firstSector := up.firstSector }
      ∧ ∀ (k : RecKind) (n : Nat), ¬ (k = up.kind ∧ n = up.number) →
        ((st.commit up previous).index.find? fun i => decide (i.kind = k ∧ i.number = n))
          = st.index.find? fun i => decide (i.kind = k ∧ i.number = n))
  ∧ (∀ (st : RecordStore) (dead order : List DirEntry) (sectors : List Nat), order = bySector dead →
    sectors = (order.flatMap fun e => extentSectors e.firstSector e.extentLen) →
    order.Perm dead ∧ order.Pairwise (fun e f => e.firstSector ≤ f.firstSector)
    ∧ (∀ e, e ∈ (st.kill dead).directory ↔ e ∈ st.directory ∧ e ∉ dead)
    ∧ (st.kill dead).eraseQueue = st.eraseQueue ++ sectors
    ∧ (∀ n, sectorState (st.kill dead).sectorMap n = if n ∈ sectors then .queued else sectorState st.sectorMap n)
    ∧ (st.kill dead).index = st.index ∧ (st.kill dead).upload = st.upload)
  ∧ (∀ (st : RecordStore) (refs : List RecRef),
    (st.pin refs).directory
        = st.directory.map (fun (e : DirEntry) => if e.ref ∈ refs then { e with pins := e.pins + 1 } else e)
    ∧ ∀ e, e ∈ (st.release refs).directory ↔
      ∃ f ∈ st.directory, e = (if f.ref ∈ refs then { f with pins := f.pins - 1 } else f)
        ∧ ¬ (e.ref ∈ refs ∧ (e.state = .superseded ∨ e.state = .retired) ∧ e.pins = 0))
  ∧ (∀ (st : RecordStore) (refs previous : List RecRef) (dead order : List DirEntry) (sectors : List Nat),
    dead = ((st.directory.map fun (e : DirEntry) => if e.ref ∈ refs then { e with pins := e.pins - 1 } else e).filter
      fun e => decide (e.ref ∈ refs ∧ (e.state = .superseded ∨ e.state = .retired) ∧ e.pins = 0)) →
    order = bySector dead → sectors = (order.flatMap fun e => extentSectors e.firstSector e.extentLen) →
    (st.release refs).eraseQueue = st.eraseQueue ++ sectors
    ∧ (∀ n, sectorState (st.release refs).sectorMap n = if n ∈ sectors then .queued else sectorState st.sectorMap n)
    ∧ (st.release refs).index = st.index
    ∧ st.replace refs previous = (st.pin refs).release previous)
  ∧ (∀ (st : RecordStore) (e : DirEntry),
    (∀ i, i ∈ (st.retire e).index ↔ i ∈ st.index ∧ ¬ (i.kind = e.kind ∧ i.number = e.number))
    ∧ (0 < e.pins →
      (st.retire e).directory
        = st.directory.map (fun (f : DirEntry) => if f.ref = e.ref then { f with state := .retired } else f)
      ∧ (st.retire e).eraseQueue = st.eraseQueue ∧ (st.retire e).sectorMap = st.sectorMap)
    ∧ (e.pins = 0 →
      (st.retire e).directory = (st.directory.filter fun f => decide (f ≠ e))
      ∧ (st.retire e).eraseQueue = st.eraseQueue ++ extentSectors e.firstSector e.extentLen
      ∧ ∀ n, sectorState (st.retire e).sectorMap n
        = if n ∈ extentSectors e.firstSector e.extentLen then .queued else sectorState st.sectorMap n))
  ∧ ∀ (st : RecordStore) (r : RecRef) (e : DirEntry), st.entry r = some e →
    st.noteFailedStale r = { st with
      failedStale := st.failedStale
        ++ [{ kind := e.kind, number := e.number, revision := e.revision, firstSector := e.firstSector }] }

/-! ## The flash array and the erase service (chapter 1) -/

/-- The end of any access leaves every byte of flash outside the program in progress as it was. A program can only
clear bits, and where it ends as it was asked each of its bytes is the old one with the program's zeros applied; a
read changes no byte. The model's choices in it: log entries 8, 15, 16. -/
def Obligations.AccessEndsChangeOnlyTheProgram : Prop :=
  (∀ (s u : State) (client : Client) (addr began : Nat) (data : List Byte) (left : Option (List Byte)),
    s.settle = u → u.flashSound → u.array.busy = some { access := { client, op := .program addr data }, started := began } →
    addr / 256 < 32768 →
    ∃ t₁ t₂, exec (.pageProgramEnd left) s = .next t₁ ∧ exec .programTimeout s = .next t₂
      ∧ (∀ a, a < addr ∨ addr + data.length ≤ a →
        flashRead t₁.flash a = flashRead u.flash a ∧ flashRead t₂.flash a = flashRead u.flash a)
      ∧ (∀ a, flashRead t₁.flash a &&& flashRead u.flash a = flashRead t₁.flash a
        ∧ flashRead t₂.flash a &&& flashRead u.flash a = flashRead t₂.flash a)
      ∧ (left = none → u.now - began ≤ 3000 → ∀ (i : Nat) (d : Byte), data[i]? = some d →
        flashRead t₁.flash (addr + i) = flashRead u.flash (addr + i) &&& d))
  ∧ ∀ (s u : State) (client : Client) (page began : Nat), s.settle = u →
    u.array.busy = some { access := { client, op := .read page }, started := began } → page < 32768 →
    ∃ t, exec .pageReadEnd s = .next t ∧ t.flash = u.flash

/-- The erase service: with the part running, the service idle, the array free and no access waiting, the head of the
erase queue begins ERASING; a suspension takes effect 30 µs after it was taken, and the first access that waits is
served; the end of the progress window takes a suspension if an access waits. An access that arrives: it starts at
once on a free array with no erase; it waits otherwise; and it takes a suspension of an erase that runs with no
progress window open and no suspension taken. The array passes on where an access ends: in a suspension to the next
access served in it, in arrival order, and after the last to the erase, which keeps its accumulated time and opens a
progress window of 2 ms; with no erase to the next access that waits. An access issued at the end of a program served
in a suspension waits for the next one. The model's choices in it: log entries 1, 2, 15. -/
def Obligations.EraseServiceTakesItsSteps : Prop :=
  ((∀ (s u : State) (n : Nat) (rest : List Nat), s.settle = u → u.mode = .running → u.store.eraseQueue = n :: rest →
    u.array.erase = .idle → u.array.busy = none → u.array.waiting = [] →
    exec .eraseStart s = .next
      { u with
        store := { u.store with eraseQueue := rest, sectorMap := setSector u.store.sectorMap n .erasing }
        array := { u.array with
          erase := .erasing { sector := n, accumulated := 0, since := u.now, window := none, suspension := none } } })
  ∧ (∀ s u : State, s.settle = u →
    u.store.eraseQueue = [] ∨ u.array.erase ≠ .idle ∨ u.array.busy ≠ none ∨ u.array.waiting ≠ [] →
    exec .eraseStart s = .next u)
  ∧ (∀ (s u : State) (r : EraseRun) (taken effect : Nat) (a : Access) (rest : List Access), s.settle = u →
    u.mode = .running → u.array.erase = .erasing r → r.suspension = some taken → effect = max u.now (taken + 30) →
    u.array.waiting = a :: rest →
    exec .suspensionEffect s = .next
      { u with
        now := effect
        array := { busy := some { access := a, started := effect }, waiting := [], serving := rest,
                   erase := .suspended r.sector (r.accumulated + (effect - r.since)) } })
  ∧ ∀ (s u : State) (r : EraseRun) (w : Nat), s.settle = u → u.mode = .running → u.array.erase = .erasing r →
    r.window = some w →
    exec .progressWindowEnd s = .next
      { u with
        now := max u.now w
        array := { u.array with
          erase := .erasing { r with
            window := none
            suspension := if u.array.waiting = [] then r.suspension else some (max u.now w) } } })
  ∧ (∀ (arr : FlashArray) (a : Access) (now : Nat),
    (arr.erase = .idle → arr.busy = none → arr.arrive now a = { arr with busy := some { access := a, started := now } })
    ∧ (arr.erase = .idle → arr.busy ≠ none → arr.arrive now a = { arr with waiting := arr.waiting ++ [a] })
    ∧ (∀ r, arr.erase = .erasing r →
      arr.arrive now a = { arr with
        waiting := arr.waiting ++ [a]
        erase := .erasing { r with
          suspension := if r.window = none ∧ r.suspension = none then some now else r.suspension } })
    ∧ (∀ sector time, arr.erase = .suspended sector time →
      arr.arrive now a = { arr with waiting := arr.waiting ++ [a] }
      ∧ (∀ rest, arr.serving = a :: rest →
        arr.passOn now = { arr with busy := some { access := a, started := now }, serving := rest })
      ∧ (arr.serving = [] → arr.passOn now = { arr with
          busy := none
          erase := .erasing
            { sector, accumulated := time, since := now, window := some (now + 2000), suspension := none } }))
    ∧ (arr.erase = .idle →
      (∀ rest, arr.waiting = a :: rest →
        arr.passOn now = { arr with busy := some { access := a, started := now }, waiting := rest })
      ∧ (arr.waiting = [] → arr.passOn now = { arr with busy := none }))
    ∧ ∀ r, arr.erase = .erasing r → arr.passOn now = { arr with busy := none })
  ∧ (∀ (s u : State) (sector time page began ended : Nat), s.settle = u → u.mode = .running →
    u.array.erase = .suspended sector time → page < 32768 → ended = max u.now (began + 40) →
    u.array.busy = some { access := { client := .orphan, op := .read page }, started := began } →
    (∀ (a : Access) (rest : List Access), u.array.serving = a :: rest →
      exec .pageReadEnd s = .next
        { u with
          now := ended
          array := { u.array with busy := some { access := a, started := ended }, serving := rest } })
    ∧ (u.array.serving = [] →
      exec .pageReadEnd s = .next
        { u with
          now := ended
          array := { u.array with
            busy := none
            erase := .erasing { sector, accumulated := time, since := ended, window := some (ended + 2000)
                                suspension := none } } }))
  ∧ ∀ (s u : State) (sector time addr began len a : Nat) (data piece : List Byte) (rest : List (Nat × List Byte)),
    s.settle = u → u.mode = .running → u.array.erase = .suspended sector time → addr / 256 < 32768 →
    u.now - began ≤ 3000 →
    u.array.busy = some { access := { client := .decoder, op := .program addr data }, started := began } →
    u.dec.work = .data len ((a, piece) :: rest) →
    (∀ (b : Access) (others : List Access), u.array.serving = b :: others →
      exec (.pageProgramEnd none) s = .next
        { u with
          flash := flashWriteAll u.flash addr (programmed (flashRange u.flash addr data.length) data)
          dec := { u.dec with work := .data len rest }
          array := { u.array with
            busy := some { access := b, started := u.now }
            serving := others
            waiting := u.array.waiting ++ [{ client := .decoder, op := .program a piece }] } })
    ∧ (u.array.serving = [] →
      exec (.pageProgramEnd none) s = .next
        { u with
          flash := flashWriteAll u.flash addr (programmed (flashRange u.flash addr data.length) data)
          dec := { u.dec with work := .data len rest }
          array := { u.array with
            busy := none
            waiting := u.array.waiting ++ [{ client := .decoder, op := .program a piece }]
            erase := .erasing { sector, accumulated := time, since := u.now, window := some (u.now + 2000)
                                suspension := none } } })

/-- An erase ends. A completion reported with no suspension taken and after at most 400 ms of erase time makes the
sector FREE where every byte of it reads FFh, and leaves it ERASING where one does not; with a suspension taken, or
between 400 and 500 ms, it is not taken. At 500 ms the sector becomes BAD and STORE_FAULT is set, whatever is
reported. Bytes outside the sector are unchanged. The model's choices in it: log entries 2, 8, 15, 16, 42, 53. -/
def Obligations.EraseEndsFreeOrBad : Prop :=
  (∀ (s u : State) (r : EraseRun) (residue : List (Nat × Byte)) (flash : Memory), s.settle = u → u.mode = .running →
    u.array.erase = .erasing r →
    (r.suspension ≠ none → exec (.eraseComplete residue) s = .next u)
    ∧ (400000 < r.accumulated + (u.now - r.since) → r.accumulated + (u.now - r.since) < 500000 →
      exec (.eraseComplete residue) s = .next u)
    ∧ (r.suspension = none → r.since ≤ u.now → 500000 ≤ r.accumulated + (u.now - r.since) →
      exec (.eraseComplete residue) s = exec .eraseGiveUp s)
    ∧ (r.suspension = none → r.accumulated + (u.now - r.since) ≤ 400000 → flash = erasedBut u.flash r.sector residue →
      (∀ a, inSector r.sector a = false → flashRead flash a = flashRead u.flash a)
      ∧ (sectorErased flash r.sector = false → exec (.eraseComplete residue) s = .next { u with flash := flash })
      ∧ (sectorErased flash r.sector = true →
        exec (.eraseComplete residue) s = .next
          { u with
            flash := flash
            store := { u.store with
              sectorMap := setSector u.store.sectorMap r.sector .free
              failedStale := u.store.failedStale.filter fun f => decide (f.firstSector ≠ r.sector) }
            array := FlashArray.passOn u.now { u.array with erase := .idle } })))
  ∧ ∀ (s u : State) (r : EraseRun) (now : Nat), s.settle = u → u.mode = .running → u.array.erase = .erasing r →
    now = max u.now (r.since + (500000 - r.accumulated)) →
    ∃ (flash : Memory) (used : Nat),
      exec .eraseGiveUp s = .next
        { u with
          now := now
          freeCount := used
          flash := flash
          sticky := { u.sticky with storeFault := true }
          store := { u.store with sectorMap := setSector u.store.sectorMap r.sector .bad }
          array := FlashArray.passOn now { u.array with erase := .idle } }
      ∧ ∀ a, inSector r.sector a = false → flashRead flash a = flashRead u.flash a

/-- The header of a record is read back from the flash that its programs left: after the header program the marker
reads WRITING, after the commit program it reads LIVE and the scan finds the extent with every field as it was given,
and after a stale program it reads STALE. A marker part of the way from WRITING to LIVE reads as WRITING, one part of
the way from LIVE to STALE as STALE. A header begins an extent exactly where its kind, number, revision, body length,
extent length and end pass their checks. -/
def Obligations.HeaderIsReadBackAsProgrammed : Prop :=
  (∀ (m m₁ m₂ m₃ : Memory) (e : DirEntry) (check base : Nat), Memory.wf m = true → base = e.firstSector * 4096 →
    (∀ i < 32, flashRead m (base + i) = 0xFF) → (1 ≤ e.number ∧ e.number ≤ 999) →
    (1 ≤ e.revision ∧ e.revision ≤ 65535) → e.bodyLen ≤ largestBody e.kind →
    e.extentLen = extentOf e.bodyLen → e.firstSector + e.extentLen ≤ 2048 → check < 65536 →
    m₁ = flashWriteAll m base (programmed (flashRange m base 10) (headerData e)) →
    m₂ = flashWriteAll m₁ base (programmed (flashRange m₁ base 12) (commitData check)) →
    m₃ = flashWriteAll m₂ base (programmed (flashRange m₂ base 1) staleData) →
    readMarker (flashRead m₁ base) = .writing ∧ readMarker (flashRead m₂ base) = .live
    ∧ readMarker (flashRead m₃ base) = .stale
    ∧ extentOfHeader e.firstSector (flashRange m₂ base 32)
      = some { kind := e.kind, number := e.number, revision := e.revision, firstSector := e.firstSector,
               extentLen := e.extentLen, bodyLen := e.bodyLen, lock := e.lock, check := check })
  ∧ (∀ b : Byte, (readMarker b = .writing ↔ b = 0x0F ∨ b = 0x0B ∨ b = 0x07) ∧ (readMarker b = .live ↔ b = 0x03)
    ∧ (readMarker b = .stale ↔ b = 0x02 ∨ b = 0x01 ∨ b = 0x00))
  ∧ ∀ (sector : Nat) (h : List Byte) (e : Extent), extentOfHeader sector h = some e ↔
    ((num h 1 1 = 0x46 ∧ e.kind = .format) ∨ (num h 1 1 = 0x47 ∧ e.kind = .image) ∨ (num h 1 1 = 0x53 ∧ e.kind = .table))
    ∧ e.number = num h 2 2 ∧ e.revision = num h 4 2 ∧ e.extentLen = num h 6 1 ∧ e.lock = decide (byteAt h 7 = 0x00)
    ∧ e.bodyLen = num h 8 2 ∧ e.check = num h 10 2 ∧ e.firstSector = sector
    ∧ 1 ≤ e.number ∧ e.number ≤ 999 ∧ 1 ≤ e.revision
    ∧ e.bodyLen ≤ (match e.kind with
      | .format => 4 * 4096 - 32
      | .image => 16 * 4096 - 32
      | .table => 4096 - 32)
    ∧ e.extentLen = (e.bodyLen + 32 + 4095) / 4096 ∧ sector + e.extentLen ≤ 2048

/-! ## The Counter Table (chapter 4) -/

/-- COUNTER_DEFINE and COUNTER_SET: their refusals in their order, each with no other effect; and with none of them,
the counter's record replaced with the table check, the reply giving what stood before. Where the counter could not
issue and some job is held on it, that job's hold is removed and a label boundary may follow. COUNTER_UNDEFINE and
COUNTER_CLEAR_RETURNS: their refusals in their order; and with none of them, the record UNDEFINED with its items 0, or
its return list empty, with the table check, the reply giving the return list that stood. COUNTER_READ answers the
record and changes nothing. The ranges: an id of 1 to 64; a width of 1 to 12, the high bound below the base to the
power of the width, the low bound at most the high one, the start value between them, a step of 1 to 9,999, and each
coded value 0 or 1. The model's choices in it: log entries 3, 4. -/
def Obligations.CounterRequestsRefusedOrTaken : Prop :=
  ((∀ (s u : State) (body : List Byte), s.settle = u → u.asks 0x10 body →
    (idOf body = none ∨ counterDefOf body = none →
      exec .counterDefine s = .next (u.answered 0x10 (refusedReply 0x10 .badValue 0) u))
    ∧ ∀ (id : Nat) (d : CounterDef) (c : Counter) (b : Battery), idOf body = some id → counterDefOf body = some d →
      c = u.battery.counter id →
      b = u.battery.withCounters
        (setCounter id { c with state := .active, defn := d, current := d.start, returns := [] } u.battery.counters) →
      (c.outstanding ≠ [] ∨ (0 < c.bound ∧ (d.width ≠ c.defn.width ∨ d.alphabet ≠ c.defn.alphabet)) →
        exec .counterDefine s = .next (u.answered 0x10 (refusedReply 0x10 .inUse 0) u))
      ∧ (c.outstanding = [] → (c.bound = 0 ∨ (d.width = c.defn.width ∧ d.alphabet = c.defn.alphabet)) →
        (c.canIssue = true ∨ u.queue.jobs.any (Job.blockedOn [id]) = false →
          exec .counterDefine s
            = .next (u.answered 0x10 (okReply 0x10 (valueListBytes c.returns)) { u with battery := b }))
        ∧ (c.canIssue = false → id ≤ u.battery.counters.length →
          exec .counterDefine s
            = .next (u.answered 0x10 (okReply 0x10 (valueListBytes c.returns))
                (State.reportAble [id] { u.headGone 0x10 with battery := b })))))
  ∧ ∀ (s u : State) (body : List Byte), s.settle = u → u.asks 0x11 body →
    (idOf body = none → exec .counterSet s = .next (u.answered 0x11 (refusedReply 0x11 .badValue 0) u))
    ∧ ∀ (id value : Nat) (c : Counter) (b : Battery), idOf body = some id → value = num body 1 8 →
      c = u.battery.counter id →
      b = u.battery.withCounters (setCounter id { c with current := value, state := .active } u.battery.counters) →
      (c.state = .undefined → exec .counterSet s = .next (u.answered 0x11 (refusedReply 0x11 .notFound 0) u))
      ∧ (c.state ≠ .undefined →
        (c.outstanding ≠ [] → exec .counterSet s = .next (u.answered 0x11 (refusedReply 0x11 .inUse 0) u))
        ∧ (c.outstanding = [] →
          (value < c.defn.low ∨ c.defn.high < value →
            exec .counterSet s = .next (u.answered 0x11 (refusedReply 0x11 .badValue 0) u))
          ∧ (c.defn.low ≤ value → value ≤ c.defn.high →
            (c.canIssue = true ∨ u.queue.jobs.any (Job.blockedOn [id]) = false →
              exec .counterSet s = .next
                (u.answered 0x11 (okReply 0x11 (toBytes 8 c.current ++ [byte (counterStateCode c.state)]))
                  { u with battery := b }))
            ∧ (c.canIssue = false → id ≤ u.battery.counters.length →
              exec .counterSet s = .next
                (u.answered 0x11 (okReply 0x11 (toBytes 8 c.current ++ [byte (counterStateCode c.state)]))
                  (State.reportAble [id] { u.headGone 0x11 with battery := b })))))))
  ∧ (∀ (s u : State) (body : List Byte), s.settle = u →
    (u.asks 0x12 body →
      (idOf body = none → exec .counterUndefine s = .next (u.answered 0x12 (refusedReply 0x12 .badValue 0) u))
      ∧ ∀ (id : Nat) (c : Counter), idOf body = some id → c = u.battery.counter id →
        (c.state = .undefined → exec .counterUndefine s = .next (u.answered 0x12 (refusedReply 0x12 .notFound 0) u))
        ∧ (c.state ≠ .undefined → 0 < c.bound ∨ c.outstanding ≠ [] →
          exec .counterUndefine s = .next (u.answered 0x12 (refusedReply 0x12 .inUse 0) u))
        ∧ (c.state ≠ .undefined → c.bound = 0 → c.outstanding = [] →
          exec .counterUndefine s = .next
            (u.answered 0x12 (okReply 0x12 (valueListBytes c.returns))
              { u with
                battery :=
                  u.battery.withCounters (setCounter id Counter.undefinedRecord u.battery.counters) })))
    ∧ (u.asks 0x13 body →
      (idOf body = none → exec .counterClearReturns s = .next (u.answered 0x13 (refusedReply 0x13 .badValue 0) u))
      ∧ ∀ (id : Nat) (c : Counter), idOf body = some id → c = u.battery.counter id →
        (c.state = .undefined →
          exec .counterClearReturns s = .next (u.answered 0x13 (refusedReply 0x13 .notFound 0) u))
        ∧ (c.state ≠ .undefined →
          exec .counterClearReturns s = .next
            (u.answered 0x13 (okReply 0x13 (valueListBytes c.returns))
              { u with
                battery := u.battery.withCounters (setCounter id { c with returns := [] } u.battery.counters) })))
    ∧ (u.asks 0x14 body →
      (idOf body = none → exec .counterRead s = .next (u.answered 0x14 (refusedReply 0x14 .badValue 0) u))
      ∧ ∀ id : Nat, idOf body = some id →
        exec .counterRead s
          = .next (u.answered 0x14 (okReply 0x14 (byte id :: counterBytes (u.battery.counter id))) u)))
  ∧ ∀ (body : List Byte) (id : Nat) (d : CounterDef),
    (idOf body = some id ↔ id = num body 0 1 ∧ 1 ≤ id ∧ id ≤ 64)
    ∧ (counterDefOf body = some d ↔
      (d.width = num body 1 1 ∧ 1 ≤ d.width ∧ d.width ≤ 12)
      ∧ ((num body 2 1 = 0 ∧ d.alphabet = .decimal) ∨ (num body 2 1 = 1 ∧ d.alphabet = .base36))
      ∧ (d.low = num body 3 8 ∧ d.high = num body 11 8 ∧ d.low ≤ d.high
        ∧ d.high < (if d.alphabet = .decimal then 10 else 36) ^ d.width)
      ∧ (d.start = num body 19 8 ∧ d.low ≤ d.start ∧ d.start ≤ d.high)
      ∧ (d.step = num body 27 2 ∧ 1 ≤ d.step ∧ d.step ≤ 9999)
      ∧ ((num body 29 1 = 0 ∧ d.direction = .up) ∨ (num body 29 1 = 1 ∧ d.direction = .down))
      ∧ ((num body 30 1 = 0 ∧ d.endAction = .wrap) ∨ (num body 30 1 = 1 ∧ d.endAction = .halt))
      ∧ ((num body 31 1 = 0 ∧ d.policy = .gap) ∨ (num body 31 1 = 1 ∧ d.policy = .reuse)))

/-- A counter issues the oldest value of its return list where there is one, and leaves its current value; otherwise,
when ACTIVE, it issues its current value and advances by the step towards its bound. An advance that would pass the
bound makes the current value the start value under WRAP, and leaves it and makes the counter EXHAUSTED under HALT. An
advance leaves the current value within the bounds, and a step larger than the whole range makes every advance pass
the bound. -/
def Obligations.CounterIssuesAndAdvances : Prop :=
  (∀ (c : Counter) (v : Nat) (rest : List Nat), c.returns = v :: rest →
    c.issue = some (v, { c with returns := rest }))
  ∧ (∀ c : Counter, c.returns = [] →
    (c.state = .active → c.issue = some (c.current, c.advance)) ∧ (c.state ≠ .active → c.issue = none))
  ∧ (∀ c : Counter, c.defn.low ≤ c.defn.start → c.defn.start ≤ c.defn.high → c.defn.low ≤ c.current →
    c.current ≤ c.defn.high →
    (c.defn.low ≤ c.advance.current ∧ c.advance.current ≤ c.defn.high)
    ∧ (c.defn.high - c.defn.low < c.defn.step →
      (c.defn.endAction = .wrap → c.advance = { c with current := c.defn.start })
      ∧ (c.defn.endAction = .halt → c.advance = { c with state := .exhausted })))
  ∧ ∀ c : Counter,
    (c.defn.direction = .up → c.current + c.defn.step ≤ c.defn.high →
      c.advance = { c with current := c.current + c.defn.step })
    ∧ (c.defn.direction = .down → c.defn.low + c.defn.step ≤ c.current →
      c.advance = { c with current := c.current - c.defn.step })
    ∧ ((c.defn.direction = .up ∧ c.defn.high < c.current + c.defn.step)
        ∨ (c.defn.direction = .down ∧ c.current < c.defn.low + c.defn.step) →
      (c.defn.endAction = .wrap → c.advance = { c with current := c.defn.start })
      ∧ (c.defn.endAction = .halt → c.advance = { c with state := .exhausted }))

/-- A confirm and a return both take the groups' entries, and no other, from a counter's outstanding list. A return
under GAP drops every value; under REUSE it takes the values one after another in the order of the outstanding list,
and joins each to the tail of the return list where it is absent there and fewer than 8 stand there, and drops it
otherwise. Each value is kept or dropped; what is dropped is reported with its group; and the counters that could not
issue and now can are reported. -/
def Obligations.ReturnsKeepOrDropEachValue : Prop :=
  (∀ (c : Counter) (groups : List (Nat × Nat)) (back : List Outstanding),
    back = (c.outstanding.filter fun o => o.ofGroups groups) →
    (c.returned groups).outstanding = (c.outstanding.filter fun o => !o.ofGroups groups)
    ∧ (c.returned groups).current = c.current ∧ (c.returned groups).state = c.state
    ∧ (c.returned groups).defn = c.defn ∧ (c.returned groups).bound = c.bound
    ∧ (c.defn.policy = .gap →
      (c.returned groups).returns = c.returns ∧ c.droppedBy groups = back.map fun o => (o.tag, o.label))
    ∧ (c.defn.policy = .reuse → ∃ joined : List Nat,
      (c.returned groups).returns = c.returns ++ joined
      ∧ joined.Sublist (back.map Outstanding.value)
      ∧ (c.returned groups).returns.length ≤ max 8 c.returns.length
      ∧ (∀ o ∈ back, o.value ∈ (c.returned groups).returns ∨ 8 ≤ (c.returned groups).returns.length)
      ∧ joined.length + (c.droppedBy groups).length = back.length
      ∧ joined.Nodup ∧ ∀ v ∈ joined, v ∉ c.returns)
    ∧ (c.defn.policy = .reuse →
      ((c.returned groups).returns, c.droppedBy groups)
        = back.foldl (fun (list, dropped) o =>
            if o.value ∉ list ∧ list.length < 8 then (list ++ [o.value], dropped)
            else (list, dropped ++ [(o.tag, o.label)])) (c.returns, [])))
  ∧ (∀ (tag label : Nat) (cs : List Counter),
    confirmGroup tag label cs
      = cs.map (fun (c : Counter) =>
          { c with outstanding := c.outstanding.filter fun o => !decide (o.tag = tag ∧ o.label = label) }))
  ∧ ∀ (groups : List (Nat × Nat)) (cs : List Counter),
    (∀ o : Outstanding, o.ofGroups groups = true ↔ (o.tag, o.label) ∈ groups)
    ∧ (returnGroups groups cs).counters = cs.map (Counter.returned groups)
    ∧ (returnGroups groups cs).dropped = cs.flatMap (Counter.droppedBy groups)
    ∧ ∀ id, id ∈ (returnGroups groups cs).able ↔ 1 ≤ id ∧ ∃ c, cs[id - 1]? = some c ∧ c.canIssue = false
      ∧ (c.returned groups).canIssue = true

/-! ## The Job Queue (chapter 5) -/

/-- JOB_SUBMIT: its refusals before any field is checked, in their order, each with no other effect; and with none of
them, the first page read of the format's body issued. A format with no page has its fields checked at once.
BAD_LENGTH: the slot list and the body length disagree, or a slot string is longer than 64 characters. BAD_VALUE: an
item outside the ranges of R96, among them a slot number given twice. The model's choices in it: log entries 3, 4, 35.
-/
def Obligations.JobSubmitRefusedOrRead : Prop :=
  (∀ (s u : State) (body : List Byte), s.settle = u → u.asks 0x22 body →
    (∀ r, jobItemsOf body = .error r → exec .jobSubmit s = .next (u.answered 0x22 (refusedReply 0x22 r 0) u))
    ∧ ∀ items, jobItemsOf body = .ok items →
      (32 ≤ u.queue.jobs.length → exec .jobSubmit s = .next (u.answered 0x22 (refusedReply 0x22 .queueFull 0) u))
      ∧ (u.queue.jobs.length < 32 →
        ((∃ j ∈ u.queue.jobs, j.items.tag = items.tag) →
          exec .jobSubmit s = .next (u.answered 0x22 (refusedReply 0x22 .duplicateTag 0) u))
        ∧ ((∀ j ∈ u.queue.jobs, j.items.tag ≠ items.tag) →
          (u.store.live .format items.format = none →
            exec .jobSubmit s = .next (u.answered 0x22 (refusedReply 0x22 .unresolved 0) u))
          ∧ (∀ (e : DirEntry) (p : Nat) (rest : List Nat), u.store.live .format items.format = some e →
            bodyPages e.firstSector 0 e.bodyLen = p :: rest →
            exec .jobSubmit s = .next
              (u.taken 0x22 (.submitFormat items rest)
                { u with array := u.array.arrive u.now { client := .decoder, op := .read p } }))
          ∧ ∀ e : DirEntry, u.store.live .format items.format = some e → bodyPages e.firstSector 0 e.bodyLen = [] →
            exec .jobSubmit s = .next ((u.headGone 0x22).submitFields items (u.liveFormat items).fields 0))))
  ∧ ∀ (body : List Byte) (listed : List Slot → Prop),
    (∀ slots, listed slots ↔ num body 14 1 = slots.length
      ∧ body.drop 15 = (slots.flatMap fun x => byte x.number :: byte x.text.length :: x.text)
      ∧ ∀ x ∈ slots, x.number < 256 ∧ x.text.length < 256) →
    ((∀ slots, ¬ listed slots) → jobItemsOf body = .error .badLength)
    ∧ ∀ (slots : List Slot) (items : JobItems) (ok : Prop), listed slots →
      items = { tag := num body 0 2, format := num body 2 2, quantity := num body 4 2, copies := num body 6 1
                priority := if num body 7 1 = 0 then .normal else .rush
                noInterrupt := decide (num body 8 1 = 1)
                darkness := (body.getD 9 0).toInt
                speed := if num body 10 2 = 0 then 0 else (min 250 (max 50 (num body 10 2))) / 25 * 25
                shiftX := (body.getD 12 0).toInt
                shiftY := (body.getD 13 0).toInt
                slots := slots } →
      (ok ↔ 1 ≤ items.tag ∧ (1 ≤ items.format ∧ items.format ≤ 999) ∧ (1 ≤ items.quantity ∧ items.quantity ≤ 9999)
        ∧ (1 ≤ items.copies ∧ items.copies ≤ 9) ∧ num body 7 1 ≤ 1 ∧ num body 8 1 ≤ 1
        ∧ (-10 ≤ items.darkness ∧ items.darkness ≤ 10) ∧ (-64 ≤ items.shiftX ∧ items.shiftX ≤ 64)
        ∧ (-64 ≤ items.shiftY ∧ items.shiftY ≤ 64) ∧ slots.length ≤ 32
        ∧ (∀ x ∈ slots, 1 ≤ x.number ∧ x.number ≤ 32) ∧ (slots.map Slot.number).Nodup) →
      ((∃ x ∈ slots, 64 < x.text.length) → jobItemsOf body = .error .badLength)
      ∧ ((∀ x ∈ slots, x.text.length ≤ 64) →
        (ok → jobItemsOf body = .ok items) ∧ (¬ ok → jobItemsOf body = .error .badValue))

/-- The binding of a submitted job: with every record LIVE and every counter defined, the pins are taken, each
counter's binding count rises, the record joins the queue, the reply gives its place and versions, and a label
boundary may follow. A NORMAL job joins at the tail; a RUSH job directly after the last RUSH job, or at the head with
none. The fields of a submitted job are checked in list order, a refusal naming the field: UNRESOLVED for an image or
a symbol table with no LIVE record or a counter not defined; BAD_DATA or NO_FIT for a BARCODE field against its table.
BAD_DATA: a character that the source can produce, known at binding or any of a counter's alphabet, is no code of the
table, or the length, cut to 64, lies outside its bounds. NO_FIT: the footprint, each character of the width assumed
for it, the check character of the widest entry, is wider than the maximum width, or turned and placed lies outside
the label. A BOX or LINE field has nothing to check. The geometry of a BARCODE field is asked of the renderer: its
table's first page is read at once with no band in hand, and waits for the end of the drawing otherwise; the answer
lets the renderer go on. A field that passes is followed by the next, and the last by the binding. A bind answers the
first name with no LIVE entry and pins nothing, or each distinct entry once, in the order of the names, each pinned
once. The model's choices in it: log entries 35, 51. -/
def Obligations.SubmittedJobIsCheckedAndBound : Prop :=
  ((∀ (u : State) (items : JobItems) (format : Format) (refs : List RecRef) (store : RecordStore) (q : JobQueue),
    u.dec.kind = byte 0x22 → format = u.liveFormat items →
    u.store.bind ((RecKind.format, items.format) :: format.records) = .ok (refs, store) →
    firstUndefined format.counterSet u.battery = none →
    q = { u.queue with jobs := insertJob (Job.create items refs format.counterSet) u.queue.jobs } →
    u.bindJob items
      = u.replied 0x22
          (okReply 0x22
            ([byte (q.position items.tag), byte refs.length]
              ++ refs.flatMap fun r => byte (recKindCode r.kind) :: toBytes 2 r.number ++ toBytes 2 r.revision))
          (State.boundary
            { u with
              battery := u.battery.withCounters (bindCounters format.counterSet u.battery.counters)
              store := store
              queue := q }))
  ∧ ∀ (j : Job) (jobs : List Job),
    (j.items.priority = .normal → insertJob j jobs = jobs ++ [j])
    ∧ (j.items.priority = .rush → ∃ before after, jobs = before ++ after ∧ insertJob j jobs = before ++ j :: after
      ∧ (∀ k ∈ after, k.items.priority ≠ .rush)
      ∧ ∀ k, before.getLast? = some k → k.items.priority = .rush))
  ∧ (∀ (u : State) (items : JobItems) (f : Field) (fs : List Field) (i : Nat), u.dec.kind = byte 0x22 →
    u.submitFields items [] i = u.bindJob items
    ∧ (∀ n k, f.kind = .image n k →
      (u.store.live .image n = none →
        u.submitFields items (f :: fs) i = u.replied 0x22 (refusedReply 0x22 .unresolved f.id) u)
      ∧ (u.store.live .image n ≠ none → u.submitFields items (f :: fs) i = u.submitFields items fs (i + 1)))
    ∧ (∀ a b c d src, f.kind = .text a b c d src →
      (u.countersDefined src = false →
        u.submitFields items (f :: fs) i = u.replied 0x22 (refusedReply 0x22 .unresolved f.id) u)
      ∧ (u.countersDefined src = true → u.submitFields items (f :: fs) i = u.submitFields items fs (i + 1)))
    ∧ (∀ n a b c d q r w src, f.kind = .barcode n a b c d q r w src →
      (u.store.live .table n = none ∨ u.countersDefined src = false →
        u.submitFields items (f :: fs) i = u.replied 0x22 (refusedReply 0x22 .unresolved f.id) u)
      ∧ ∀ (e : DirEntry) (p : Nat) (rest : List Nat), u.store.live .table n = some e → u.countersDefined src = true →
        bodyPages e.firstSector 0 e.bodyLen = p :: rest →
        (u.render.hand = none → u.submitFields items (f :: fs) i = u.issued (.read p) (.submitTable items i rest))
        ∧ (u.render.hand ≠ none →
          u.submitFields items (f :: fs) i = { u with dec := { u.dec with work := .awaitTable items i p rest } })
        ∧ ∀ format, format = u.liveFormat items → format.fields.drop i = f :: fs →
          (∀ reason, barcodeRefusal u.battery items format (parseTable (u.entryBody e)) f = some reason →
            u.submitTableEnd items i []
              = State.renderNext (u.replied 0x22 (refusedReply 0x22 reason f.id) u))
          ∧ (barcodeRefusal u.battery items format (parseTable (u.entryBody e)) f = none →
            u.submitTableEnd items i [] = State.renderNext
              (State.submitFields items fs (i + 1) { u with dec := { u.dec with work := .none } })))
    ∧ (∀ n a b c d q r w src (e : DirEntry) (format : Format), f.kind = .barcode n a b c d q r w src →
      u.store.live .table n = some e → u.countersDefined src = true → bodyPages e.firstSector 0 e.bodyLen = [] →
      format = u.liveFormat items →
      (∀ reason, barcodeRefusal u.battery items format (parseTable (u.entryBody e)) f = some reason →
        u.submitFields items (f :: fs) i = u.replied 0x22 (refusedReply 0x22 reason f.id) u)
      ∧ (barcodeRefusal u.battery items format (parseTable (u.entryBody e)) f = none →
        u.submitFields items (f :: fs) i = u.submitFields items fs (i + 1)))
    ∧ ((∃ w h t, f.kind = .box w h t) ∨ (∃ length t, f.kind = .line length t) →
      u.submitFields items (f :: fs) i = u.submitFields items fs (i + 1)))
  ∧ (∀ (b : Battery) (items : JobItems) (format : Format) (t : SymbolTable) (f : Field)
    (n m barHeight ratio reduction quiet most w h : Nat) (readable : Bool) (src : List SourcePart)
    (data : List CanProduce) (widths : List Nat) (size : Nat × Nat) (ok fits : Prop),
    f.kind = .barcode n m barHeight ratio reduction quiet readable most src →
    data = (src.flatMap fun p => match p with
      | .fixed text => (byteNats text).map CanProduce.known
      | .slot k => (slotText items.slots k).map CanProduce.known
      | .counter id => match b.counters[id - 1]? with
        | some c => List.replicate c.defn.width (CanProduce.any c.defn.alphabet)
        | none => []).take 64 →
    widths = [patternWidth t.model m ratio t.start] ++ data.map (t.assumedWidth m ratio)
      ++ (if t.rule = .none then [] else [widest t.model m ratio t.entries]) ++ [patternWidth t.model m ratio t.stop] →
    w = widths.sum + (widths.length - 1) * (t.gap * m) + 2 * (quiet * m) →
    h = barHeight + (if readable = true then 9 else 0) → size = (if f.rotation % 2 = 1 then (h, w) else (w, h)) →
    (ok ↔ (∀ c, .known c ∈ data → t.byCode c ≠ none)
      ∧ (∀ a c, .any a ∈ data → c ∈ alphabetChars a → t.byCode c ≠ none)
      ∧ t.minLen ≤ data.length ∧ data.length ≤ t.maxLen) →
    (fits ↔ (most = 0 ∨ w ≤ most) ∧ 0 ≤ f.originX + items.shiftX ∧ 0 ≤ f.originY + items.shiftY
      ∧ f.originX + items.shiftX + size.1 ≤ format.width ∧ f.originY + items.shiftY + size.2 ≤ format.length) →
    (¬ ok → barcodeRefusal b items format t f = some .badData)
    ∧ (ok → ¬ fits → barcodeRefusal b items format t f = some .noFit)
    ∧ (ok → fits → barcodeRefusal b items format t f = none))
  ∧ (∀ (u : State) (items : JobItems) (field page : Nat) (left : List Nat),
    u.dec.work = .awaitTable items field page left →
    (u.mode = .running → u.render.hand = none →
      u.takeGeometry = u.issued (.read page) (.submitTable items field left))
    ∧ (u.mode ≠ .running ∨ u.render.hand ≠ none → u.takeGeometry = u)
    ∧ ∀ s : State, s.settle = u → u.mode = .running → u.render.hand ≠ none)
  ∧ (∀ (st : RecordStore) (names : List (RecKind × Nat)) (name : RecKind × Nat),
    st.bind [] = .ok ([], st)
    ∧ ((∀ n ∈ names, st.live n.1 n.2 ≠ none) → st.live name.1 name.2 = none → ∀ more,
      st.bind (names ++ name :: more) = .error name)
    ∧ ∀ (refs : List RecRef) (after : RecordStore) (e : DirEntry), st.bind names = .ok (refs, after) →
      after = st.pin refs ∧ refs.Nodup
      ∧ (∀ r, r ∈ refs ↔ ∃ n ∈ names, ∃ x, st.live n.1 n.2 = some x ∧ x.ref = r)
      ∧ (st.live name.1 name.2 = some e → e.ref ∈ refs → st.bind (names ++ [name]) = .ok (refs, after))
      ∧ (st.live name.1 name.2 = some e → e.ref ∉ refs →
        st.bind (names ++ [name]) = .ok (refs ++ [e.ref], st.pin (refs ++ [e.ref]))))
  ∧ ∀ (t : SymbolTable) (m ratio c : Nat) (a : Alphabet) (e : TableEntry),
    (c ∈ alphabetChars a ↔ (48 ≤ c ∧ c ≤ 57) ∨ (a = .base36 ∧ 65 ≤ c ∧ c ≤ 90))
    ∧ (t.byCode c = some e → t.assumedWidth m ratio (.known c) = patternWidth t.model m ratio e.elements)
    ∧ (c ∈ alphabetChars a → t.byCode c = some e →
      patternWidth t.model m ratio e.elements ≤ t.assumedWidth m ratio (.any a)
      ∧ ∃ k x, k ∈ alphabetChars a ∧ t.byCode k = some x
        ∧ t.assumedWidth m ratio (.any a) = patternWidth t.model m ratio x.elements)
    ∧ (e ∈ t.entries → patternWidth t.model m ratio e.elements ≤ widest t.model m ratio t.entries
      ∧ ∃ x ∈ t.entries, widest t.model m ratio t.entries = patternWidth t.model m ratio x.elements)

/-- JOB_HOLD adds and JOB_RELEASE removes the reason OPERATOR of the job of a tag, and answers the job's state and
reasons; a reason removed may cause a label boundary. A tag with no job is refused with NOT_FOUND. REPRINT is refused
with no last-label record, and while a reprint is pending or printing; otherwise it is pending, and a label boundary
may follow. REPRINT_CLEAR is refused while a reprint ticket stands; otherwise it ends the pending reprint and clears
the record, its pins released. The model's choices in it: log entries 3, 4, 44, 52. -/
def Obligations.JobHeldReleasedAndReprinted : Prop :=
  (∀ (s u : State) (body : List Byte) (tag : Nat), s.settle = u → tag = num body 0 2 →
    (u.asks 0x20 body →
      (u.queue.job tag = none → exec .jobHold s = .next (u.answered 0x20 (refusedReply 0x20 .notFound 0) u))
      ∧ ∀ j, u.queue.job tag = some j →
        exec .jobHold s = .next
          (u.answered 0x20
            (okReply 0x20 [byte (jobStateCode j.state), byte (jobHoldBits { j with holdOperator := true })])
            { u with queue := u.queue.updateJob tag fun k => { k with holdOperator := true } }))
    ∧ (u.asks 0x21 body →
      (u.queue.job tag = none → exec .jobRelease s = .next (u.answered 0x21 (refusedReply 0x21 .notFound 0) u))
      ∧ ∀ (j : Job) (reply : List Byte), u.queue.job tag = some j →
        reply = okReply 0x21 [byte (jobStateCode j.state), byte (jobHoldBits { j with holdOperator := false })] →
        (j.holdOperator = false → exec .jobRelease s = .next
          (u.answered 0x21 reply
            { u with queue := u.queue.updateJob tag fun k => { k with holdOperator := false } }))
        ∧ (j.holdOperator = true → exec .jobRelease s = .next
          (u.answered 0x21 reply
            (State.boundary
              { u.headGone 0x21 with
                queue := u.queue.updateJob tag fun k => { k with holdOperator := false } })))))
  ∧ ((∀ (s u : State) (body : List Byte), s.settle = u → u.asks 0x26 body →
    (u.queue.last = none → exec .reprint s = .next (u.answered 0x26 (refusedReply 0x26 .notFound 0) u))
    ∧ (u.queue.last ≠ none → u.queue.reprint = true ∨ u.queue.reprintTicket = true →
      exec .reprint s = .next (u.answered 0x26 (refusedReply 0x26 .busy 0) u))
    ∧ (u.queue.last ≠ none → u.queue.reprint = false → u.queue.reprintTicket = false →
      exec .reprint s = .next
        (u.answered 0x26 (okReply 0x26 [])
          (State.boundary { u.headGone 0x26 with queue := { u.queue with reprint := true } }))))
  ∧ ∀ (s u : State) (body : List Byte), s.settle = u → u.asks 0x27 body →
    (u.queue.reprintTicket = true → exec .reprintClear s = .next (u.answered 0x27 (refusedReply 0x27 .busy 0) u))
    ∧ (u.queue.reprintTicket = false → u.queue.last = none →
      exec .reprintClear s
        = .next (u.answered 0x27 (okReply 0x27 []) { u with queue := { u.queue with reprint := false } }))
    ∧ ∀ l, u.queue.reprintTicket = false → u.queue.last = some l →
      exec .reprintClear s = .next
        (u.answered 0x27 (okReply 0x27 [])
          { u with
            store := u.store.release l.entries
            queue := { u.queue with reprint := false, last := none } }))

/-- A label boundary happens only with room in the ticket list and every ticket rendered whole. Its source is the next
copy of an open group; or a pending reprint, which waits for the list to be empty; or a new group of the RUNNING job
with the no-interrupt flag, or of the first job in queue order, that has no hold reason and labels left; or none,
which suspends a RUNNING job. A new group is drawn for with its ticket: where every counter issues, each value is the
one its counter issues and stands at the tail of its outstanding list, the job is RUNNING and any other RUNNING one
SUSPENDED; a failed draw leaves no entry of the group, counts the gaps, holds the job on the counter that could not
issue, and the choice is made again. A boundary adds at most one ticket, at the tail, and takes none away; it adds and
removes no job; and it leaves the flash contents, the record store, the Burn Controller, the engine, its motion and
notice, the sticky flags, the line, the Decoder, the board's lines, the clock and the mode alone. The model's choices
in it: log entries 18, 37. -/
def Obligations.LabelBoundaryChoosesAndCreates : Prop :=
  (∀ s t : State, t = s.boundary →
    ((4 ≤ s.queue.tickets.length ∨ ∃ k ∈ s.queue.tickets, k.whole = false) → t = s)
    ∧ (t.queue.tickets.map Ticket.key = s.queue.tickets.map Ticket.key
      ∨ ∃ key, t.queue.tickets.map Ticket.key = s.queue.tickets.map Ticket.key ++ [key])
    ∧ (t.queue.jobs.map fun j => j.items) = (s.queue.jobs.map fun j => j.items)
    ∧ t.flash = s.flash ∧ t.store = s.store ∧ t.burn = s.burn ∧ t.sticky = s.sticky ∧ t.line = s.line ∧ t.dec = s.dec
    ∧ t.lines = s.lines ∧ t.now = s.now ∧ t.mode = s.mode ∧ t.media.engine = s.media.engine
    ∧ t.media.motion = s.media.motion ∧ t.media.notice = s.media.notice ∧ t.battery.settings = s.battery.settings)
  ∧ (∀ s : State, s.queue.tickets.length < 4 → (∀ k ∈ s.queue.tickets, k.whole = true) →
    s.boundary = s.choose (s.queue.jobs.length + 1))
  ∧ (∀ q : JobQueue,
    (∀ (before after : List Job) (j : Job) (g : OpenGroup), q.jobs = before ++ j :: after →
      (∀ k ∈ before, k.openGroup = none) → j.openGroup = some g →
      q.choose = .copy j.items.tag g.label g.nextCopy j.items.copies (q.groupValues j.items.tag g.label))
    ∧ ((∀ j ∈ q.jobs, j.openGroup = none) →
      (∀ l, q.reprint = true → q.tickets = [] → q.last = some l → q.choose = .reprint l)
      ∧ (q.reprint = true → q.tickets ≠ [] ∨ q.last = none → q.choose = .nothing)
      ∧ (q.reprint = false → ∀ (before after : List Job) (j : Job), q.jobs = before ++ j :: after → j.supplies →
        (j.state = .running → j.items.noInterrupt = true → (∀ k ∈ before, k.state ≠ .running) → q.choose = .group j)
        ∧ ((∀ k ∈ q.jobs, k.state = .running → k.items.noInterrupt = false ∨ ¬ k.supplies) →
          (∀ k ∈ before, ¬ k.supplies) → q.choose = .group j))
      ∧ (q.reprint = false → (∀ j ∈ q.jobs, ¬ j.supplies) → q.choose = .nothing)))
  ∧ (∀ (s : State) (fuel : Nat),
    (∀ tag label copy copies values, s.queue.choose = .copy tag label copy copies values →
      s.choose (fuel + 1) = State.renderNext { s with
        queue := { s.queue with
          jobs := s.queue.jobs.map fun (j : Job) =>
            if j.items.tag = tag then
              { j with openGroup := if copy < copies then some { label := label, nextCopy := copy + 1 } else none }
            else j
          tickets := s.queue.tickets ++ [Ticket.create { source := some tag, label := label, copy := copy } values] } })
    ∧ (∀ l, s.queue.choose = .reprint l →
      s.choose (fuel + 1) = State.renderNext { s with
        queue := { s.queue with
          reprint := false
          tickets := s.queue.tickets ++ [Ticket.create { source := none, label := l.label, copy := 1 } l.values] } })
    ∧ (s.queue.choose = .nothing →
      s.choose (fuel + 1) = { s with
        queue := { s.queue with
          jobs := s.queue.jobs.map fun (j : Job) => if j.state = .running then { j with state := .suspended } else j } })
    ∧ ∀ j, s.queue.choose = .group j →
      (∀ values cs, drawGroup j.items.tag j.nextLabel j.counters [] s.battery.counters = .issued values cs →
        s.choose (fuel + 1) = State.renderNext { s with
          battery := s.battery.withCounters cs
          queue := { s.queue with
            jobs := s.queue.jobs.map fun (k : Job) =>
              if k.items.tag = j.items.tag then
                { k with
                  state := .running, nextLabel := k.nextLabel + 1
                  openGroup := if 1 < k.items.copies then some { label := k.nextLabel, nextCopy := 2 } else none }
              else if k.state = .running then { k with state := .suspended }
              else k
            tickets := s.queue.tickets
              ++ [Ticket.create { source := some j.items.tag, label := j.nextLabel, copy := 1 } values] } })
      ∧ ∀ counter a, drawGroup j.items.tag j.nextLabel j.counters [] s.battery.counters = .failed counter a →
        s.choose (fuel + 1) = State.choose fuel (State.syncCounterHold { s with
          battery := s.battery.withCounters a.counters
          queue := { s.queue with
            jobs := (s.queue.jobs.map fun (k : Job) =>
                if k.blockedOn a.able = true then { k with holdCounter := false, blocking := none } else k).map
              fun (k : Job) =>
                if k.items.tag = j.items.tag then
                  { k with
                    gaps := min 65535 (k.gaps + a.dropped.length), holdCounter := true, blocking := some counter }
                else k } }))
  ∧ (∀ (tag label : Nat) (ids : List Nat) (cs : List Counter),
    (∀ values after, drawGroup tag label ids [] cs = .issued values after →
      values.map Drawn.counter = ids
      ∧ ∀ d ∈ values, ∃ c, after[d.counter - 1]? = some c ∧ { value := d.value, tag := tag, label := label } ∈ c.outstanding)
    ∧ ∀ counter a, drawGroup tag label ids [] cs = .failed counter a →
      counter ∈ ids ∧ ∀ c ∈ a.counters, ∀ o ∈ c.outstanding, ¬ (o.tag = tag ∧ o.label = label))
  ∧ (∀ (tag label : Nat) (ids : List Nat) (cs : List Counter), ids.Nodup → (∀ id ∈ ids, 1 ≤ id ∧ id ≤ cs.length) →
    (∀ values after, drawGroup tag label ids [] cs = .issued values after →
      after.length = cs.length
      ∧ (∀ id ∈ ids, ∃ c v next, cs[id - 1]? = some c ∧ c.issue = some (v, next)
        ∧ { counter := id, value := v, width := c.defn.width, alphabet := c.defn.alphabet } ∈ values
        ∧ after[id - 1]?
          = some { next with outstanding := next.outstanding ++ [{ value := v, tag := tag, label := label }] })
      ∧ ∀ id, 1 ≤ id → id ∉ ids → after[id - 1]? = cs[id - 1]?)
    ∧ ∀ counter a, drawGroup tag label ids [] cs = .failed counter a →
      ∃ before rest values table, ids = before ++ counter :: rest
        ∧ (∀ id ∈ before, ∃ c, cs[id - 1]? = some c ∧ c.issue ≠ none)
        ∧ (∃ c, cs[counter - 1]? = some c ∧ c.issue = none)
        ∧ drawGroup tag label before [] cs = .issued values table ∧ a = returnGroups [(tag, label)] table)
  ∧ ∀ (ids : List Nat) (j : Job), j.blockedOn ids = true ↔ ∃ id ∈ ids, j.blocking = some id

/-- JOB_CANCEL: its refusals; a cancel of one tag discards the job's tickets that are not PRINTING, frees their
buffers and ends a drawing of one of them, returns the groups that have burned no line, confirms the others but for
the one that has the PRINTING ticket, reports how many groups it returned, what values they dropped, which the job's
gaps count, and which counters a return made able to issue, and makes the job ENDING with CANCELLED where no ticket of
it stays; a cancel of all does so for every job that a cancel can take, in queue order. A group has burned a line
where a ticket of it has its burned flag set or its first copy stands no more in the list. Then the jobs held on a
counter reported able to issue lose that reason, the renderer takes up its next ticket, and a label boundary follows
where a ticket was discarded or a reason removed. The model's choices in it: log entries 3, 4, 19, 36, 52. -/
def Obligations.JobCancelDiscardsAndEnds : Prop :=
  (∀ (s u : State) (body : List Byte) (scope tag : Nat), s.settle = u → u.asks 0x23 body → scope = num body 0 1 →
    tag = num body 1 2 →
    (1 < scope ∨ (scope = 0 ∧ tag = 0) → exec .jobCancel s = .next (u.answered 0x23 (refusedReply 0x23 .badValue 0) u))
    ∧ (scope = 0 → tag ≠ 0 →
      (u.queue.job tag = none → exec .jobCancel s = .next (u.answered 0x23 (refusedReply 0x23 .notFound 0) u))
      ∧ ∀ j, u.queue.job tag = some j →
        (j.state = .ending ∨ j.cancelled = true →
          exec .jobCancel s = .next (u.answered 0x23 (refusedReply 0x23 .cancelLate 0) u))
        ∧ (j.state ≠ .ending → j.cancelled = false → ∀ (v : State) (a : CancelAnswer),
          (u.headGone 0x23).cancelJob tag = (v, a) →
          exec .jobCancel s = .next
            (u.answered 0x23
              (okReply 0x23
                ([byte a.discarded, byte a.returned] ++ toBytes 2 a.dropped
                  ++ [if v.queue.hasTicket tag = true then 0 else 1]))
              (v.afterCancel a.discarded a.able))))
    ∧ (scope = 1 → ∀ (tags : List Nat) (v : State) (n : Nat) (able : List Nat),
      tags = (u.queue.jobs.filter Job.cancellable).map (fun j => j.items.tag) →
      cancelTags tags (u.headGone 0x23) = (v, n, able) →
      exec .jobCancel s
        = .next (u.answered 0x23 (okReply 0x23 [byte tags.length]) (v.afterCancel n able))))
  ∧ (∀ (s v : State) (tag : Nat) (a : CancelAnswer) (j : Job) (keys : List TicketKey) (labels back now : List Nat)
      (r : ReturnAnswer), s.cancelJob tag = (v, a) → s.queue.job tag = some j → keys = s.queue.discards tag →
    labels = unsettled tag s.battery.counters → back = (labels.filter fun l => !s.queue.groupBurned tag l) →
    now = (labels.filter fun l => s.queue.groupBurned tag l && !s.queue.groupPrinting tag l) →
    r = returnGroups (back.map fun l => (tag, l)) s.battery.counters →
    (v.battery = s.battery.withCounters (now.foldl (fun cs l => confirmGroup tag l cs) r.counters)
      ∧ a.returned = back.length ∧ a.dropped = r.dropped.length ∧ a.able = r.able
      ∧ (∀ l, l ∈ labels ↔ ∃ c ∈ s.battery.counters, ∃ o ∈ c.outstanding, o.tag = tag ∧ o.label = l)
      ∧ (∀ l, s.queue.groupBurned tag l = true ↔
          (∃ t ∈ s.queue.tickets, t.key.source = some tag ∧ t.key.label = l ∧ t.burned = true)
          ∨ ∀ t ∈ s.queue.tickets, t.key.source = some tag → t.key.label = l → t.key.copy ≠ 1)
      ∧ (∀ l, s.queue.groupPrinting tag l = true ↔
          ∃ t ∈ s.queue.tickets, t.key.source = some tag ∧ t.key.label = l ∧ t.state = .printing)
      ∧ (∀ (i : Nat) (c : Counter), s.battery.counters[i]? = some c → ∃ k, v.battery.counters[i]? = some k
        ∧ k.outstanding = (c.outstanding.filter fun o =>
            decide (o.tag ≠ tag ∨ (s.queue.groupBurned tag o.label && s.queue.groupPrinting tag o.label) = true))
        ∧ k.returns = (c.returned (back.map fun l => (tag, l))).returns ∧ k.current = c.current ∧ k.state = c.state
        ∧ k.defn = c.defn ∧ k.bound = c.bound)
      ∧ ∀ id, id ∈ a.able ↔ 1 ≤ id ∧ ∃ c k, s.battery.counters[id - 1]? = some c ∧ v.battery.counters[id - 1]? = some k
        ∧ c.canIssue = false ∧ k.canIssue = true)
    ∧ ((∀ key, key ∈ keys ↔ ∃ t ∈ s.queue.tickets, t.key = key ∧ t.key.source = some tag ∧ t.state ≠ .printing)
      ∧ v.render.buffers = (s.render.buffers.map fun (b : Buffer) =>
          if (∃ key ∈ keys, b.ticket = some key) then Buffer.empty else b)
      ∧ (∀ h, s.render.hand = some h → h.ticket ∈ keys →
        v.render.hand = none ∧ v.array = s.array.orphanRenderer)
      ∧ ((∀ h, s.render.hand = some h → h.ticket ∉ keys) → v.render.hand = s.render.hand ∧ v.array = s.array))
    ∧ v.queue.tickets = (s.queue.tickets.filter fun t => !(s.queue.discards tag).contains t.key)
    ∧ a.discarded = (s.queue.tickets.filter fun t => decide (t.key.source = some tag ∧ t.state ≠ .printing)).length
    ∧ (∃ k, v.queue.job tag = some k ∧ k.items = j.items ∧ k.cancelled = true ∧ k.openGroup = none
      ∧ k.gaps = min 65535 (j.gaps + a.dropped)
      ∧ (v.queue.hasTicket tag = false → k.state = .ending ∧ k.outcome = some .cancelled)
      ∧ (v.queue.hasTicket tag = true → k.state = j.state ∧ k.outcome = j.outcome))
    ∧ v.queue.ending = (if v.queue.hasTicket tag = true then s.queue.ending else s.queue.ending ++ [tag])
    ∧ v.flash = s.flash ∧ v.store = s.store ∧ v.burn = s.burn ∧ v.media = s.media ∧ v.sticky = s.sticky
    ∧ v.line = s.line ∧ v.dec = s.dec ∧ v.now = s.now ∧ v.queue.last = s.queue.last)
  ∧ (∀ s : State, cancelTags [] s = (s, 0, [])
    ∧ ∀ (tag : Nat) (tags : List Nat) (v w : State) (a : CancelAnswer) (n : Nat) (able : List Nat),
      s.cancelJob tag = (v, a) → cancelTags tags v = (w, n, able) →
      cancelTags (tag :: tags) s = (w, a.discarded + n, a.able ++ able))
  ∧ ∀ (s v : State) (discarded : Nat) (able : List Nat) (held : Prop),
    (held ↔ ∃ j ∈ s.queue.jobs, ∃ id ∈ able, j.blocking = some id) →
    (∀ jobs : List Job, jobs = (s.queue.jobs.map fun (j : Job) =>
        if (∃ id ∈ able, j.blocking = some id) then { j with holdCounter := false, blocking := none } else j) →
      v = { s with
        queue := { s.queue with jobs := jobs }
        media := { s.media with
          counterHold := jobs.any Job.holdCounter
          attention := decide (s.media.engine = .fault) || jobs.any Job.holdCounter } }) →
    (discarded ≠ 0 ∨ held → s.afterCancel discarded able = v.renderNext.boundary)
    ∧ (discarded = 0 → ¬ held → s.afterCancel discarded able = v.renderNext)

/-- READY, in one event: the notice stands whole in the output queue, CTS is high, the part runs, and the lost mark
and the drop records are cleared with the table check. The notice is one frame with up to 50 drop records and two
frames with more. The JOB_END notice of the oldest ENDING job and the pending ENGINE notice are each placed whole when
there is room, with no RESTART answered; the job then leaves the queue with its pins and binding counts, and ENGINE
waits behind every JOB_END. Without the room nothing changes. The model's choices in it: log entries 1, 3. -/
def Obligations.ReadyAndNoticesArePlaced : Prop :=
  ((∀ (s : State) (damaged duplicates : Nat), s.mode = .startUp (.ready damaged duplicates) →
    exec .ready s = .next
      { s with
        mode := .running
        battery := Battery.checked { s.battery with lostMark := false, drops := [] }
        line := { s.line with
          cts := true
          output := s.line.output ++ readyNotice s damaged duplicates
          sending := if s.line.sending = none ∧ s.lines.rts = true then some s.now else s.line.sending }
        media := { s.media with idleSince := s.now } })
  ∧ ∀ (s : State) (damaged duplicates : Nat),
    (s.battery.drops.length ≤ 50 →
      readyNotice s damaged duplicates = readyFrame s damaged duplicates 1 1 s.battery.drops)
    ∧ (50 < s.battery.drops.length →
      readyNotice s damaged duplicates
        = readyFrame s damaged duplicates 1 2 (s.battery.drops.take 50)
          ++ readyFrame s damaged duplicates 2 2 (s.battery.drops.drop 50)))
  ∧ (∀ (s : State) (tag : Nat) (rest : List Nat) (j : Job) (left : List Job), s.queue.ending = tag :: rest →
    s.queue.job tag = some j → left = (s.queue.jobs.filter fun k => decide (k.items.tag ≠ j.items.tag)) →
    (s.mode = .running → s.line.restart = none → (jobEndFrame j).length ≤ s.freeRoom →
      exec .jobEnd s = .next
        { s with
          battery := s.battery.withCounters (unbindCounters j.counters s.battery.counters)
          store := s.store.release j.entries
          queue := { s.queue with jobs := left, ending := rest }
          media := { s.media with
            counterHold := left.any Job.holdCounter
            attention := decide (s.media.engine = .fault) || left.any Job.holdCounter }
          line := { s.line with
            output := s.line.output ++ jobEndFrame j
            sending := if s.line.sending = none ∧ s.lines.rts = true then some s.now else s.line.sending } })
    ∧ (s.mode ≠ .running ∨ s.line.restart ≠ none ∨ s.freeRoom < (jobEndFrame j).length →
      exec .jobEnd s = .next s))
  ∧ ∀ (s : State) (n : EngineNotice), s.media.notice = some n →
    (s.mode = .running → s.line.restart = none → s.queue.ending = [] → (engineFrame n).length ≤ s.freeRoom →
      exec .engine s = .next
        { s with
          media := { s.media with notice := none }
          line := { s.line with
            output := s.line.output ++ engineFrame n
            sending := if s.line.sending = none ∧ s.lines.rts = true then some s.now else s.line.sending } })
    ∧ (s.mode ≠ .running ∨ s.line.restart ≠ none ∨ s.queue.ending ≠ [] ∨ s.freeRoom < (engineFrame n).length →
      exec .engine s = .next s)

/-! ## Record contents and rendering (chapters 2 and 6) -/

/-- Content validation of a body: its first fault in the order of its items, or none. The pass goes from item to item
over the body and ends at the first fault or with the end reached exactly. For an image the items are the width, the
height and the rows; a body that ends early is a fault at its length, one that goes on at the byte after the rows. For
a format and a symbol table each item has the range of its row, and is followed by the item that the layout gives: a
format's fields with their kind's parameters and, of a TEXT or BARCODE field, their source parts, whose FIXED text is
64 characters at most; a table's gap, which under an element count of the wrong parity is a fault at that count; its
check parameters by its rule; its patterns; and its entries, with codes and, under a check rule, values that occur
once. The model's choices in it: log entries 17, 54. -/
def Obligations.RecordBodiesAreValidated : Prop :=
  (∀ (body : List Byte) (width height rows : Nat), width = num body 0 2 → height = num body 2 2 →
    rows = height * ((width + 7) / 8) →
    validateBody .image body =
      if body.length < 2 then some body.length
      else if width = 0 ∨ 832 < width then some 0
      else if body.length < 4 then some body.length
      else if height = 0 ∨ 4000 < height then some 2
      else if body.length < 4 + rows then some body.length
      else if 4 + rows < body.length then some (4 + rows)
      else none)
  ∧ (∀ (k : RecKind) (body : List Byte), ∃ ps : List Pass, ps.head? = some (Pass.begin k)
    ∧ ps.IsChain (fun p q => p.step body.length (body.drop p.offset) = .go q)
    ∧ ∃ p, ps.getLast? = some p
      ∧ ((p.step body.length (body.drop p.offset) = .passed ∧ validateBody k body = none)
        ∨ ∃ at_, p.step body.length (body.drop p.offset) = .fault at_ ∧ validateBody k body = some at_))
  ∧ ((Pass.begin .format).item = .labelLength ∧ (Pass.begin .table).item = .model
    ∧ ∀ k, (Pass.begin k).offset = 0 ∧ (Pass.begin k).ids = [] ∧ (Pass.begin k).codes = [] ∧ (Pass.begin k).values = [])
  ∧ (∀ (p : Pass) (bodyLen : Nat) (avail : List Byte), p.item = .finish →
    p.step bodyLen avail = if p.offset = bodyLen then .passed else .fault p.offset)
  ∧ (∀ (p pastPart pastField : Pass) (past : Nat → Item → Pass),
    (∀ n item, past n item = { p with offset := p.offset + n, item := item }) →
    pastField = { p with fieldsLeft := p.fieldsLeft - 1, item := if p.fieldsLeft ≤ 1 then .finish else .fieldId } →
    pastPart = (if 1 < p.partsLeft then { p with partsLeft := p.partsLeft - 1, item := .partKind }
      else { pastField with partsLeft := 0 }) →
    (p.item = .labelLength → p.judges 2 (fun v => 8 ≤ v ∧ v ≤ 4000) fun _ => past 2 .labelWidth)
    ∧ (p.item = .labelWidth → p.judges 2 (fun v => 8 ≤ v ∧ v ≤ 832) fun _ => past 2 .darkness)
    ∧ (p.item = .darkness → p.judges 1 (fun v => v ≤ 30) fun _ => past 1 .speed)
    ∧ (p.item = .speed → p.judges 1 (fun v => 50 ≤ v ∧ v ≤ 250 ∧ v % 25 = 0) fun _ => past 1 .fieldCount)
    ∧ (p.item = .fieldCount →
      p.judges 1 (fun v => 1 ≤ v ∧ v ≤ 128) fun v => { past 1 .fieldId with fieldsLeft := v })
    ∧ (p.item = .fieldId →
      p.judges 1 (fun v => 1 ≤ v ∧ v ≤ 128 ∧ v ∉ p.ids) fun v => { past 1 .fieldKind with ids := p.ids ++ [v] })
    ∧ (p.item = .fieldKind →
      p.judges 1 (fun v => 1 ≤ v ∧ v ≤ 5) fun v => { past 1 .originX with kindCode := v })
    ∧ (p.item = .originX → p.judges 2 (fun v => v ≤ 831) fun _ => past 2 .originY)
    ∧ (p.item = .originY → p.judges 2 (fun v => v ≤ 3999) fun _ => past 2 .rotation)
    ∧ (p.item = .rotation → p.judges 1 (fun v => v ≤ 3) fun _ => past 1 .drawMode)
    ∧ (p.item = .drawMode → p.judges 1 (fun v => v ≤ 1) fun _ => { past 1 .param with paramIndex := 0 })
    ∧ (∀ (rows : List (Nat × Nat × Nat)) (n low high : Nat), p.item = .param →
      (p.kindCode = 1 → rows = [(1, 1, 4), (1, 1, 8), (1, 1, 8), (2, 0, 832)]) →
      (p.kindCode = 2 → rows =
        [(2, 1, 999), (1, 1, 10), (2, 8, 4000), (1, 20, 30), (1, 0, 3), (1, 0, 20), (1, 0, 1), (2, 0, 832)]) →
      (p.kindCode = 3 → rows = [(2, 1, 4000), (2, 1, 4000), (2, 1, 4000)]) →
      (p.kindCode = 4 → rows = [(2, 1, 4000), (2, 1, 4000)]) →
      (p.kindCode = 5 → rows = [(2, 1, 999), (1, 1, 4)]) → 1 ≤ p.kindCode → p.kindCode ≤ 5 →
      rows[p.paramIndex]? = some (n, low, high) →
      p.judges n (fun v => low ≤ v ∧ v ≤ high) fun _ =>
        if p.paramIndex + 1 < rows.length then { past n .param with paramIndex := p.paramIndex + 1 }
        else if p.kindCode ≤ 2 then past n .partCount
        else { pastField with offset := p.offset + n })
    ∧ (p.item = .partCount →
      p.judges 1 (fun v => 1 ≤ v ∧ v ≤ 4) fun v => { past 1 .partKind with partsLeft := v, fixedTotal := 0 })
    ∧ (p.item = .partKind → p.judges 1 (fun v => 1 ≤ v ∧ v ≤ 3) fun v => { past 1 .part with partCode := v })
    ∧ (p.item = .part → p.partCode = 1 →
      p.judgesList (fun v => 1 ≤ v ∧ v ≤ 64 ∧ p.fixedTotal + v ≤ 64) (fun b => 32 ≤ b.toNat ∧ b.toNat ≤ 126)
        fun v => { pastPart with offset := p.offset + 1 + v, fixedTotal := p.fixedTotal + v })
    ∧ (p.item = .part → p.partCode = 2 →
      p.judges 1 (fun v => 1 ≤ v ∧ v ≤ 32) fun _ => { pastPart with offset := p.offset + 1 })
    ∧ (p.item = .part → p.partCode = 3 →
      p.judges 1 (fun v => 1 ≤ v ∧ v ≤ 64) fun _ => { pastPart with offset := p.offset + 1 }))
  ∧ ∀ (p : Pass) (past : Nat → Item → Pass) (element : Byte → Prop) (even : Nat → Nat → Prop),
    (∀ n item, past n item = { p with offset := p.offset + n, item := item }) →
    (∀ b, element b ↔ 1 ≤ b.toNat ∧ b.toNat ≤ if p.modelCode = 1 then 2 else 4) →
    (∀ gap n, even gap n ↔ if gap = 0 then n % 2 = 0 else n % 2 = 1) →
    (p.item = .model → p.judges 1 (fun v => v = 1 ∨ v = 2) fun v => { past 1 .perChar with modelCode := v })
    ∧ (p.item = .perChar →
      p.judges 1 (fun v => 3 ≤ v ∧ v ≤ 12) fun v => { past 1 .gap with perCharCount := v })
    ∧ (∀ (bodyLen v : Nat) (avail : List Byte), p.item = .gap → v = num avail 0 1 →
      (bodyLen < p.offset + 1 → p.step bodyLen avail = .fault bodyLen)
      ∧ (p.offset + 1 ≤ bodyLen → avail = [] → p.step bodyLen avail = .more)
      ∧ (p.offset + 1 ≤ bodyLen → avail ≠ [] →
        (v ≤ 3 → ¬ even v p.perCharCount → p.step bodyLen avail = .fault (p.offset - 1))
        ∧ (3 < v → p.step bodyLen avail = .fault p.offset)
        ∧ (v ≤ 3 → even v p.perCharCount →
          (p.modelCode ≠ 1 → v ≠ 0 → p.step bodyLen avail = .fault p.offset)
          ∧ (p.modelCode = 1 ∨ v = 0 →
            p.step bodyLen avail = .go { past 1 .minLength with gapCount := v }))))
    ∧ (p.item = .minLength →
      p.judges 1 (fun v => 1 ≤ v ∧ v ≤ 48) fun v => { past 1 .maxLength with minLen := v })
    ∧ (p.item = .maxLength → p.judges 1 (fun v => p.minLen ≤ v ∧ v ≤ 48) fun _ => past 1 .rule)
    ∧ (p.item = .rule → p.judges 1 (fun v => v ≤ 2) fun v =>
      { past 1 .modulus with
        rule := if v = 0 then .none else if v = 1 then .rightWeighted else .leftPositional })
    ∧ (p.item = .modulus →
      p.judges 1 (fun v => p.rule = .none ∨ (2 ≤ v ∧ v ≤ 128)) fun v => { past 1 .weightA with modulusValue := v })
    ∧ (p.item = .weightA →
      p.judges 1 (fun v => p.rule = .rightWeighted → 1 ≤ v ∧ v ≤ 9) fun _ => past 1 .weightB)
    ∧ (p.item = .weightB →
      p.judges 1 (fun v => p.rule = .rightWeighted → 1 ≤ v ∧ v ≤ 9) fun _ => past 1 .startConstant)
    ∧ (p.item = .startConstant →
      p.judges 1 (fun v => p.rule = .leftPositional → v < p.modulusValue) fun _ => past 1 .checkShown)
    ∧ (p.item = .checkShown → p.judges 1 (fun v => v ≤ 1) fun _ => past 1 .startPattern)
    ∧ (p.item = .startPattern →
      p.judgesList (fun v => 1 ≤ v ∧ v ≤ 16 ∧ even p.gapCount v) element fun v => past (1 + v) .stopPattern)
    ∧ (p.item = .stopPattern →
      p.judgesList (fun v => 1 ≤ v ∧ v ≤ 16) element fun v => past (1 + v) .entryCount)
    ∧ (p.item = .entryCount →
      p.judges 1 (fun v => 1 ≤ v ∧ v ≤ 128 ∧ (p.rule = .none ∨ v = p.modulusValue)) fun v =>
        { past 1 .entryCode with entriesLeft := v })
    ∧ (p.item = .entryCode →
      p.judges 1 (fun v => 32 ≤ v ∧ v ≤ 126 ∧ v ∉ p.codes) fun v =>
        { past 1 .entryValue with codes := p.codes ++ [v] })
    ∧ (p.item = .entryValue →
      p.judges 1 (fun v => (p.rule = .none → v ≤ 127) ∧ (p.rule ≠ .none → v < p.modulusValue ∧ v ∉ p.values)) fun v =>
        { past 1 .entryElements with values := p.values ++ [v] })
    ∧ ∀ (bodyLen : Nat) (avail : List Byte), p.item = .entryElements →
      (bodyLen < p.offset + p.perCharCount → p.step bodyLen avail = .fault bodyLen)
      ∧ (p.offset + p.perCharCount ≤ bodyLen → avail.length < p.perCharCount → p.step bodyLen avail = .more)
      ∧ (p.offset + p.perCharCount ≤ bodyLen → p.perCharCount ≤ avail.length →
        ((∃ b ∈ avail.take p.perCharCount, ¬ element b) → p.step bodyLen avail = .fault p.offset)
        ∧ ((∀ b ∈ avail.take p.perCharCount, element b) →
          p.step bodyLen avail = .go
            { past p.perCharCount (if p.entriesLeft ≤ 1 then .finish else .entryCode) with
              entriesLeft := p.entriesLeft - 1 }))

/-- With no band in hand the renderer takes the lowest-numbered FREE buffer for the next band of the first ticket that
has bands not rendered, FILLING with the band's number and lines, and issues the first page read of the band; at band
0 it fixes the ticket's effective length, the smaller of its format's and the printable length, and sets its clipped
flag where it is below the format's. It reads the format's pages, those of each table a symbol of which has dots in
the band, and those of the image rows the band draws, one after another; with no such ticket it is idle, with no FREE
buffer it waits, as it does with a geometry request before it. The rows a band draws of an image: at 0 or 180 those of
which a frame line falls in the band, at 90 or 270 all where a frame column does. BAND_DRAWN, once the band's pages
have been read: the buffer is COMPLETE with the band's dots, the ticket has one more band rendered and is READY at its
starting bands, and the renderer takes up the next band. A band that completes the ticket may be followed by a label
boundary, one that makes it READY by a label start. A drawn line has 832 dots, off at and beyond the label width. The
model's choices in it: log entries 1, 12, 28, 46, 51. -/
def Obligations.BandBuffersAreTakenAndCompleted : Prop :=
  (∀ (s : State) (asked : Prop),
    (asked ↔ (∃ items field page left, s.dec.work = .awaitTable items field page left)
      ∨ ∃ items field left, s.dec.work = .submitTable items field left) →
    (s.render.hand ≠ none ∨ asked ∨ (∀ k ∈ s.queue.tickets, k.whole = true) ∨ (∀ b ∈ s.render.buffers, b.state ≠ .free) →
      s.renderNext = s)
    ∧ ∀ (t fixed : Ticket) (before after : List Ticket) (i length : Nat) (pages : List Nat), s.render.hand = none →
      ¬ asked →
      s.queue.tickets = before ++ t :: after → (∀ k ∈ before, k.whole = true) → t.whole = false →
      i < s.render.buffers.length → (s.render.buffers.getD i Buffer.empty).state = .free →
      (∀ k < i, (s.render.buffers.getD k Buffer.empty).state ≠ .free) →
      length = (if s.battery.settings.mediaType = .continuous ∨ s.battery.settings.pitch = 0 then (s.ticketFormat t).length
        else min (s.ticketFormat t).length (s.battery.settings.pitch - s.battery.settings.gapLength)) →
      fixed = (if t.rendered = 0 then
          { t with length := some length, clipped := t.clipped || decide (length < (s.ticketFormat t).length) }
        else t) →
      pages = s.bandPages (s.ticketData t) (fixed.length.getD 0) t.rendered →
      s.renderNext = { s with
        queue := { s.queue with
          tickets := s.queue.tickets.map fun (k : Ticket) => if k.key = t.key then fixed else k }
        render :=
          { buffers := s.render.buffers.set i
              { state := .filling, ticket := some t.key, band := t.rendered
                lines := min 64 (fixed.length.getD 0 - 64 * t.rendered), dots := [] }
            hand := some { ticket := t.key, band := t.rendered, buffer := i, pagesLeft := pages.tail
                           reading := decide (pages ≠ []) } }
        array := match pages with
          | p :: _ => s.array.arrive s.now { client := .renderer, op := .read p }
          | [] => s.array })
  ∧ (∀ (s : State) (d : LabelData) (length band page : Nat), page ∈ s.bandPages d length band ↔
    (∃ r, (d.refs.find? fun r => decide (r.kind = .format)) = some r ∧ page ∈ s.refPages r)
    ∨ (∃ f ∈ (s.boundFormat d.refs).fields, ∃ n a b c q w v x src r, f.kind = .barcode n a b c q w v x src
      ∧ boundRef d.refs .table n = some r ∧ page ∈ s.refPages r
      ∧ ∃ j x, j < min 64 (length - 64 * band) ∧ x < (s.boundFormat d.refs).width
        ∧ (s.placeField d f).dot x (64 * band + j) = true)
    ∨ ∃ f ∈ (s.boundFormat d.refs).fields, ∃ n k r e row, f.kind = .image n k ∧ boundRef d.refs .image n = some r
      ∧ s.store.entry r = some e
      ∧ row ∈ imageRows (s.placeField d f) (parseImage (s.refBody r)) k length band
      ∧ page ∈ bodyPages e.firstSector (4 + row * (((parseImage (s.refBody r)).width + 7) / 8))
          (((parseImage (s.refBody r)).width + 7) / 8))
  ∧ (∀ (p : Placed) (i : Image) (k length band row : Nat), row ∈ imageRows p i k length band ↔
    row < i.height ∧ ∃ y : Nat, 64 * band ≤ y ∧ y < 64 * band + 64 ∧ y < length
      ∧ (p.rotation = 0 → ∃ j < k, (y : Int) = p.y + (row * k + j : Nat))
      ∧ (p.rotation ≠ 0 → p.rotation % 2 = 0 → ∃ j < k, (y : Int) = p.y + (i.height * k : Nat) - 1 - (row * k + j : Nat))
      ∧ (p.rotation % 2 = 1 → p.y ≤ y ∧ y < p.y + (i.width * k : Nat)))
  ∧ (∀ (s u w v : State) (page began : Nat), s.settle = u → page < 32768 → u.mode = .running →
    w = { u with now := max u.now (began + 40) } → v = { w with array := u.array.passOn w.now } →
    (u.array.busy = some { access := { client := .renderer, op := .read page }, started := began } →
      (∀ (h : Hand) (p : Nat) (rest : List Nat), u.render.hand = some h → h.pagesLeft = p :: rest →
        exec .pageReadEnd s = .next { v with
          render := { u.render with hand := some { h with pagesLeft := rest, reading := true } }
          array := v.array.arrive v.now { client := .renderer, op := .read p } })
      ∧ (∀ h : Hand, u.render.hand = some h → h.pagesLeft = [] →
        exec .pageReadEnd s = .next { v with render := { u.render with hand := some { h with reading := false } } }))
    ∧ (u.array.busy = some { access := { client := .orphan, op := .read page }, started := began } →
      exec .pageReadEnd s = .next v))
  ∧ (∀ (s u w : State) (h : Hand) (t after : Ticket), s.settle = u → u.mode = .running → u.render.hand = some h →
    h.pagesLeft = [] → h.reading = false → u.queue.ticket h.ticket = some t →
    after = { t with
      rendered := t.rendered + 1
      state := if t.state = .rendering ∧ t.rendered + 1 = startingBands (t.length.getD 0) then .ready else t.state } →
    w = { u with
      render :=
        { buffers := u.render.buffers.set h.buffer
            { u.render.buffers.getD h.buffer Buffer.empty with state := .complete, dots := u.drawBand t h.band }
          hand := none }
      queue := u.queue.updateTicket t.key fun _ => after } →
    (after.state = t.state → t.state ≠ .printing →
      exec .bandDrawn s = .next (State.renderNext (if after.whole = true then w.boundary else w)))
    ∧ (after.state ≠ t.state →
      exec .bandDrawn s = .next (State.renderNext (if after.whole = true then w.tryStart.boundary else w.tryStart)))
    ∧ (t.state = .printing →
      exec .bandDrawn s = .next
        (State.renderNext
          (if after.whole = true then (w.bandReport t h.band).boundary else w.bandReport t h.band))))
  ∧ (∀ s u : State, s.settle = u →
    u.render.hand = none ∨ (∃ h, u.render.hand = some h ∧ (h.pagesLeft ≠ [] ∨ h.reading = true)) →
    exec .bandDrawn s = .next u)
  ∧ ∀ (fields : List Placed) (width length band j x : Nat), j < min 64 (length - 64 * band) → x < 832 →
    ((bandDots fields width length band).getD j []).length = 832
    ∧ ((bandDots fields width length band).getD j []).getD x false
      = (decide (x < width) && labelDot fields x (64 * band + j))

/-- A band is drawn from the ticket's job, or for a reprint from the last-label record, field after field of its
format in list order on dots that are off: SET turns a dot on and INVERT reverses it, and a field touches no dot that
is off in it (R129). A field is laid out in a frame, placed at its origin plus the shift and turned as Table 6-2 gives
(R130). A TEXT field shows the cells of its characters, magnified and cut at its maximum width, with the glyph at its
offset, a margin off, code 32 with no dot and a code outside 32 to 126 as code 63 (R131, R38); a BOX its outline and a
LINE every dot (R132); an IMAGE the dots of its rows, each byte from its most significant bit, magnified (R133, R39);
a BARCODE its bars, and below them its text within the symbol (R135, R138). The dots of a glyph themselves are free
values. The characters of a source are those of its parts, joined in list order and cut to 64 (R31): a FIXED part's
own, the job's slot string, and the drawn value of a counter in its width and alphabet, most significant digit first
and padded with 0 (R75). The model's choices in it: log entry 9. -/
def Obligations.FieldsAreDrawnInListOrder : Prop :=
  (∀ (s : State) (t : Ticket) (d : LabelData) (band j x : Nat) (width : Nat) (fields : List Placed),
    (∃ tag job, t.key.source = some tag ∧ s.queue.job tag = some job
      ∧ d = { refs := job.entries, slots := job.items.slots, shiftX := job.items.shiftX, shiftY := job.items.shiftY
              values := t.values })
      ∨ (∃ l, t.key.source = none ∧ s.queue.last = some l
        ∧ d = { refs := l.entries, slots := l.slots, shiftX := l.shiftX, shiftY := l.shiftY, values := t.values }) →
    width = (s.boundFormat d.refs).width → fields = (s.boundFormat d.refs).fields.map (s.placeField d) →
    j < min 64 (t.length.getD 0 - 64 * band) → x < 832 →
    ((s.drawBand t band).getD j []).length = 832
    ∧ ((s.drawBand t band).getD j []).getD x false = (decide (x < width) && labelDot fields x (64 * band + j)))
  ∧ (∀ (fields : List Placed) (p : Placed) (x y : Nat),
    labelDot [] x y = false
    ∧ (p.dot x y = false → labelDot (fields ++ [p]) x y = labelDot fields x y)
    ∧ (p.dot x y = true → p.mode = .set → labelDot (fields ++ [p]) x y = true)
    ∧ (p.dot x y = true → p.mode = .invert → labelDot (fields ++ [p]) x y = !labelDot fields x y))
  ∧ (∀ (p : Placed) (x y w h : Nat), p.frame.size = (w, h) → p.rotation ≤ 3 →
    (p.dot x y = true ↔ ∃ u v : Nat, u < w ∧ v < h ∧ p.frame.dot u v = true ∧
      ((x : Int), (y : Int)) =
        match p.rotation with
        | 0 => (p.x + u, p.y + v)
        | 1 => (p.x + (h - 1 - v), p.y + u)
        | 2 => (p.x + (w - 1 - u), p.y + (h - 1 - v))
        | _ => (p.x + v, p.y + (w - 1 - u))))
  ∧ (∀ (s : State) (d : LabelData) (f : Field) (p : Placed), p = s.placeField d f →
    p.x = f.originX + d.shiftX ∧ p.y = f.originY + d.shiftY ∧ p.rotation = f.rotation ∧ p.mode = f.mode
    ∧ (∀ font across along most src chars cells, f.kind = .text font across along most src →
      chars = sourceText d.slots d.values src → cells = chars.length * (fontSize font).cellX * across →
      p.frame.size = (if most = 0 then cells else min cells most, (fontSize font).cellY * along)
      ∧ ∀ u v, p.frame.dot u v =
        match chars[u / ((fontSize font).cellX * across)]? with
        | some c => cellDot font c (u % ((fontSize font).cellX * across) / across) (v / along)
        | none => false)
    ∧ (∀ w h t, f.kind = .box w h t → p.frame.size = (w, h)
      ∧ ∀ u v : Nat, p.frame.dot u v = true ↔ u < t ∨ v < t ∨ (w : Int) - t ≤ u ∨ (h : Int) - t ≤ v)
    ∧ (∀ length t, f.kind = .line length t → p.frame.size = (length, t) ∧ ∀ u v, p.frame.dot u v = true)
    ∧ (∀ n k i, f.kind = .image n k → i = parseImage (s.boundBody d.refs .image n) →
      p.frame.size = (i.width * k, i.height * k)
      ∧ ∀ u v, p.frame.dot u v = imageDot i (u / k) (v / k)))
  ∧ (∀ (slots : List Slot) (values : List Drawn) (src : List SourcePart),
    sourceText slots values src = (src.flatMap fun p => match p with
      | .fixed text => text.map BitVec.toNat
      | .slot n => match slots.find? fun x => decide (x.number = n) with
        | some x => x.text.map BitVec.toNat
        | none => []
      | .counter id => match values.find? fun v => decide (v.counter = id) with
        | some v => counterText v.value v.width v.alphabet
        | none => []).take 64)
  ∧ (∀ (value width digit : Nat) (a : Alphabet) (base : Nat), base = (if a = .decimal then 10 else 36) →
    digit = value % base →
    counterText value 0 a = []
    ∧ counterText value (width + 1) a
      = counterText (value / base) width a ++ [if digit < 10 then 48 + digit else 65 + (digit - 10)])
  ∧ (∀ (i : Image) (col row : Nat) (b : Byte), b = i.rows.getD (row * ((i.width + 7) / 8) + col / 8) 0 →
    imageDot i col row = b.getLsbD (7 - col % 8))
  ∧ (∀ (font code col row : Nat) (f : FontSize), f = fontSize font → font = 1 ∨ font = 2 ∨ font = 3 ∨ font = 4 →
    (f.glyphX, f.glyphY, f.cellX, f.cellY, f.offsetX, f.offsetY)
      = (if font = 1 then (5, 7, 6, 9, 0, 1) else if font = 2 then (8, 12, 10, 14, 0, 1)
        else if font = 3 then (12, 20, 14, 24, 0, 2) else (16, 26, 20, 32, 0, 3))
    ∧ (col < f.offsetX ∨ f.offsetX + f.glyphX ≤ col ∨ row < f.offsetY ∨ f.offsetY + f.glyphY ≤ row →
      cellDot font code col row = false)
    ∧ cellDot font 32 col row = false
    ∧ (code < 32 ∨ 126 < code → cellDot font code col row = cellDot font 63 col row)
    ∧ (32 < code → code ≤ 126 → f.offsetX ≤ col → col < f.offsetX + f.glyphX → f.offsetY ≤ row →
      row < f.offsetY + f.glyphY →
      cellDot font code col row = Config.glyphDot font code (col - f.offsetX) (row - f.offsetY)))
  ∧ ∀ (bars : List (Nat × Nat)) (barHeight left right w h u v : Nat) (chars : List Nat) (frame : Frame),
    frame = .barcode bars barHeight left right chars w h →
    frame.size = (w, h)
    ∧ (v < barHeight → (frame.dot u v = true ↔ ∃ bar ∈ bars, bar.1 ≤ u ∧ u < bar.1 + bar.2))
    ∧ (barHeight ≤ v → u < left ∨ right ≤ u → frame.dot u v = false)
    ∧ (barHeight ≤ v → left ≤ u → u < right →
      frame.dot u v =
        match chars[(u - left) / 6]? with
        | some c => cellDot 1 c ((u - left) % 6) (v - barHeight)
        | none => false)

/-- A barcode is laid out from its symbol table: the element widths of both models; the check value, which under
RIGHT_WEIGHTED brings the weighted sum to a multiple of M; the patterns in the order start, data, check, stop; the
bars, each beginning where the element before it ends and drawn narrower on its right by the reduction, clamped so
that every bar keeps a dot and stays inside the symbol; the frame with its quiet zones and its centred text. The
symbol drawn is no wider than the one checked at binding. The text below the bars is the data, followed by the check
character where there is a rule and the table shows it. -/
def Obligations.BarcodeIsLaidOutFromItsTable : Prop :=
  (∀ (m ratio element : Nat),
    (element ≠ 2 → elementWidth 1 m ratio element = m)
    ∧ elementWidth 1 m ratio 2 = max (m + 1) ((m * ratio + 5) / 10)
    ∧ ∀ model, model ≠ 1 → elementWidth model m ratio element = element * m)
  ∧ (∀ (t : SymbolTable) (data values : List Nat), values = t.dataValues data →
    (∀ (i c : Nat) (e : TableEntry), data[i]? = some c → t.byCode c = some e → values[i]? = some e.value)
    ∧ (t.rule = .none → t.checkValue data = none)
    ∧ (t.rule = .rightWeighted → 0 < t.modulus → ∃ v, t.checkValue data = some v ∧ v < t.modulus
      ∧ (v + rightWeighted t.weightA t.weightB values) % t.modulus = 0)
    ∧ (t.rule = .leftPositional → t.checkValue data = some (leftPositional t.startConstant values % t.modulus)))
  ∧ (∀ (wA wB k0 v : Nat) (values : List Nat), rightWeighted wA wB [] = 0 ∧ leftPositional k0 [] = k0
    ∧ rightWeighted wA wB (values ++ [v]) = v * wA + rightWeighted wB wA values
    ∧ leftPositional k0 (values ++ [v]) = leftPositional k0 values + v * (values.length + 1))
  ∧ (∀ (t : SymbolTable) (data : List Nat), (t.patterns data).head? = some t.start
    ∧ (t.patterns data).getLast? = some t.stop
    ∧ (∀ (i c : Nat) (e : TableEntry), data[i]? = some c → t.byCode c = some e →
      (t.patterns data)[i + 1]? = some e.elements)
    ∧ (t.rule = .none → (t.patterns data).length = data.length + 2)
    ∧ ∀ (v : Nat) (e : TableEntry), t.checkValue data = some v → t.byValue v = some e →
      (t.patterns data).length = data.length + 3 ∧ (t.patterns data)[data.length + 1]? = some e.elements)
  ∧ (∀ (model m ratio reduction gap left element : Nat) (elements pattern : List Nat) (patterns : List (List Nat)),
    patternBars model m ratio reduction true left [] = [] ∧ symbolBars model m ratio reduction gap left [] = []
    ∧ patternBars model m ratio reduction true left (elements ++ [element])
      = patternBars model m ratio reduction true left elements
        ++ (if elements.length % 2 = 0 then
              [(left + (elements.map (elementWidth model m ratio)).sum, elementWidth model m ratio element - reduction)]
            else [])
    ∧ symbolBars model m ratio reduction gap left (patterns ++ [pattern])
      = symbolBars model m ratio reduction gap left patterns
        ++ patternBars model m ratio reduction true
            (left + (patterns.map fun p => (p.map (elementWidth model m ratio)).sum).sum + patterns.length * gap) pattern)
  ∧ (∀ (model m ratio reduction gap left : Nat) (patterns : List (List Nat)), 1 ≤ m →
    (∀ p ∈ patterns, ∀ e ∈ p, 1 ≤ e) → ∀ bar ∈ symbolBars model m ratio (clampReduction reduction m) gap left patterns,
      1 ≤ bar.2 ∧ left ≤ bar.1
      ∧ bar.1 + bar.2 ≤ left + symbolWidth gap (patterns.map (patternWidth model m ratio)))
  ∧ (∀ (t : SymbolTable) (m ratio : Nat) (data : List Nat) (can : List CanProduce),
    List.Forall₂ (fun c p => p = .known c ∨ ∃ a, p = .any a ∧ c ∈ alphabetChars a) data can →
    symbolWidth (t.gap * m) ((t.patterns data).map (patternWidth t.model m ratio))
      ≤ symbolWidth (t.gap * m) (t.assumedWidths m ratio can))
  ∧ (∀ (s : State) (d : LabelData) (f : Field) (n m barHeight ratio reduction quiet most symbol : Nat) (readable : Bool)
    (src : List SourcePart) (t : SymbolTable) (data chars : List Nat),
    f.kind = .barcode n m barHeight ratio reduction quiet readable most src →
    t = parseTable (s.boundBody d.refs .table n) → data = sourceText d.slots d.values src →
    symbol = symbolWidth (t.gap * m) ((t.patterns data).map (patternWidth t.model m ratio)) →
    chars = (if readable = true then t.readableText data else []) →
    s.fieldFrame d f
      = .barcode (symbolBars t.model m ratio (min reduction (m - 1)) (t.gap * m) (quiet * m) (t.patterns data)) barHeight
          (quiet * m + (symbol - 6 * chars.length) / 2) (quiet * m + symbol) chars (symbol + 2 * (quiet * m))
          (barHeight + if readable = true then 9 else 0))
  ∧ ∀ (t : SymbolTable) (data : List Nat) (v : Nat) (e : TableEntry),
    (t.rule = .none ∨ t.shown = false → t.readableText data = data)
    ∧ (t.shown = true → t.checkValue data = some v → t.byValue v = some e → t.readableText data = data ++ [e.code])

/-! ## The Burn Controller (chapter 7) -/

/-- A label start: the label values of the oldest ticket are fixed from its format, from its job or the last-label
record, and from the settings that stand; the derating count is taken first, rising by 1 at 65 °C or above unless the
label's speed is already at the floor, falling to 0 at 60 °C or below, and standing between; the history is cleared,
the last line end none and the label's stretched lines 0. The model's choices in it: log entries 28, 29. -/
def Obligations.LabelValuesAreFixedAtLabelStart : Prop :=
  ∀ (s : State) (t : Ticket) (rest : List Ticket) (offset : Int) (override base : Nat),
    s.queue.tickets = t :: rest →
    ((∃ tag j, t.key.source = some tag ∧ s.queue.job tag = some j ∧ offset = j.items.darkness ∧ override = j.items.speed)
      ∨ ∃ l, t.key.source = none ∧ s.queue.last = some l ∧ offset = l.darkness ∧ override = l.speed) →
    base = (if override = 0 then (s.ticketFormat t).speed else override) →
    ∃ v : LabelValues, s.startLabel.burn.values = some v
      ∧ (v.darkness : Int) = max 0 (min 30 ((s.ticketFormat t).darkness + offset))
      ∧ v.speed = max 50 (base - 25 * s.startLabel.burn.derating) ∧ v.period = 1000000 / (8 * v.speed)
      ∧ v.leftOffset = s.battery.settings.leftOffset ∧ v.presentDistance = s.battery.settings.presentDistance
      ∧ v.h1 = s.battery.settings.h1 ∧ v.h2 = s.battery.settings.h2 ∧ v.h3 = s.battery.settings.h3
      ∧ (65 ≤ s.burn.theta → 50 < base - 25 * s.burn.derating →
        s.startLabel.burn.derating = s.burn.derating + 1)
      ∧ (65 ≤ s.burn.theta → base - 25 * s.burn.derating ≤ 50 → s.startLabel.burn.derating = s.burn.derating)
      ∧ (s.burn.theta ≤ 60 → s.startLabel.burn.derating = 0)
      ∧ (60 < s.burn.theta → s.burn.theta < 65 → s.startLabel.burn.derating = s.burn.derating)
      ∧ s.startLabel.burn.previous = [] ∧ s.startLabel.burn.before = [] ∧ s.startLabel.burn.lastLineEnd = none
      ∧ s.startLabel.burn.stretchedLabel = 0 ∧ s.startLabel.burn.stretchedLast = s.burn.stretchedLast
      ∧ s.startLabel.burn.stretchedTotal = s.burn.stretchedTotal

/-- At each line start that passes its checks the line's class-0 pulse is computed in its three stages, each rounded
down, from the label's darkness and the temperature and supply that stand; each on dot takes the entry of its history
class, one off in both lines the whole pulse; and the pulses stay in their limits, no dot's longer than the class-0
pulse. A supply below 180 holds the line before any pulse is computed. The default entries are 14, 12 and 10. -/
def Obligations.PulsesOfALineAreComputed : Prop :=
  (∀ (s : State) (n i c w : Nat) (t : Ticket) (v : LabelValues) (b : Burn), s.printing = some t →
    s.burn.values = some v → s.lineBuffer t n = some i → s.burn.theta < 75 → b = s.burn.afterStop s.now →
    (c : Int) = max 0 (min 60 s.burn.theta) → w = max 200 (min 260 s.burn.supply) →
    (s.burn.supply < 180 → (s.lineStart n).burn.line = s.burn.line)
    ∧ (180 ≤ s.burn.supply → ∃ l : LineInHand, (s.lineStart n).burn.line = some l
      ∧ l.p0 = (200 + 10 * v.darkness) * (1250 - 10 * c) / 1000 * 57600 / (w * w)
      ∧ (∀ d ∈ l.dots,
        (d.dot ∉ b.previous → d.dot ∉ b.before → d.pulse = l.p0)
        ∧ (d.dot ∉ b.previous → d.dot ∈ b.before → d.pulse = l.p0 * v.h1 / 16)
        ∧ (d.dot ∈ b.previous → d.dot ∉ b.before → d.pulse = l.p0 * v.h2 / 16)
        ∧ (d.dot ∈ b.previous → d.dot ∈ b.before → d.pulse = l.p0 * v.h3 / 16))
      ∧ (v.darkness ≤ 30 → 110 ≤ l.p0 ∧ l.p0 ≤ 900
        ∧ ((∀ h ∈ [v.h1, v.h2, v.h3], 4 ≤ h ∧ h ≤ 16) → ∀ d ∈ l.dots, 27 ≤ d.pulse ∧ d.pulse ≤ l.p0))))
  ∧ Settings.default.h1 = 14 ∧ Settings.default.h2 = 12 ∧ Settings.default.h3 = 10

/-- A line start that fails a check puts the engine in HOLD with the reasons that failed, sets their sticky flags, and
loads nothing. One that passes loads the line: its dots through the print window with their pulses by class, its
phases and its duration; the buffer BURNING at a band's first line, the burned flag set at line 0. After a stop of 20
ms or more the history is cold. -/
def Obligations.LineStartHoldsOrLoads : Prop :=
  ∀ (s : State) (n : Nat) (t : Ticket) (v : LabelValues), s.printing = some t → s.burn.values = some v →
    (∀ reasons : Holds,
      reasons = { underrun := (s.lineBuffer t n).isNone, heat := decide (75 ≤ s.burn.theta),
                  supply := decide (s.burn.supply < 180) } →
      reasons.underrun = true ∨ reasons.heat = true ∨ reasons.supply = true →
      (s.lineStart n).media.engine = .hold ∧ (s.lineStart n).media.holds = reasons
      ∧ (s.lineStart n).media.labelLine = s.media.labelLine
      ∧ (s.lineStart n).sticky = { s.sticky with
          heatHoldSeen := s.sticky.heatHoldSeen || reasons.heat
          supplyHoldSeen := s.sticky.supplyHoldSeen || reasons.supply
          underrunSeen := s.sticky.underrunSeen || reasons.underrun }
      ∧ (s.lineStart n).burn = { s.burn with supplyRun := if reasons.supply = true then 0 else s.burn.supplyRun }
      ∧ (s.lineStart n).queue = s.queue ∧ (s.lineStart n).render = s.render)
    ∧ ∀ (i p0 phases : Nat) (b : Burn) (buffer : Buffer) (dots : List Nat), s.lineBuffer t n = some i →
      s.burn.theta < 75 → 180 ≤ s.burn.supply → b = s.burn.afterStop s.now →
      buffer = s.render.buffers.getD i Buffer.empty →
      dots = windowDots (buffer.dots.getD (n % 64) []) (s.ticketFormat t).width v.leftOffset →
      p0 = pulseZero v.darkness s.burn.theta s.burn.supply → phases = phaseCount dots.length →
      (∀ dot, dot ∈ dots ↔ dot < 832 ∧ v.leftOffset ≤ dot ∧ dot - v.leftOffset < (s.ticketFormat t).width
        ∧ (buffer.dots.getD (n % 64) []).getD (dot - v.leftOffset) false = true)
      ∧ dots.Pairwise (· < ·)
      ∧ (b = if (∃ e, s.burn.lastLineEnd = some e ∧ 20000 ≤ s.now - e) then { s.burn with previous := [], before := [] }
        else s.burn)
      ∧ s.lineStart n = { s with
        burn := { b with
          line := some
            { number := n, p0 := p0, phases := phases, duration := max v.period (phases * p0 + 60), started := s.now
              dots := dots.map fun dot =>
                { dot := dot, pulse := p0 * v.entry (b.previous.contains dot) (b.before.contains dot) / 16 }
              stage := .loading } }
        render := if n % 64 = 0 then s.render.setBuffer i { buffer with state := .burning } else s.render
        queue := if n = 0 then s.queue.updateTicket t.key fun k => { k with burned := true } else s.queue
        media := { s.media with labelLine := .burning n } }

/-- The stages of a line: loading ends after 60 µs and frees the buffer of a band whose last line it is; each phase
ends P0 after it began; and the line ends with its duration: the history moves on, a stretched line is counted, and
the motor's step off it falls due. The on dots are split over the phases from the left, 256 in each phase but the
last, which holds the rest, from 1 to 256. In a phase each of its dots, and no other, is driven from the phase's start
for its own pulse; while the line loads or waits, none is. The model's choices in it: log entries 1, 2, 22. -/
def Obligations.LineGoesThroughItsStages : Prop :=
  ∀ (s u : State) (l : LineInHand), s.settle = u → u.mode = .running → u.burn.line = some l →
    (∀ w : State, l.stage = .loading →
      w = { u with
        now := max u.now (l.started + 60)
        burn := { u.burn with line := some { l with stage := if l.phases = 0 then .waiting else .phase 1 } } } →
      (∀ t, u.printing = some t → lastOfBand l.number (t.length.getD 0) = false → exec .loadingEnd s = .next w)
      ∧ ∀ (t : Ticket) (i : Nat), u.printing = some t → lastOfBand l.number (t.length.getD 0) = true →
        u.lineBuffer t l.number = some i →
        exec .loadingEnd s = .next (State.renderNext { w with render := u.render.setBuffer i Buffer.empty }))
    ∧ (∀ k, l.stage = .phase k →
      exec .strobePhaseEnd s = .next
        { u with
          now := max u.now (l.started + 60 + k * l.p0)
          burn := { u.burn with line := some { l with stage := if k < l.phases then .phase (k + 1) else .waiting } } })
    ∧ (∀ (v : LabelValues) (ended more : Nat), l.stage = .waiting → u.burn.values = some v →
      ended = max u.now (l.started + l.duration) → more = (if v.period < l.phases * l.p0 + 60 then 1 else 0) →
      exec .lineEnd s = .next
        { u with
          now := ended
          burn := { u.burn with
            before := u.burn.previous
            previous := l.dots.map DotPulse.dot
            lastLineEnd := some ended
            line := none
            stretchedLabel := u.burn.stretchedLabel + more
            stretchedTotal := min 65535 (u.burn.stretchedTotal + more) }
          media := { u.media with
            labelLine := .stepping l.number
            motion := u.media.motion.map fun m => { m with due := ended } } })
    ∧ (l.phases = phaseCount l.dots.length →
      ((List.range l.phases).flatMap fun k => l.phaseDots (k + 1)) = l.dots
      ∧ (∀ k, 1 ≤ k → k < l.phases → (l.phaseDots k).length = 256)
      ∧ (1 ≤ l.phases → 1 ≤ (l.phaseDots l.phases).length ∧ (l.phaseDots l.phases).length ≤ 256))
    ∧ (∀ k dot, l.stage = .phase k →
      (dot ∈ u.driven ↔ ∃ d ∈ l.phaseDots k, d.dot = dot ∧ u.now < l.started + 60 + (k - 1) * l.p0 + d.pulse))
    ∧ (l.stage = .loading ∨ l.stage = .waiting → u.driven = [])
    ∧ (l.stage ≠ .loading → exec .loadingEnd s = .next u)
    ∧ ((∀ k, l.stage ≠ .phase k) → exec .strobePhaseEnd s = .next u)
    ∧ (l.stage ≠ .waiting → exec .lineEnd s = .next u)

/-- A head sample sets the temperature and the supply, 10 ms after the one before. Outside -20 to 100 °C it raises
HEAD_FAULT, once start-up has reached its engine step; back inside it clears that fault, which leaves FAULT on its
path where auto-resume is on and no condition stays, and takes the cause alone away otherwise; then at 60 °C or below
it clears a standing HEAT, in HOLD or set aside, and with no reason left printing goes on; while SUPPLY stands it
counts the run of samples of 20 V or more, and a run of 11 clears SUPPLY. The model's choices in it: log entries 1, 2,
3, 23, 24. -/
def Obligations.HeadSampleSetsFiguresAndReasons : Prop :=
  (∀ (theta : Int) (supply : Nat) (s u w : State), s.settle = u → u.mode = .running → u.burn.sensorFault = false →
    w = { u with
      now := max u.now (u.burn.lastSample + 10000)
      burn := { u.burn with
        theta := theta, supply := supply, lastSample := max u.now (u.burn.lastSample + 10000) } } →
    (-20 ≤ theta → theta ≤ 100 → u.media.engine ≠ .hold → u.media.engine ≠ .fault →
      exec (.headSample theta supply) s = .next w)
    ∧ (theta < -20 ∨ 100 < theta → u.media.holds.supply = false → u.media.setAside.supply = false →
      ∃ t, exec (.headSample theta supply) s = .next t ∧ t.media.engine = .fault ∧ t.media.causes.headFault = true
        ∧ t.burn.sensorFault = true ∧ t.burn.theta = theta ∧ t.burn.supply = supply ∧ t.burn.line = none
        ∧ t.flash = u.flash ∧ t.battery = u.battery ∧ t.store = u.store ∧ t.line = u.line)
    ∧ (-20 ≤ theta → theta ≤ 60 → u.media.engine = .hold → u.media.holds = ⟨true, true, false⟩ →
      exec (.headSample theta supply) s = .next { w with media := { u.media with holds := ⟨true, false, false⟩ } })
    ∧ (-20 ≤ theta → theta ≤ 60 → u.media.engine = .hold → u.media.holds = ⟨false, true, false⟩ →
      exec (.headSample theta supply) s = .next w.resumePrinting)
    ∧ (-20 ≤ theta → theta ≤ 100 → u.media.engine = .hold → u.media.holds.heat = false →
      u.media.holds.supply = true →
      exec (.headSample theta supply) s = .next
        { w with
          burn := { w.burn with supplyRun := if 200 ≤ supply then min 11 (u.burn.supplyRun + 1) else 0 } })
    ∧ (∀ underrun, -20 ≤ theta → theta ≤ 60 → u.media.engine = .hold → u.media.holds = ⟨underrun, true, true⟩ →
      exec (.headSample theta supply) s = .next
        { w with
          burn := { w.burn with supplyRun := if 200 ≤ supply then min 11 (u.burn.supplyRun + 1) else 0 }
          media := { u.media with holds := ⟨underrun, false, true⟩ } }))
  ∧ (∀ (theta : Int) (supply : Nat) (s u w : State), s.settle = u →
    w = { u with
      now := max u.now (u.burn.lastSample + 10000)
      burn := { u.burn with
        theta := theta, supply := supply, lastSample := max u.now (u.burn.lastSample + 10000) } } →
    (u.mode = .running ∨ (∃ step, u.mode = .startUp step) →
      exec (.headSample theta supply) s
        = .next (State.checkEngineStep (((w.judgeSensor theta).judgeHeat theta).countSupply supply)))
    ∧ (u.mode ≠ .running → (∀ step, u.mode ≠ .startUp step) → exec (.headSample theta supply) s = .next u))
  ∧ (∀ (s v : State) (theta : Int) (supply : Nat) (causes : Causes) (inRange : Prop),
    (inRange ↔ -20 ≤ theta ∧ theta ≤ 100) → causes = { s.media.causes with headFault := false } →
    ((inRange ↔ s.burn.sensorFault = false) → s.judgeSensor theta = s)
    ∧ (¬ inRange → s.burn.sensorFault = false → v = { s with burn := { s.burn with sensorFault := true } } →
      (s.mode = .running ∨ (∃ step, s.mode = .startUp step ∧ ∀ c, step ≠ .scan c) →
        s.judgeSensor theta = v.addCause ⟨false, false, false, true⟩)
      ∧ ((∃ c, s.mode = .startUp (.scan c)) → s.judgeSensor theta = v))
    ∧ (inRange → s.burn.sensorFault = true → v = { s with burn := { s.burn with sensorFault := false } } →
      (s.media.causes.headFault = false → s.judgeSensor theta = v)
      ∧ (s.media.causes.headFault = true →
        (s.media.engine = .fault → s.battery.settings.autoResume = true → causes.condition = false →
          s.mode = .running →
          s.judgeSensor theta
            = { v.faultPath with media := { v.faultPath.media with causes := causes } })
        ∧ (s.media.engine ≠ .fault ∨ s.battery.settings.autoResume = false ∨ causes.condition = true
            ∨ s.mode ≠ .running →
          s.judgeSensor theta = v.tracked { s.media with causes := causes })))
    ∧ (60 < theta ∨ theta < -20 → s.judgeHeat theta = s)
    ∧ (-20 ≤ theta → theta ≤ 60 →
      (s.media.engine = .hold → s.media.holds.heat = true →
        (s.media.holds = ⟨false, true, false⟩ → s.judgeHeat theta = s.resumePrinting)
        ∧ (s.media.holds ≠ ⟨false, true, false⟩ → s.judgeHeat theta
          = { s with media := { s.media with holds := { s.media.holds with heat := false } } }))
      ∧ (s.media.engine = .hold → s.media.holds.heat = false → s.judgeHeat theta = s)
      ∧ (s.media.engine = .fault → s.judgeHeat theta
        = { s with media := { s.media with setAside := { s.media.setAside with heat := false } } })
      ∧ (s.media.engine ≠ .hold → s.media.engine ≠ .fault → s.judgeHeat theta = s))
    ∧ ((s.media.engine = .hold ∧ s.media.holds.supply = true)
        ∨ (s.media.engine = .fault ∧ s.media.setAside.supply = true) →
      s.countSupply supply = { s with
        burn := { s.burn with supplyRun := if 200 ≤ supply then min 11 (s.burn.supplyRun + 1) else 0 } })
    ∧ ((s.media.engine = .hold → s.media.holds.supply = false) →
      (s.media.engine = .fault → s.media.setAside.supply = false) → s.countSupply supply = s))
  ∧ ∀ s u : State, s.grantRoom = u → u.media.engine = .hold → u.media.holds.supply = true →
    (u.burn.supplyRun < 11 → exec .supplyCleared s = .next u)
    ∧ (11 ≤ u.burn.supplyRun → u.media.holds.underrun = true ∨ u.media.holds.heat = true →
      exec .supplyCleared s = .next
        { u with
          burn := { u.burn with supplyRun := 0 }
          media := { u.media with holds := { u.media.holds with supply := false } } })
    ∧ (11 ≤ u.burn.supplyRun → u.media.holds.underrun = false → u.media.holds.heat = false →
      exec .supplyCleared s = .next (State.resumePrinting { u with burn := { u.burn with supplyRun := 0 } }))

/-! ## The Media Tracker (chapter 8) -/

/-- A motor step where none may be made changes nothing. Otherwise it moves the motion and the gap run on by a line,
and on calibrated GAP or MARK media the edge distance with its high mark, forward or backward; the next step falls due
1,250 µs later. In a motion that judges edges, at 17 lines past the pitch, on a new high mark, a missed gap falls due.
A FEED on CONTINUOUS media ends with its last line; the others, and the feeds that have found their edges, end at a
label top; a presentation and a backfeed with their last line, the label OUT at the distance fed, or NONE. A seeking
feed leaves the edge distance; its edge is the reference, and may itself be the label top; a calibration measures the
gap and the pitch, writes them with the table check, and fails at a pitch outside 16 to 4,100. The step off a line of
the PRINTING label brings the next line start; off the last one the label feeds on to the label top at its line
period, and completes: the Job Queue's completion, then the presentation. The model's choices in it: log entries 1, 2,
14, 30, 31, 47. -/
def Obligations.MotorStepMovesTheTracker : Prop :=
  (∀ (gap : Bool) (s u w : State) (m : Motion) (p : Int), s.settle = u → u.mode = .running → u.media.motion = some m →
    p = u.battery.settings.pitch →
    w = { u with now := max u.now m.due, lines := { u.lines with gap := gap } } →
    (u.canStep = false → exec (.motorStep gap) s = .next u)
    ∧ (u.canStep = true →
      (∀ k run, m.kind = .feedLines (k + 1) → u.battery.settings.registered = false →
        run = (if gap = true then min 161 (u.media.gapRun + 1) else 0) → run ≤ 160 →
        (k ≠ 0 → exec (.motorStep gap) s = .next
          { w with
            media := { u.media with
              motion := some { m with kind := .feedLines k, due := w.now + 1250 }, gapRun := run } })
        ∧ (k = 0 → m.forLabel = false → exec (.motorStep gap) s = .next
          (State.beginOrRest { w with media := { u.media with motion := none, gapRun := run } })))
      ∧ (m.kind = .feedTop → u.battery.settings.registered = true → gap = false → u.media.d + 1 < p + 17 →
        (u.media.d + 1 - (128 + u.battery.settings.gapLength)) % p ≠ 0 →
        exec (.motorStep gap) s = .next
          { w with
            media := { u.media with
              motion := some { m with due := w.now + 1250 }
              gapRun := 0
              d := u.media.d + 1
              high := max u.media.high (u.media.d + 1) } })
      ∧ (∀ k, m.kind = .backfeed (k + 2) →
        exec (.motorStep gap) s = .next
          { w with
            media := { u.media with
              motion := some { m with kind := .backfeed (k + 1), due := w.now + 1250 }
              d := if u.battery.settings.registered = true then u.media.d - 1 else u.media.d
              high := if u.battery.settings.registered = true then max u.media.high (u.media.d - 1)
                else u.media.high } })
      ∧ (m.kind.judges = true → u.battery.settings.registered = true → u.media.high < u.media.d + 1 →
        p + 17 ≤ u.media.d + 1 →
        exec (.motorStep gap) s = .next
          { w with
            media := { u.media with
              motion := some { m with kind := m.kind.advance }
              gapRun := if gap = true then min 161 (u.media.gapRun + 1) else 0
              d := u.media.d + 1
              high := max u.media.high (u.media.d + 1)
              due := some (.missedGap (gap && !u.lines.gap) (!gap && u.lines.gap)) } })))
  ∧ (∀ (gap : Bool) (s u w : State) (m : Motion) (p : Int) (run : Nat) (reg atTop : Bool) (x : MotionKind → State),
    s.settle = u → u.mode = .running → u.media.motion = some m → u.canStep = true → p = u.battery.settings.pitch →
    w = { u with now := max u.now m.due, lines := { u.lines with gap := gap } } →
    reg = u.battery.settings.registered →
    run = (if gap = true then min 161 (u.media.gapRun + 1) else 0) → run ≤ 160 → gap = false ∨ u.lines.gap = true →
    reg = false ∨ u.media.d + 1 ≤ u.media.high ∨ u.media.d + 1 < p + 17 →
    (∀ kind, x kind = { w with
      media := { u.media with
        motion := some { m with kind := kind }
        gapRun := run
        d := if reg = true then u.media.d + 1 else u.media.d
        high := if reg = true then max u.media.high (u.media.d + 1) else u.media.high } }) →
    (atTop = true ↔ (u.media.d + 1 - (128 + u.battery.settings.gapLength)) % p = 0) →
    (∀ (t : Ticket) (v : LabelValues), m.kind = .label → u.printing = some t → u.burn.values = some v →
      (∀ n, u.media.labelLine = .stepping n → n + 1 < t.length.getD 0 →
        exec (.motorStep gap) s
          = .next (State.lineStart (n + 1)
              { x .label with media := { (x .label).media with labelLine := .standing (n + 1) } }))
      ∧ ((∃ n, u.media.labelLine = .stepping n ∧ t.length.getD 0 ≤ n + 1) ∨ u.media.labelLine = .tail →
        (reg = true → atTop = false →
          exec (.motorStep gap) s = .next
            { x .label with
              media := { (x .label).media with
                labelLine := .tail, motion := some { m with due := w.now + v.period } } })
        ∧ (reg = false ∨ atTop = true → exec (.motorStep gap) s = .next (x .label).completeLabel)))
    ∧ (∀ left fed, m.kind = .present (left + 1) fed → m.forLabel = false →
      (left ≠ 0 →
        exec (.motorStep gap) s = .next
          { x m.kind with
            media := { (x m.kind).media with
              motion := some { m with kind := .present left (fed + 1), due := w.now + 1250 } } })
      ∧ (left = 0 →
        exec (.motorStep gap) s = .next
          (State.beginOrRest
            { x m.kind with media := { (x m.kind).media with motion := none, out := some (fed + 1) } })))
    ∧ (m.kind = .resyncRun ∨ m.kind = .recoveryRun ∨ m.kind = .calibrateRun ∨ m.kind = .feedTop → reg = true →
      (atTop = false →
        exec (.motorStep gap) s = .next
          { x m.kind with media := { (x m.kind).media with motion := some { m with due := w.now + 1250 } } })
      ∧ (atTop = true → m.forLabel = false →
        exec (.motorStep gap) s
          = .next (State.beginOrRest { x m.kind with media := { (x m.kind).media with motion := none } }))
      ∧ (atTop = true → m.forLabel = true →
        exec (.motorStep gap) s
          = .next (State.settleStart { x m.kind with media := { (x m.kind).media with motion := none } })))
    ∧ ∀ fed good, m.kind = .recoveryJudge fed good → fed + 1 < 8 * u.battery.settings.pitch →
      exec (.motorStep gap) s = .next
        { x m.kind with
          media := { (x m.kind).media with
            motion := some { m with kind := .recoveryJudge (fed + 1) good, due := w.now + 1250 } } })
  ∧ (∀ (gap : Bool) (s u w x : State) (m : Motion), s.settle = u → u.mode = .running → u.media.motion = some m →
    u.canStep = true → m.kind = .backfeed 1 →
    w = { u with now := max u.now m.due, lines := { u.lines with gap := gap } } →
    x = { w with
      media := { u.media with
        motion := none
        out := none
        d := if u.battery.settings.registered = true then u.media.d - 1 else u.media.d
        high := if u.battery.settings.registered = true then max u.media.high (u.media.d - 1) else u.media.high } } →
    exec (.motorStep gap) s = .next (if m.forLabel = true then x.prelimCalibrate else x.beginOrRest))
  ∧ (∀ (gap edge fell : Bool) (s u w x : State) (m : Motion) (pitch run : Nat) (next : MotionKind → Motion),
    s.settle = u → u.mode = .running → u.media.motion = some m → u.canStep = true →
    pitch = u.battery.settings.pitch → w = { u with now := max u.now m.due, lines := { u.lines with gap := gap } } →
    run = (if gap = true then min 161 (u.media.gapRun + 1) else 0) → run ≤ 160 →
    x = { w with media := { u.media with gapRun := run } } → edge = (gap && !u.lines.gap) → fell = (!gap && u.lines.gap) →
    (∀ kind, next kind = { m with kind := kind, due := w.now + 1250 }) →
    (∀ fed, m.kind = .resyncSeek fed →
      (edge = false → fed + 1 < 2 * pitch →
        exec (.motorStep gap) s
          = .next { x with media := { x.media with motion := some (next (.resyncSeek (fed + 1))) } })
      ∧ (edge = false → 2 * pitch ≤ fed + 1 →
        exec (.motorStep gap) s = .next
          { x with
            media := { x.media with
              motion := some { m with kind := .resyncSeek (fed + 1) }, due := some .resyncNoEdge } })
      ∧ (edge = true → (128 + u.battery.settings.gapLength) % pitch ≠ 0 →
        exec (.motorStep gap) s
          = .next { x with media := { x.media with motion := some (next .resyncRun), d := 0, high := 0 } })
      ∧ (edge = true → (128 + u.battery.settings.gapLength) % pitch = 0 → ∀ y : State,
        y = { x with media := { x.media with motion := none, d := 0, high := 0 } } →
        exec (.motorStep gap) s = .next (if m.forLabel = true then y.settleStart else y.beginOrRest)))
    ∧ (∀ fed, m.kind = .recoverySeek fed → fed + 1 < 8 * pitch →
      (edge = false →
        exec (.motorStep gap) s
          = .next { x with media := { x.media with motion := some (next (.recoverySeek (fed + 1))) } })
      ∧ (edge = true →
        exec (.motorStep gap) s = .next
          { x with media := { x.media with motion := some (next (.recoveryJudge (fed + 1) 0)), d := 0, high := 0 } }))
    ∧ (∀ fed, m.kind = .calibrateSeek fed → fed + 1 < 8200 →
      exec (.motorStep gap) s = .next
        { x with
          media := { x.media with
            motion := some (next (if edge = true then .calibrateGap (fed + 1) 0 else .calibrateSeek (fed + 1))) } })
    ∧ (∀ fed since, m.kind = .calibrateGap fed since → fed + 1 < 8200 →
      exec (.motorStep gap) s = .next
        { x with
          media := { x.media with
            motion := some (next (if fell = true then .calibratePitch (fed + 1) (since + 1) (since + 1)
              else .calibrateGap (fed + 1) (since + 1))) } })
    ∧ ∀ fed since length, m.kind = .calibratePitch fed since length →
      (edge = false → fed + 1 < 8200 →
        exec (.motorStep gap) s
          = .next { x with media := { x.media with motion := some (next (.calibratePitch (fed + 1) (since + 1) length)) } })
      ∧ (edge = true → 16 ≤ since + 1 → since + 1 ≤ 4100 → (128 + length) % (since + 1) ≠ 0 →
        ∃ y : State,
          y = State.printableChanged { x with
            battery := Battery.checked
              { u.battery with settings := { u.battery.settings with pitch := since + 1, gapLength := length } }
            media := { x.media with
              d := 0, high := 0, count := 0, event := .calibrated
              causes := if m.forRecovery = true then { u.media.causes with mediaLost := false } else u.media.causes
              motion := some { m with kind := .calibrateRun } } }
          ∧ exec (.motorStep gap) s
            = .next { y with media := { y.media with motion := some (next .calibrateRun) } })
      ∧ (edge = true → 16 ≤ since + 1 → since + 1 ≤ 4100 → (128 + length) % (since + 1) = 0 → ∀ y z : State,
          y = State.printableChanged { x with
            battery := Battery.checked
              { u.battery with settings := { u.battery.settings with pitch := since + 1, gapLength := length } }
            media := { x.media with
              d := 0, high := 0, count := 0, event := .calibrated
              causes := if m.forRecovery = true then { u.media.causes with mediaLost := false } else u.media.causes
              motion := some { m with kind := .calibrateRun } } } →
          z = { y with media := { y.media with motion := none } } →
          exec (.motorStep gap) s = .next (if m.forLabel = true then z.settleStart else z.beginOrRest))
      ∧ (edge = true → since + 1 < 16 ∨ 4100 < since + 1 →
        ∃ t, exec (.motorStep gap) s = .next t ∧ t.media.engine = .fault ∧ t.media.causes.mediaLost = true
          ∧ t.media.count = 256 ∧ t.media.event = .lost ∧ t.media.motion = none ∧ t.battery = u.battery))
  ∧ (∀ (y z : State) (t : Ticket) (v : LabelValues), y.printing = some t → y.burn.values = some v →
    z = { y with
      burn := { y.burn with stretchedLast := y.burn.stretchedLabel }
      media := { y.media with
        event := if y.media.goodSeen = true ∧ y.media.badSeen = false then .none else y.media.event
        motion := none
        labelLine := .none } } →
    y.completeLabel = (z.completeTicket t).afterCompletion v.presentDistance)
  ∧ ∀ (z : State) (t : Ticket) (left : List Ticket), left = (z.queue.tickets.filter fun k => decide (k.key ≠ t.key)) →
    (t.key.source = none → z.completeTicket t = State.boundary { z with queue := { z.queue with tickets := left } })
    ∧ ∀ (tag : Nat) (j : Job) (settled final done : Bool), t.key.source = some tag → z.queue.job tag = some j →
      final = decide (t.key.copy = j.items.copies) → settled = (final || j.cancelled) →
      (done = true ↔ (∀ k ∈ left, k.key.source ≠ some tag) ∧ j.openGroup = none
        ∧ (j.cancelled = true ∨ j.items.quantity < j.nextLabel)) →
      z.completeTicket t = State.boundary { z with
        battery := if settled = true then
            z.battery.withCounters (confirmGroup tag t.key.label z.battery.counters)
          else z.battery
        store := z.store.replace j.entries ((z.queue.last.map LastLabel.entries).getD [])
        queue :=
          { jobs := z.queue.jobs.map fun (k : Job) =>
              if k.items.tag = tag then
                { k with
                  labelsCompleted := k.labelsCompleted + 1
                  labelsClipped := k.labelsClipped + if t.clipped = true then 1 else 0
                  groupsCompleted := k.groupsCompleted + if final = true then 1 else 0
                  state := if done = true then .ending else k.state
                  outcome := if done = true then some (if j.cancelled = true then .cancelled else .done)
                    else k.outcome }
              else k
            tickets := left
            last := some
              { tag := tag, label := t.key.label, copies := j.items.copies, entries := j.entries
                slots := j.items.slots, shiftX := j.items.shiftX, shiftY := j.items.shiftY
                darkness := j.items.darkness, speed := j.items.speed, values := t.values }
            reprint := z.queue.reprint
            ending := if done = true then z.queue.ending ++ [tag] else z.queue.ending } }

/-- What a motor step leads to (R161, R163, R165 to R168). In the motions that judge edges, an edge that passes the
high mark is judged, and one at or below it is not; a calibration's last run and the seeking feeds judge none. After
the judgement come the limit of the feed, a media out in forward motion where the gap run has passed 160, and the
arrival, in that order. The arrival: a label's next line start, its tail at the line period, or its completion; the
end at a label top of the feeds that have found their edges; the last line of a feed by lines, of a presentation with
the label OUT, and of a backfeed with it NONE; the next step 1,250 µs later otherwise. A motion made for a label start
goes back to it, another ends in a label start or in rest. An edge that is the reference of a FEED may itself be the
label top it ends at. The model's choices in it: log entries 2, 14, 25, 30, 31, 47. -/
def Obligations.StepIsJudgedAndArrives : Prop :=
  (∀ (k : MotionKind) (n fed run : Nat),
    (k.judges = true ↔ k = .label ∨ k = .feedTop ∨ (∃ n, k = .feedLines n) ∨ (∃ n fed, k = .present n fed)
      ∨ k = .resyncRun ∨ (∃ fed run, k = .recoveryJudge fed run) ∨ k = .recoveryRun)
    ∧ (k = .label ∨ k = .feedTop ∨ k = .resyncRun ∨ k = .recoveryRun ∨ k = .calibrateRun → k.advance = k)
    ∧ (MotionKind.feedLines (n + 1)).advance = .feedLines n ∧ (MotionKind.backfeed (n + 1)).advance = .backfeed n
    ∧ (MotionKind.present (n + 1) fed).advance = .present n (fed + 1)
    ∧ (MotionKind.recoveryJudge fed run).advance = .recoveryJudge (fed + 1) run
    ∧ (MotionKind.resyncSeek fed).advance = .resyncSeek (fed + 1)
    ∧ (MotionKind.recoverySeek fed).advance = .recoverySeek (fed + 1)
    ∧ (MotionKind.calibrateSeek fed).advance = .calibrateSeek (fed + 1)
    ∧ (MotionKind.calibrateGap fed n).advance = .calibrateGap (fed + 1) (n + 1)
    ∧ (MotionKind.calibratePitch fed n run).advance = .calibratePitch (fed + 1) (n + 1) run)
  ∧ (∀ (gap edge : Bool) (s u w x : State) (m : Motion) (p : Int) (run : Nat), s.settle = u → u.mode = .running →
    u.media.motion = some m → u.canStep = true → u.battery.settings.registered = true →
    p = u.battery.settings.pitch → edge = (gap && !u.lines.gap) → run = (if gap = true then min 161 (u.media.gapRun + 1) else 0) →
    w = { u with now := max u.now m.due, lines := { u.lines with gap := gap } } →
    x = { w with
      media := { u.media with
        motion := some { m with kind := m.kind.advance }
        gapRun := run
        d := u.media.d + 1
        high := max u.media.high (u.media.d + 1) } } →
    (m.kind.judges = true → u.media.high < u.media.d + 1 → u.media.d + 1 < p + 17 → edge = true →
      exec (.motorStep gap) s = .next (x.judgeEdge false).checkLimit)
    ∧ (m.kind.judges = true → u.media.high < u.media.d + 1 → u.media.d + 1 < p + 17 → edge = false →
      exec (.motorStep gap) s = .next x.checkLimit)
    ∧ (m.kind.judges = true → u.media.d + 1 ≤ u.media.high → exec (.motorStep gap) s = .next x.checkLimit)
    ∧ (m.kind = .calibrateRun → exec (.motorStep gap) s = .next x.checkLimit)
    ∧ (m.kind = .feedTop → m.forLabel = false → u.media.high < u.media.d + 1 → p - 16 ≤ u.media.d + 1 →
      u.media.d + 1 < p + 17 → edge = true → run ≤ 160 → (128 + u.battery.settings.gapLength) % p = 0 →
      exec (.motorStep gap) s = .next (State.beginOrRest { w with
        media := { u.media with
          motion := none, gapRun := run, d := 0, high := 0, goodSeen := true, count := u.media.count - 1 }
        sticky := { u.sticky with
          registrationWarning := u.sticky.registrationWarning || decide (96 ≤ u.media.count - 1) } })))
  ∧ (∀ y : State,
    (∀ (m : Motion) (due : Option StepDue), y.media.motion = some m →
      due = limitOf y.battery.settings.pitch m.kind →
      (∀ limit, due = some limit → y.checkLimit = { y with media := { y.media with due := some limit } })
      ∧ (due = none → (∃ left, m.kind = .backfeed left) → y.checkLimit = y.arrive)
      ∧ (due = none → (∀ left, m.kind ≠ .backfeed left) →
        (160 < y.media.gapRun → y.checkLimit = { y with media := { y.media with due := some .mediaOut } })
        ∧ (y.media.gapRun ≤ 160 → y.checkLimit = y.arrive)))
    ∧ (y.media.motion = none →
      (160 < y.media.gapRun → y.checkLimit = { y with media := { y.media with due := some .mediaOut } })
      ∧ (y.media.gapRun ≤ 160 → y.checkLimit = y)))
  ∧ (∀ (y more : State) (m : Motion) (atTop : Prop), y.media.motion = some m →
    more = { y with media := { y.media with motion := some { m with due := y.now + 1250 } } } →
    (atTop ↔ (y.media.d - (128 + y.battery.settings.gapLength)) % (y.battery.settings.pitch : Int) = 0) →
    (m.kind = .resyncRun ∨ m.kind = .recoveryRun ∨ m.kind = .calibrateRun ∨ m.kind = .feedTop →
      (atTop → y.arrive = y.endMotion m) ∧ (¬ atTop → y.arrive = more))
    ∧ (∀ left fed, m.kind = .feedLines left ∨ m.kind = .present left fed ∨ m.kind = .backfeed left → left ≠ 0 →
      y.arrive = more)
    ∧ (m.kind = .feedLines 0 → y.arrive = y.endMotion m)
    ∧ (∀ fed, m.kind = .present 0 fed →
      y.arrive = State.endMotion m { y with media := { y.media with out := some fed } })
    ∧ (m.kind = .backfeed 0 → y.arrive = State.endMotion m { y with media := { y.media with out := none } })
    ∧ ((∃ fed, m.kind = .resyncSeek fed) ∨ (∃ fed, m.kind = .recoverySeek fed) ∨ (∃ fed run, m.kind = .recoveryJudge fed run)
        ∨ (∃ fed, m.kind = .calibrateSeek fed) ∨ (∃ fed n, m.kind = .calibrateGap fed n)
        ∨ (∃ fed n length, m.kind = .calibratePitch fed n length) →
      y.arrive = more)
    ∧ ∀ (t : Ticket) (v : LabelValues), m.kind = .label → y.printing = some t → y.burn.values = some v →
      (∀ n, y.media.labelLine = .stepping n → n + 1 < t.length.getD 0 →
        y.arrive = State.lineStart (n + 1) { y with media := { y.media with labelLine := .standing (n + 1) } })
      ∧ ((∃ n, y.media.labelLine = .stepping n ∧ t.length.getD 0 ≤ n + 1) ∨ y.media.labelLine = .tail →
        (y.battery.settings.registered = true → ¬ atTop →
          y.arrive = { y with
            media := { y.media with labelLine := .tail, motion := some { m with due := y.now + v.period } } })
        ∧ (y.battery.settings.registered = false ∨ atTop → y.arrive = y.completeLabel)))
  ∧ ∀ (y z : State) (m : Motion), z = { y with media := { y.media with motion := none } } →
    (m.forLabel = false → y.endMotion m = z.beginOrRest)
    ∧ (m.forLabel = true → (∃ left, m.kind = .backfeed left) → y.endMotion m = z.prelimCalibrate)
    ∧ (m.forLabel = true → (∀ left, m.kind ≠ .backfeed left) → y.endMotion m = z.settleStart)

/-- An edge within 16 lines of the pitch is a good gap: it is the reference and the count falls by 1. Any other is
early and a gap not found is missed: the count rises by 8, and a missed gap takes the pitch from the edge distance. An
edge found at a step that took a miss is early. After a miss, in every motion that judges edges, comes the rest of its
step. A count that reaches 256 loses registration: FAULT with MEDIA_LOST. In a recovery feed the run of good gaps is
counted instead, and the third recovers. The model's choices in it: log entries 1, 3, 14, 43, 48. -/
def Obligations.GapsAreJudgedAndCounted : Prop :=
  (∀ (s : State) (m : Motion) (p : Int) (missed : Bool), s.media.motion = some m → p = s.battery.settings.pitch →
    (∀ f r, m.kind ≠ .recoveryJudge f r) →
    (p - 16 ≤ s.media.d → s.media.d ≤ p + 16 →
      s.judgeEdge false = { s with
        media := { s.media with d := 0, high := 0, goodSeen := true, count := s.media.count - 1 }
        sticky := { s.sticky with
          registrationWarning := s.sticky.registrationWarning || decide (96 ≤ s.media.count - 1) } })
    ∧ (missed = true ∨ s.media.d < p - 16 ∨ p + 16 < s.media.d →
      (s.media.count + 8 < 256 →
        s.judgeEdge missed = { s with
          media := { s.media with event := .earlyGap, badSeen := true, count := s.media.count + 8 }
          sticky := { s.sticky with
            registrationWarning := s.sticky.registrationWarning || decide (96 ≤ s.media.count + 8) } })
      ∧ (256 ≤ s.media.count + 8 →
        (s.judgeEdge missed).media.engine = .fault ∧ (s.judgeEdge missed).media.causes.mediaLost = true
        ∧ (s.judgeEdge missed).media.count = 256 ∧ (s.judgeEdge missed).media.event = .lost)))
  ∧ (∀ (s : State) (m : Motion) (p : Int) (fed run : Nat) (missed : Bool), s.media.motion = some m → p = s.battery.settings.pitch →
    m.kind = .recoveryJudge fed run →
    (p - 16 ≤ s.media.d → s.media.d ≤ p + 16 → run + 1 ≠ 3 →
      s.judgeEdge false = { s with
        media := { s.media with
          d := 0, high := 0, goodSeen := true, motion := some { m with kind := .recoveryJudge fed (run + 1) } } })
    ∧ (p - 16 ≤ s.media.d → s.media.d ≤ p + 16 → run + 1 = 3 →
      s.judgeEdge false = { s with
        media := { s.media with
          d := 0, high := 0, goodSeen := true, count := 0, event := .none
          causes := { s.media.causes with mediaLost := false }
          motion := some { m with kind := .recoveryRun } } })
    ∧ (missed = true ∨ s.media.d < p - 16 ∨ p + 16 < s.media.d →
      s.judgeEdge missed = { s with
        media := { s.media with
          event := .earlyGap, badSeen := true, motion := some { m with kind := .recoveryJudge fed 0 } } }))
  ∧ (∀ (s u y : State) (m : Motion) (p : Int) (edge fell : Bool), s.grantRoom = u → u.mode = .running →
    u.media.motion = some m → m.kind.judges = true → u.battery.settings.registered = true →
    p = u.battery.settings.pitch → u.media.due = some (.missedGap edge fell) →
    y = { u with
      media := { u.media with
        event := .missedGap, badSeen := true, d := u.media.d - p, high := u.media.d - p, due := none } } →
    (∀ (fed run : Nat) (z : State), m.kind = .recoveryJudge fed run →
      z = { y with media := { y.media with motion := some { m with kind := .recoveryJudge fed 0 } } } →
      exec .missedGap s = .next (if edge = true then z.judgeEdge true else z).checkLimit)
    ∧ (∀ z : State, (∀ fed run, m.kind ≠ .recoveryJudge fed run) → u.media.count + 8 < 256 →
      z = { y with
        media := { y.media with count := u.media.count + 8 }
        sticky := { u.sticky with
          registrationWarning := u.sticky.registrationWarning || decide (96 ≤ u.media.count + 8) } } →
      exec .missedGap s = .next (if edge = true then z.judgeEdge true else z).checkLimit)
    ∧ ((∀ fed run, m.kind ≠ .recoveryJudge fed run) → 256 ≤ u.media.count + 8 →
      ∃ t, exec .missedGap s = .next t ∧ t.media.engine = .fault ∧ t.media.causes.mediaLost = true
        ∧ t.media.count = 256 ∧ t.media.event = .lost ∧ t.media.motion = none ∧ t.burn.line = none
        ∧ t.sticky.registrationWarning = true ∧ t.media.attention = true
        ∧ t.media.due = (if 160 < u.media.gapRun then some .mediaOut else none)
        ∧ t.flash = u.flash ∧ t.battery = u.battery ∧ t.store = u.store ∧ t.line = u.line ∧ t.now = u.now))
  ∧ (∀ (s u : State) (m : Motion) (p : Int) (fell : Bool), s.grantRoom = u → u.mode = .running → u.media.motion = some m →
    m.kind = .feedTop → p = u.battery.settings.pitch → u.media.due = some (.missedGap false fell) →
    u.media.count + 8 < 256 → u.media.gapRun ≤ 160 →
    (u.media.d - p - (128 + u.battery.settings.gapLength)) % p ≠ 0 →
    exec .missedGap s = .next
      { u with
        media := { u.media with
          event := .missedGap, badSeen := true, d := u.media.d - p, high := u.media.d - p
          count := u.media.count + 8, due := none
          motion := some { m with due := u.now + 1250 } }
        sticky := { u.sticky with
          registrationWarning := u.sticky.registrationWarning || decide (96 ≤ u.media.count + 8) } })
  ∧ ∀ s u : State, s.grantRoom = u → u.mode = .running → (∀ edge fell, u.media.due ≠ some (.missedGap edge fell)) →
    exec .missedGap s = .next u

/-- A RESYNC feed that finds no edge in 2 × P lines, a recovery feed that has not recovered in 8 × P, and a
calibration not ended in 8,200, lose registration: FAULT with MEDIA_LOST, the count 256, the last media event LOST,
the motor stopped. The motor step at the limit makes its event due, and a forward step that brings the gap run above
160 makes a media out due. A gap run above 160 in forward motion is a media out: FAULT with MEDIA_OUT. The model's
choices in it: log entries 1, 2, 3, 14, 30, 31. -/
def Obligations.FeedLimitsAndMediaOut : Prop :=
  (∀ (pitch fed n k : Nat), (limitOf pitch (.resyncSeek fed) = some .resyncNoEdge ↔ 2 * pitch ≤ fed)
    ∧ (limitOf pitch (.recoverySeek fed) = some .recoveryLimit ↔ 8 * pitch ≤ fed)
    ∧ (limitOf pitch (.recoveryJudge fed n) = some .recoveryLimit ↔ 8 * pitch ≤ fed)
    ∧ (limitOf pitch (.calibrateSeek fed) = some .calibrationLimit ↔ 8200 ≤ fed)
    ∧ (limitOf pitch (.calibrateGap fed n) = some .calibrationLimit ↔ 8200 ≤ fed)
    ∧ (limitOf pitch (.calibratePitch fed n k) = some .calibrationLimit ↔ 8200 ≤ fed))
  ∧ (∀ (gap edge fell : Bool) (s u w : State) (m : Motion) (run : Nat) (x : MotionKind → StepDue → State),
    s.settle = u → u.mode = .running → u.media.motion = some m → u.canStep = true →
    w = { u with now := max u.now m.due, lines := { u.lines with gap := gap } } →
    run = (if gap = true then min 161 (u.media.gapRun + 1) else 0) → edge = (gap && !u.lines.gap) →
    fell = (!gap && u.lines.gap) →
    (∀ kind due, x kind due = { w with
      media := { u.media with motion := some { m with kind := kind }, gapRun := run, due := some due } }) →
    (∀ fed, m.kind = .recoverySeek fed → edge = false → 8 * u.battery.settings.pitch ≤ fed + 1 →
      exec (.motorStep gap) s = .next (x (.recoverySeek (fed + 1)) .recoveryLimit))
    ∧ (∀ fed y, m.kind = .recoverySeek fed → edge = true → 8 * u.battery.settings.pitch ≤ fed + 1 →
      y = x (.recoveryJudge (fed + 1) 0) .recoveryLimit →
      exec (.motorStep gap) s = .next { y with media := { y.media with d := 0, high := 0 } })
    ∧ (∀ fed good y, m.kind = .recoveryJudge fed good → edge = false → u.battery.settings.registered = true →
      u.media.d + 1 ≤ u.media.high ∨ u.media.d + 1 < u.battery.settings.pitch + 17 →
      8 * u.battery.settings.pitch ≤ fed + 1 → y = x (.recoveryJudge (fed + 1) good) .recoveryLimit →
      exec (.motorStep gap) s = .next
        { y with media := { y.media with d := u.media.d + 1, high := max u.media.high (u.media.d + 1) } })
    ∧ (∀ fed, m.kind = .calibrateSeek fed → 8200 ≤ fed + 1 →
      exec (.motorStep gap) s = .next
        (x (if edge = true then .calibrateGap (fed + 1) 0 else .calibrateSeek (fed + 1)) .calibrationLimit))
    ∧ (∀ fed since, m.kind = .calibrateGap fed since → 8200 ≤ fed + 1 →
      exec (.motorStep gap) s = .next
        (x (if fell = true then .calibratePitch (fed + 1) (since + 1) (since + 1) else .calibrateGap (fed + 1) (since + 1))
          .calibrationLimit))
    ∧ (∀ fed since length, m.kind = .calibratePitch fed since length → edge = false → 8200 ≤ fed + 1 →
      exec (.motorStep gap) s = .next (x (.calibratePitch (fed + 1) (since + 1) length) .calibrationLimit)))
  ∧ (∀ (s u : State) (m : Motion) (moves : Bool), s.settle = u → u.mode = .running → u.media.motion = some m →
    u.canStep = true → u.lines.gap = true → 160 ≤ u.media.gapRun → (∀ left, m.kind ≠ .backfeed left) →
    limitOf u.battery.settings.pitch m.kind.advance = none →
    m.kind.judges = false ∨ u.battery.settings.registered = false ∨ u.media.d + 1 ≤ u.media.high
      ∨ u.media.d + 1 < u.battery.settings.pitch + 17 →
    (moves = true ↔ u.battery.settings.registered = true ∧ (m.kind.judges = true ∨ m.kind = .calibrateRun)) →
    exec (.motorStep true) s = .next
      { u with
        now := max u.now m.due
        media := { u.media with
          motion := some { m with kind := m.kind.advance }
          gapRun := 161
          d := if moves = true then u.media.d + 1 else u.media.d
          high := if moves = true then max u.media.high (u.media.d + 1) else u.media.high
          due := some .mediaOut } })
  ∧ (∀ (c : Instr) (due : StepDue) (s u : State), s.grantRoom = u →
    (c = .resyncNoEdge ∧ due = .resyncNoEdge) ∨ (c = .recoveryLimit ∧ due = .recoveryLimit)
      ∨ (c = .calibrationLimit ∧ due = .calibrationLimit) → u.mode = .running →
    (u.media.due ≠ some due → exec c s = .next u)
    ∧ (u.media.due = some due →
      ∃ t, exec c s = .next t ∧ t.media.engine = .fault ∧ t.media.causes.mediaLost = true ∧ t.media.count = 256
        ∧ t.media.event = .lost ∧ t.media.motion = none ∧ t.burn.line = none ∧ t.sticky.registrationWarning = true
        ∧ t.media.attention = true ∧ t.media.due = (if 160 < u.media.gapRun then some .mediaOut else none)
        ∧ t.flash = u.flash ∧ t.battery = u.battery ∧ t.store = u.store ∧ t.line = u.line ∧ t.now = u.now))
  ∧ ∀ s u : State, s.grantRoom = u → u.mode = .running →
    (u.media.due ≠ some .mediaOut → exec .mediaOut s = .next u)
    ∧ (u.media.due = some .mediaOut →
      ∃ t, exec .mediaOut s = .next t ∧ t.media.engine = .fault ∧ t.media.causes.mediaOut = true
        ∧ t.media.event = .mediaOut ∧ t.media.due = none ∧ t.media.motion = none ∧ t.burn.line = none
        ∧ t.media.attention = true ∧ t.flash = u.flash ∧ t.battery = u.battery ∧ t.store = u.store
        ∧ t.line = u.line ∧ t.now = u.now)

/-- The opening of the head puts the engine in FAULT with HEAD_OPEN and stops the motor; a condition that clears
leaves the causes, and with auto-resume on and no condition left the engine leaves FAULT on its path. A change of the
media sensor sets its level, at rest and, the model's choice (log entry 30), between two steps of a running motor too,
and clears MEDIA_OUT when it reads media. A cause that arises cuts the line in hand: its strobe ends, the history
moves on, no line is reported burned. With HEAD_OPEN, MEDIA_OUT or MEDIA_LOST a PRINTING label of which a line was
burned is void: every ticket is RENDERING again from its band 0, every buffer is freed, and the void is counted in its
job; another is withdrawn to READY with its bands kept. With HEAD_FAULT alone it stays PRINTING where it stands, its
hold reasons set aside, and the buffer that a line cut in its loading was to free is freed. The model's choices in it:
log entries 2, 3, 24, 30, 33, 47. -/
def Obligations.SwitchAndSensorRaiseAndClearFaults : Prop :=
  ((∀ (isOpen : Bool) (s u w : State) (causes : Causes), s.settle = u → u.mode = .running →
    w = { u with lines := { u.lines with headOpen := isOpen } } →
    causes = { u.media.causes with headOpen := false } →
    (isOpen = u.lines.headOpen → exec (.headSwitchChange isOpen) s = .next w)
    ∧ (isOpen = true → u.lines.headOpen = false →
      ∃ t, exec (.headSwitchChange isOpen) s = .next t ∧ t.lines = w.lines ∧ t.media.engine = .fault
        ∧ t.media.causes = { u.media.causes with headOpen := true } ∧ t.media.event = .headOpen
        ∧ t.media.motion = none ∧ t.media.holds = ⟨false, false, false⟩ ∧ t.media.setAside = ⟨false, false, false⟩
        ∧ t.burn.line = none ∧ t.media.attention = true ∧ t.flash = u.flash ∧ t.battery = u.battery
        ∧ t.store = u.store ∧ t.line = u.line ∧ t.now = u.now)
    ∧ (isOpen = false → u.lines.headOpen = true → u.media.causes.headOpen = true → u.media.engine = .fault →
      u.battery.settings.autoResume = true → causes.condition = false →
      exec (.headSwitchChange isOpen) s
        = .next { w.faultPath with media := { w.faultPath.media with causes := causes } })
    ∧ (isOpen = false → u.lines.headOpen = true → u.media.causes.headOpen = true → u.media.engine = .fault →
      u.battery.settings.autoResume = false ∨ causes.condition = true →
      exec (.headSwitchChange isOpen) s = .next
        { w with
          media := { u.media with
            causes := causes
            notice := some (noticeAfter u.media { u.media with causes := causes })
            attention := true } }))
  ∧ ∀ (gap : Bool) (s u w : State) (causes : Causes), s.settle = u → u.mode = .running →
    w = { u with lines := { u.lines with gap := gap } } → causes = { u.media.causes with mediaOut := false } →
    (gap = true ∨ u.media.causes.mediaOut = false → exec (.mediaSensorChange gap) s = .next w)
    ∧ (gap = false → u.media.causes.mediaOut = true → u.media.engine = .fault →
      u.battery.settings.autoResume = true → causes.condition = false →
      exec (.mediaSensorChange gap) s
        = .next { w.faultPath with media := { w.faultPath.media with causes := causes } })
    ∧ (gap = false → u.media.causes.mediaOut = true → u.media.engine = .fault →
      u.battery.settings.autoResume = false ∨ causes.condition = true →
      exec (.mediaSensorChange gap) s = .next
        { w with
          media := { u.media with
            causes := causes
            notice := some (noticeAfter u.media { u.media with causes := causes })
            attention := true } }))
  ∧ (∀ s u : State, s.settle = u → u.mode = .running →
    (u.lines.headOpen = false →
      exec (.headSwitchChange true) s = .next (State.addCause ⟨true, false, false, false⟩
        { u with lines := { u.lines with headOpen := true }, media := { u.media with event := .headOpen } }))
    ∧ ∀ (theta : Int) (supply now : Nat), u.burn.sensorFault = false → theta < -20 ∨ 100 < theta →
      u.media.holds.supply = false → u.media.setAside.supply = false → now = max u.now (u.burn.lastSample + 10000) →
      exec (.headSample theta supply) s = .next (State.addCause ⟨false, false, false, true⟩
        { u with
          now := now
          burn := { u.burn with theta := theta, supply := supply, lastSample := now, sensorFault := true } }))
  ∧ (∀ s u : State, s.grantRoom = u → u.mode = .running →
    (u.media.due = some .mediaOut →
      exec .mediaOut s = .next (State.addCause ⟨false, true, false, false⟩
        { u with media := { u.media with event := .mediaOut, due := none } }))
    ∧ (u.media.due = some .resyncNoEdge → u.media.gapRun ≤ 160 →
      exec .resyncNoEdge s = .next (State.addCause ⟨false, false, true, false⟩
        { u with
          media := { u.media with event := .lost, due := none, count := 256 }
          sticky := { u.sticky with registrationWarning := true } })))
  ∧ ∀ (s v : State) (causes : Causes) (drops : Bool) (b : Burn), v = s.addCause causes →
    drops = (causes.headOpen || causes.mediaOut || causes.mediaLost) →
    (s.burn.line = none → b = s.burn) →
    (∀ l, s.burn.line = some l →
      b = { s.burn with
        before := s.burn.previous, previous := l.dots.map DotPulse.dot, lastLineEnd := some s.now, line := none }) →
    (v.media.engine = .fault ∧ v.media.attention = true
      ∧ v.media.causes =
        ⟨s.media.causes.headOpen || causes.headOpen, s.media.causes.mediaOut || causes.mediaOut,
          s.media.causes.mediaLost || causes.mediaLost, s.media.causes.headFault || causes.headFault⟩
      ∧ v.media.pausePending = (s.media.pausePending || decide (s.media.engine = .paused))
      ∧ v.media.out = (match s.media.motion with
        | some { kind := .present _ fed, .. } => some fed
        | some { kind := .backfeed left, .. } => some left
        | _ => s.media.out)
      ∧ v.flash = s.flash ∧ v.battery = s.battery ∧ v.store = s.store ∧ v.sticky = s.sticky ∧ v.line = s.line
      ∧ v.dec = s.dec ∧ v.now = s.now)
    ∧ (s.printing = none → v.burn = b ∧ v.media.motion = none ∧ v.queue = s.queue)
    ∧ ∀ t : Ticket, s.printing = some t →
      (drops = true → v.media.motion = none ∧ v.media.labelLine = .none ∧ v.media.holds = ⟨false, false, false⟩
        ∧ v.media.setAside = ⟨false, false, false⟩)
      ∧ (drops = true → t.burned = true → v.burn = { b with stretchedLabel := 0 } ∧ ∃ y : State, v = y.renderNext
        ∧ y.queue = { s.queue with
            jobs := s.queue.jobs.map fun (j : Job) =>
              if t.key.source = some j.items.tag then { j with labelsVoided := min 65535 (j.labelsVoided + 1) } else j
            tickets := s.queue.tickets.map fun (k : Ticket) =>
              { k with rendered := 0, length := none, state := .rendering } }
        ∧ y.render = { buffers := s.render.buffers.map fun _ => Buffer.empty, hand := none }
        ∧ y.array = (if s.render.hand = none then s.array else s.array.orphanRenderer))
      ∧ (drops = true → t.burned = false → v.burn = b ∧ v.render = s.render ∧ v.array = s.array
        ∧ v.queue = { s.queue with
            tickets := s.queue.tickets.map fun (k : Ticket) =>
              if k.key = t.key then { k with state := .ready } else k })
      ∧ (drops = false →
        v.burn = b ∧ v.media.motion = s.media.motion ∧ v.media.holds = ⟨false, false, false⟩
        ∧ v.media.setAside =
          ⟨s.media.setAside.underrun || s.media.holds.underrun, s.media.setAside.heat || s.media.holds.heat,
            s.media.setAside.supply || s.media.holds.supply⟩
        ∧ (s.burn.line = none → v.media.labelLine = s.media.labelLine ∧ v.queue = s.queue ∧ v.render = s.render)
        ∧ ∀ l, s.burn.line = some l → v.media.labelLine = .stepping l.number
          ∧ (l.stage ≠ .loading ∨ lastOfBand l.number (t.length.getD 0) = false →
            v.queue = s.queue ∧ v.render = s.render)
          ∧ ∀ i, l.stage = .loading → lastOfBand l.number (t.length.getD 0) = true →
            s.lineBuffer t l.number = some i →
            ∃ y : State, v = y.renderNext ∧ y.queue = s.queue ∧ y.array = s.array
              ∧ y.render = { s.render with buffers := s.render.buffers.set i Buffer.empty })

/-- A label start (R160) and the rest state (R159). An attempt is made with the oldest ticket READY, none PRINTING, no
pause pending, and the engine IDLE, OFF, or PRESENTED with no take awaited. Its preliminaries come in their order: the
backfeed of a label that stands out; the calibration of uncalibrated media; a RESYNC feed at a count of 128 or above;
and with power DOWN and none of them, the wake alone. When they have ended the attempt is examined afresh: with a
pause pending the engine is PAUSED; with the oldest ticket READY the label starts, its ticket PRINTING and line 0 to
be started; otherwise the engine takes its rest state: PRESENTED, IDLE, or OFF. The end of a feed or of a path from
FAULT does the same with an attempt in place of the start, and a PEEL label found taken is fed back. The path from
FAULT (R170): with a label PRINTING, HOLD with the reasons set aside or PRINTING where the label stood; otherwise a
recovery feed where MEDIA_LOST stands, or a calibration at P = 0; otherwise a RESYNC feed on calibrated media;
otherwise no motion. Each change of the engine produces the notice of R177. Where the label stands at a line start,
the notice of the exit is offered its room before that line start is taken again, so that a new hold found there has a
notice of its own (R158). The model's choices in it: log entries 20, 21, 24, 28, 31, 32, 33, 55. -/
def Obligations.LabelStartRestAndFaultPath : Prop :=
  (∀ old new : Media,
    (produces old new = true ↔
      (old.engine ≠ new.engine ∧ (old.engine = .hold ∨ old.engine = .paused ∨ old.engine = .fault
        ∨ new.engine = .hold ∨ new.engine = .paused ∨ new.engine = .fault))
      ∨ (old.engine = .fault ∧ new.engine = .fault ∧ old.causes ≠ new.causes))
    ∧ (old.notice = none → noticeAfter old new =
      { newState := new.engine, newBits := new.stateBits, oldState := old.engine, oldBits := old.stateBits,
        count := new.count, coalesced := 1 })
    ∧ (new.engine = .hold → new.stateBits = holdBits new.holds)
    ∧ (new.engine = .fault → new.stateBits = causeBits new.causes)
    ∧ (new.engine ≠ .hold → new.engine ≠ .fault → new.stateBits = 0)
    ∧ ∀ n, old.notice = some n → noticeAfter old new =
      { n with newState := new.engine, newBits := new.stateBits, count := new.count
               coalesced := min 65535 (n.coalesced + 1) })
  ∧ (∀ (s : State) (starts awaits : Prop),
    (starts ↔ (∃ t rest, s.queue.tickets = t :: rest ∧ t.state = .ready) ∧ ∀ t ∈ s.queue.tickets, t.state ≠ .printing) →
    (awaits ↔ s.media.out ≠ none ∧ s.media.presentedUnder = .peel ∧ s.lines.noLabel = false) →
    (starts → s.media.pausePending = false →
      s.media.engine = .idle ∨ s.media.engine = .off ∨ (s.media.engine = .presented ∧ ¬ awaits) →
      s.tryStart = s.attempt)
    ∧ (¬ starts ∨ s.media.pausePending = true
        ∨ (s.media.engine ≠ .idle ∧ s.media.engine ≠ .off ∧ (s.media.engine ≠ .presented ∨ awaits)) →
      s.tryStart = s)
    ∧ (∀ d, s.media.out = some (d + 1) →
      s.attempt = s.tracked (s.media.moving s.now .presenting (.backfeed (d + 1)) true false))
    ∧ (s.media.out = none ∨ s.media.out = some 0 →
      s.attempt = State.prelimCalibrate { s with media := { s.media with out := none } })
    ∧ (s.battery.settings.mediaType ≠ .continuous → s.battery.settings.pitch = 0 →
      s.prelimCalibrate = s.tracked (s.media.moving s.now .calibrating (.calibrateSeek 0) true false))
    ∧ (s.battery.settings.mediaType ≠ .continuous → s.battery.settings.pitch ≠ 0 → 128 ≤ s.media.count →
      s.prelimCalibrate
        = s.tracked (Media.moving { s.media with out := none } s.now .resync (.resyncSeek 0) true false))
    ∧ (s.battery.settings.mediaType = .continuous ∨ (s.battery.settings.pitch ≠ 0 ∧ s.media.count < 128) →
      (s.media.power = false →
        s.prelimCalibrate = s.tracked (s.media.moving s.now .printing .awaitStart true false))
      ∧ (s.media.power = true → s.prelimCalibrate = s.settleStart))
    ∧ (s.media.pausePending = true → ∀ w : State,
      w = s.tracked { s.media with engine := .paused, pausePending := false, motion := none, labelLine := .none } →
      s.settleStart = w ∧ s.beginOrRest = w)
    ∧ (s.media.pausePending = false →
      (starts → ∀ t rest, s.queue.tickets = t :: rest →
        s.settleStart = State.lineStart 0
          (State.tracked
            { s with
              burn := (s.startBurn t).burn
              queue := s.queue.updateTicket t.key fun k => { k with state := .printing } }
            { s.media with
              engine := .printing
              motion := some { kind := .label, forLabel := false, forRecovery := false, wake := none, due := s.now }
              labelLine := .standing 0, goodSeen := false, badSeen := false }))
      ∧ (¬ starts → s.settleStart = s.rest)
      ∧ (starts → ¬ awaits → s.beginOrRest = s.attempt)
      ∧ (¬ starts ∨ awaits → s.beginOrRest = s.restPresented))
    ∧ s.rest = s.tracked { s.media with
        engine := if s.media.out ≠ none then .presented else if s.media.power = true then .idle else .off
        motion := none, labelLine := .none }
    ∧ (s.media.out = none ∨ s.media.presentedUnder ≠ .peel ∨ s.lines.noLabel = false → s.restPresented = s.rest)
    ∧ (s.media.presentedUnder = .peel → s.lines.noLabel = true →
      (∀ d, s.media.out = some (d + 1) →
        s.restPresented = s.rest.tracked (s.rest.media.moving s.now .presenting (.backfeed (d + 1)) false false))
      ∧ (s.media.out = some 0 → ∀ v : State, v = { s.rest with media := { s.rest.media with out := none } } →
        (starts → s.restPresented = v.prelimCalibrate) ∧ (¬ starts → s.restPresented = v.rest))))
  ∧ ∀ s w : State,
    w = s.tracked { s.media with
      engine := .printing, holds := ⟨false, false, false⟩, setAside := ⟨false, false, false⟩ } →
    (∀ n, s.media.labelLine = .standing n → s.resumePrinting = w.placeEngine.lineStart n)
    ∧ ((∀ n, s.media.labelLine ≠ .standing n) → s.resumePrinting = w)
    ∧ ((∃ t ∈ s.queue.tickets, t.state = .printing) →
      (s.media.setAside = ⟨false, false, false⟩ → s.faultPath = s.resumePrinting)
      ∧ (s.media.setAside ≠ ⟨false, false, false⟩ →
        s.faultPath = s.tracked { s.media with
          engine := .hold, holds := s.media.setAside, setAside := ⟨false, false, false⟩ }))
    ∧ ((∀ t ∈ s.queue.tickets, t.state ≠ .printing) →
      (s.media.causes.mediaLost = true →
        (s.battery.settings.pitch = 0 →
          s.faultPath = s.tracked (s.media.moving s.now .calibrating (.calibrateSeek 0) false true))
        ∧ (s.battery.settings.pitch ≠ 0 →
          s.faultPath = s.tracked (s.media.moving s.now .resync (.recoverySeek 0) false true)))
      ∧ (s.media.causes.mediaLost = false →
        (s.battery.settings.mediaType ≠ .continuous → s.battery.settings.pitch ≠ 0 →
          s.faultPath
            = s.tracked (Media.moving { s.media with out := none } s.now .resync (.resyncSeek 0) false false))
        ∧ (s.battery.settings.mediaType = .continuous ∨ s.battery.settings.pitch = 0 →
          s.faultPath = s.beginOrRest)))
    ∧ ∀ (n : Nat) (t : Ticket) (v : LabelValues) (failed : Holds) (left : EngineNotice), s.mode = .running →
      s.line.restart = none → s.queue.ending = [] → s.media.engine = .hold → s.media.notice = none →
      s.media.labelLine = .standing n → s.printing = some t → s.burn.values = some v →
      failed = ⟨(s.lineBuffer t n).isNone, decide (75 ≤ s.burn.theta), decide (s.burn.supply < 180)⟩ →
      failed ≠ ⟨false, false, false⟩ →
      left = { newState := .printing, newBits := 0, oldState := .hold, oldBits := holdBits s.media.holds
               count := s.media.count, coalesced := 1 } →
      (engineFrame left).length ≤ s.freeRoom →
      s.resumePrinting.media.engine = .hold ∧ s.resumePrinting.media.holds = failed
      ∧ s.resumePrinting.line.output = s.line.output ++ engineFrame left
      ∧ s.resumePrinting.media.notice =
        some { newState := .hold, newBits := holdBits failed, oldState := .printing, oldBits := 0
               count := s.media.count, coalesced := 1 }

/-- A label presented under PEEL that is taken is fed back by the distance it stands out; at a distance of 0 a label
start or the rest state follows at once; any other change of the label-taken sensor only sets its level. After a
completion, PEEL presents the label, TEAR does so only with no label READY, and STREAM presents none. A presentation
is a forward feed of the present distance; at a distance of 0 the label stands presented at once. The model's choices
in it: log entries 2, 21, 31, 32. -/
def Obligations.LabelIsPresentedAndTaken : Prop :=
  (∀ (noLabel : Bool) (s u w : State), s.settle = u → u.mode = .running →
    w = { u with lines := { u.lines with noLabel := noLabel } } →
    (noLabel = false ∨ u.media.engine ≠ .presented ∨ u.media.presentedUnder ≠ .peel →
      exec (.labelTaken noLabel) s = .next w)
    ∧ (∀ d, noLabel = true → u.media.engine = .presented → u.media.presentedUnder = .peel →
      u.media.out = some (d + 1) →
      exec (.labelTaken noLabel) s = .next
        { w with
          media := { u.media with
            engine := .presenting
            power := true
            motion := some
              { kind := .backfeed (d + 1), forLabel := false, forRecovery := false
                wake := if u.media.power = true then none else some (u.now + 50000)
                due := if u.media.power = true then u.now + 1250 else u.now + 50000 }
            attention := u.media.counterHold } })
    ∧ ∀ (v : State) (starts : Prop), noLabel = true → u.media.engine = .presented →
      u.media.presentedUnder = .peel → v = { w with media := { u.media with out := none } } →
      (starts ↔ (∃ t rest, u.queue.tickets = t :: rest ∧ t.state = .ready) ∧ ∀ t ∈ u.queue.tickets, t.state ≠ .printing) →
      (u.media.out = some 0 →
        (starts → exec (.labelTaken noLabel) s = .next v.prelimCalibrate)
        ∧ (¬ starts → exec (.labelTaken noLabel) s = .next
          { w with
            media := { u.media with
              engine := if u.media.power = true then .idle else .off
              idleSince := if u.media.power = true then u.now else u.media.idleSince
              out := none, motion := none, labelLine := .none
              attention := u.media.counterHold } }))
      ∧ (u.media.out = none → exec (.labelTaken noLabel) s = .next w))
  ∧ ∀ (s : State) (distance : Nat),
    (s.battery.settings.presentation = .stream → s.afterCompletion distance = s.beginOrRest)
    ∧ (s.battery.settings.presentation = .tear → s.someReady = true ∨ distance = 0 →
      s.afterCompletion distance = s.beginOrRest)
    ∧ (s.battery.settings.presentation = .tear → s.someReady = false → distance ≠ 0 →
      s.afterCompletion distance = s.present distance .tear)
    ∧ (s.battery.settings.presentation = .peel → s.afterCompletion distance = s.present distance .peel)
    ∧ ∀ under : Presentation, s.media.engine = .printing → s.media.power = true →
      s.present 0 under = State.beginOrRest { s with media := { s.media with presentedUnder := under, out := some 0 } }
      ∧ (distance ≠ 0 → s.present distance under = { s with
        media := { s.media with
          presentedUnder := under
          engine := .presenting
          motion := some
            { kind := .present distance 0, forLabel := false, forRecovery := false, wake := none, due := s.now + 1250 }
          attention := s.media.counterHold } })

/-- PAUSE in IDLE, OFF or PRESENTED makes the engine PAUSED at once, with its notice; in PAUSED or with a pause
pending it changes nothing; otherwise it leaves a pause pending. RESUME is refused in FAULT while a condition cause
stands; otherwise it leaves PAUSED, or FAULT by its path, or ends a pending pause, and answers the engine state. The
model's choices in it: log entries 3, 4, 24, 52, 55. -/
def Obligations.PauseAndResume : Prop :=
  (∀ (s u : State) (body : List Byte), s.settle = u → u.asks 0x30 body →
    (u.media.engine = .paused ∨ u.media.pausePending = true →
      exec .pause s = .next (u.answered 0x30 (okReply 0x30 [flagByte (decide (u.media.engine = .paused))]) u))
    ∧ (u.media.pausePending = false →
      (∀ m : Media, u.media.engine = .idle ∨ u.media.engine = .off ∨ u.media.engine = .presented →
        m = { u.media with engine := .paused, pausePending := false, motion := none, labelLine := .none } →
        exec .pause s = .next
          (u.answered 0x30 (okReply 0x30 [1])
            { u with
              media := { m with notice := some (noticeAfter u.media m), attention := u.media.counterHold } }))
      ∧ (u.media.engine ≠ .paused → u.media.engine ≠ .idle → u.media.engine ≠ .off → u.media.engine ≠ .presented →
        exec .pause s = .next
          (u.answered 0x30 (okReply 0x30 [0]) { u with media := { u.media with pausePending := true } }))))
  ∧ ∀ (s u : State) (body : List Byte), s.settle = u → u.asks 0x31 body →
    (u.media.engine = .fault → u.media.causes.condition = true →
      exec .resume s = .next (u.answered 0x31 (refusedReply 0x31 .busy 0) u))
    ∧ (∀ v : State, u.media.engine = .fault → u.media.causes.condition = false →
      v = (u.headGone 0x31).faultPath →
      exec .resume s = .next (v.answered 0x31 (okReply 0x31 [byte (engineCode v.media.engine)]) v))
    ∧ (∀ v : State, u.media.engine = .paused → v = (u.headGone 0x31).rest.beginOrRest →
      exec .resume s = .next (u.answered 0x31 (okReply 0x31 [byte (engineCode v.media.engine)]) v))
    ∧ (u.media.engine ≠ .paused → u.media.engine ≠ .fault →
      exec .resume s = .next
        (u.answered 0x31 (okReply 0x31 [byte (engineCode u.media.engine)])
          { u with media := { u.media with pausePending := false } }))

/-- FEED and CALIBRATE are refused with BUSY outside IDLE and OFF. FEED runs to the next label top on calibrated
media, calibrates uncalibrated media, and feeds 64 lines on CONTINUOUS media; CALIBRATE calibrates GAP and MARK media
and only answers on CONTINUOUS media. A motor whose power is down wakes first, for 50 ms. The model's choices in it:
log entries 3, 4, 25, 31, 52. -/
def Obligations.FeedAndCalibrate : Prop :=
  ∀ (s u : State) (body : List Byte) (begun : Engine → MotionKind → State), s.settle = u →
    (∀ engine kind, begun engine kind = { u with
      media := { u.media with
        engine := engine
        power := true
        motion := some
          { kind := kind, forLabel := false, forRecovery := false
            wake := if u.media.power = true then none else some (u.now + 50000)
            due := if u.media.power = true then u.now + 1250 else u.now + 50000 }
        attention := u.media.counterHold } }) →
    (u.asks 0x32 body →
      (u.media.engine ≠ .idle → u.media.engine ≠ .off →
        exec .feed s = .next (u.answered 0x32 (refusedReply 0x32 .busy 0) u))
      ∧ (u.media.engine = .idle ∨ u.media.engine = .off →
        (u.battery.settings.mediaType ≠ .continuous → 0 < u.battery.settings.pitch →
          exec .feed s = .next (u.answered 0x32 (okReply 0x32 []) (begun .feeding .feedTop)))
        ∧ (u.battery.settings.mediaType ≠ .continuous → u.battery.settings.pitch = 0 →
          exec .feed s = .next (u.answered 0x32 (okReply 0x32 []) (begun .calibrating (.calibrateSeek 0))))
        ∧ (u.battery.settings.mediaType = .continuous →
          exec .feed s = .next (u.answered 0x32 (okReply 0x32 []) (begun .feeding (.feedLines 64))))))
    ∧ (u.asks 0x33 body →
      (u.media.engine ≠ .idle → u.media.engine ≠ .off →
        exec .calibrate s = .next (u.answered 0x33 (refusedReply 0x33 .busy 0) u))
      ∧ (u.media.engine = .idle ∨ u.media.engine = .off →
        (u.battery.settings.mediaType ≠ .continuous →
          exec .calibrate s = .next (u.answered 0x33 (okReply 0x33 []) (begun .calibrating (.calibrateSeek 0))))
        ∧ (u.battery.settings.mediaType = .continuous →
          exec .calibrate s = .next (u.answered 0x33 (okReply 0x33 []) u))))

/-- SETTINGS_SET: a value given outside its range is refused with BAD_VALUE, a new media type outside IDLE and OFF
with BUSY; otherwise the settings given are written with the table check. A new media type sets P, G and the
registration count to 0 and renders again what the printable length changes. A new idle time is compared with the time
already run at once, and switches power off where it has been reached. SETTINGS_GET answers the settings, the rate and
the service strap. A setting whose presence bit is set is judged by its range of Table 8-4 and written; one whose bit
is clear is neither; a bit above the ninth is refused. The model's choices in it: log entries 3, 4, 5, 41, 52. -/
def Obligations.SettingsAreSetAndRead : Prop :=
  (∀ (s u : State) (body : List Byte), s.settle = u → u.asks 0x34 body →
    (settingsOf body u.battery.settings = none →
      exec .settingsSet s = .next (u.answered 0x34 (refusedReply 0x34 .badValue 0) u))
    ∧ ∀ new, settingsOf body u.battery.settings = some new →
      (new.mediaType ≠ u.battery.settings.mediaType → u.media.engine ≠ .idle → u.media.engine ≠ .off →
        exec .settingsSet s = .next (u.answered 0x34 (refusedReply 0x34 .busy 0) u))
      ∧ (new.mediaType = u.battery.settings.mediaType → new.idleTime = u.battery.settings.idleTime →
        exec .settingsSet s = .next
          (u.answered 0x34 (okReply 0x34 [])
            { u with battery := Battery.checked { u.battery with settings := new } }))
      ∧ (new.mediaType ≠ u.battery.settings.mediaType → u.media.engine = .idle ∨ u.media.engine = .off →
        new.idleTime = u.battery.settings.idleTime →
        exec .settingsSet s = .next
          (u.answered 0x34 (okReply 0x34 [])
            (State.printableChanged
              { u.headGone 0x34 with
                battery := Battery.checked { u.battery with settings := { new with pitch := 0, gapLength := 0 } }
                media := { u.media with count := 0 } })))
      ∧ (new.mediaType = u.battery.settings.mediaType → new.idleTime ≠ u.battery.settings.idleTime →
        new.idleTime ≠ 0 → u.media.engine = .idle → u.someReady = false →
        u.media.idleSince + new.idleTime * 1000000 ≤ u.now →
        exec .settingsSet s = .next
          (u.answered 0x34 (okReply 0x34 [])
            { u with
              battery := Battery.checked { u.battery with settings := new }
              media := { u.media with engine := .off, power := false, attention := u.media.counterHold } }))
      ∧ (new.mediaType = u.battery.settings.mediaType → new.idleTime ≠ u.battery.settings.idleTime →
        new.idleTime = 0 ∨ u.media.engine ≠ .idle ∨ u.someReady = true
          ∨ u.now < u.media.idleSince + new.idleTime * 1000000 →
        exec .settingsSet s = .next
          (u.answered 0x34 (okReply 0x34 [])
            { u with battery := Battery.checked { u.battery with settings := new } }))
      ∧ (∀ w : State, new.mediaType ≠ u.battery.settings.mediaType → u.media.engine = .idle ∨ u.media.engine = .off →
        new.idleTime ≠ u.battery.settings.idleTime →
        w = State.printableChanged
          { u.headGone 0x34 with
            battery := Battery.checked { u.battery with settings := { new with pitch := 0, gapLength := 0 } }
            media := { u.media with count := 0 } } →
        (w.media.engine = .idle → w.someReady = false → new.idleTime ≠ 0 →
          w.media.idleSince + new.idleTime * 1000000 ≤ u.now →
          exec .settingsSet s = .next
            (u.answered 0x34 (okReply 0x34 [])
              { w with
                media := { w.media with engine := .off, power := false, attention := w.media.counterHold } }))
        ∧ (w.media.engine ≠ .idle ∨ w.someReady = true ∨ new.idleTime = 0
            ∨ u.now < w.media.idleSince + new.idleTime * 1000000 →
          exec .settingsSet s = .next (u.answered 0x34 (okReply 0x34 []) w))))
  ∧ (∀ (body : List Byte) (old new : Settings) (p : Nat → Prop), (∀ i, p i ↔ (num body 0 2).testBit i = true) →
    (settingsOf body old = some new ↔
      num body 0 2 < 512 ∧ new.pitch = old.pitch ∧ new.gapLength = old.gapLength
      ∧ (p 0 → (num body 2 1 = 0 ∧ new.mediaType = .gap) ∨ (num body 2 1 = 1 ∧ new.mediaType = .mark)
        ∨ (num body 2 1 = 2 ∧ new.mediaType = .continuous))
      ∧ (¬ p 0 → new.mediaType = old.mediaType)
      ∧ (p 1 → (num body 3 1 = 0 ∧ new.presentation = .tear) ∨ (num body 3 1 = 1 ∧ new.presentation = .peel)
        ∨ (num body 3 1 = 2 ∧ new.presentation = .stream))
      ∧ (¬ p 1 → new.presentation = old.presentation)
      ∧ (p 2 → new.presentDistance = num body 4 1 ∧ new.presentDistance ≤ 200)
      ∧ (¬ p 2 → new.presentDistance = old.presentDistance)
      ∧ (p 3 → new.leftOffset = num body 5 2 ∧ new.leftOffset ≤ 831)
      ∧ (¬ p 3 → new.leftOffset = old.leftOffset)
      ∧ (p 4 → (num body 7 1 = 0 ∧ new.autoResume = false) ∨ (num body 7 1 = 1 ∧ new.autoResume = true))
      ∧ (¬ p 4 → new.autoResume = old.autoResume)
      ∧ (p 5 → new.idleTime = num body 8 2 ∧ (new.idleTime = 0 ∨ (5 ≤ new.idleTime ∧ new.idleTime ≤ 600)))
      ∧ (¬ p 5 → new.idleTime = old.idleTime)
      ∧ (p 6 → new.h1 = num body 10 1 ∧ 4 ≤ new.h1 ∧ new.h1 ≤ 16) ∧ (¬ p 6 → new.h1 = old.h1)
      ∧ (p 7 → new.h2 = num body 11 1 ∧ 4 ≤ new.h2 ∧ new.h2 ≤ 16) ∧ (¬ p 7 → new.h2 = old.h2)
      ∧ (p 8 → new.h3 = num body 12 1 ∧ 4 ≤ new.h3 ∧ new.h3 ≤ 16) ∧ (¬ p 8 → new.h3 = old.h3)))
  ∧ ∀ (service : Bool) (s u : State) (body : List Byte), s.settle = u → u.asks 0x35 body →
    exec (.settingsGet service) s = .next
      (u.answered 0x35
        (okReply 0x35 (settingsBytes u.battery.settings ++ [byte u.line.rate, flagByte service])) u)

/-- The idle timer reaching the idle time, IDLE with no label READY, switches power down and the engine OFF; an idle
time of 0 switches nothing. The wake delay's end lets the first step fall due, or examines afresh the label start that
waited for the wake alone. The model's choices in it: log entries 1, 2, 20, 41. -/
def Obligations.IdlePowerAndWake : Prop :=
  (∀ s u : State, s.settle = u →
    (u.mode = .running → u.media.engine = .idle → u.someReady = false → u.battery.settings.idleTime ≠ 0 →
      exec .idleTimeout s = .next
        { u with
          now := max u.now (u.media.idleSince + u.battery.settings.idleTime * 1000000)
          media := { u.media with engine := .off, power := false, attention := u.media.counterHold } })
    ∧ (u.media.engine ≠ .idle ∨ u.someReady = true ∨ u.battery.settings.idleTime = 0 →
      exec .idleTimeout s = .next u))
  ∧ ∀ (s u : State) (m : Motion) (w : Nat), s.settle = u → u.mode = .running → u.media.motion = some m →
    m.wake = some w →
    (m.kind ≠ .awaitStart →
      exec .wakeDelayEnd s = .next
        { u with
          now := max u.now w
          media := { u.media with motion := some { m with wake := none, due := max u.now w } } })
    ∧ (m.kind = .awaitStart →
      exec .wakeDelayEnd s
        = .next (State.settleStart { u with now := max u.now w, media := { u.media with motion := none } }))
end

