-- ==== Sys2Proof/Laws/State.lean ====
section
/-! SUPPORT. What the plain updates of the state leave alone, one lemma for each update and field, each true by
rfl, so that no later proof unfolds a record update. -/

set_option Elab.async false

namespace Sys2Proof.Machine

@[simp] theorem State.atLeast_now (t : Nat) (s : State) : (State.atLeast t s).now = max s.now t := rfl
@[simp] theorem State.setCount_media (n : Nat) (s : State) :
    (State.setCount n s).media = { s.media with count := n } := rfl
@[simp] theorem State.setEvent_media (e : MediaEvent) (s : State) :
    (State.setEvent e s).media = { s.media with event := e } := rfl
@[simp] theorem State.await_dec (w : Work) (s : State) : (State.await w s).dec = { s.dec with work := w } := rfl
@[simp] theorem State.issue_array (a : Access) (s : State) : (State.issue a s).array = s.array.arrive s.now a := rfl
@[simp] theorem State.passOn_array (s : State) : (State.passOn s).array = s.array.passOn s.now := rfl
@[simp] theorem State.setScan_mode (c : Scan) (s : State) : (State.setScan c s).mode = .startUp (.scan c) := rfl
@[simp] theorem State.withCounters_battery (cs : List Counter) (s : State) :
    (State.withCounters cs s).battery = s.battery.withCounters cs := rfl
@[simp] theorem State.abandonUpload_store (s : State) : (State.abandonUpload s).store = s.store.abandon := rfl

@[simp] theorem State.atLeast_pending (t : Nat) (s : State) :
    (State.atLeast t s).pending = s.pending := rfl
@[simp] theorem State.atLeast_freeCount (t : Nat) (s : State) :
    (State.atLeast t s).freeCount = s.freeCount := rfl
@[simp] theorem State.atLeast_mode (t : Nat) (s : State) : (State.atLeast t s).mode = s.mode := rfl
@[simp] theorem State.atLeast_lines (t : Nat) (s : State) : (State.atLeast t s).lines = s.lines := rfl
@[simp] theorem State.atLeast_flash (t : Nat) (s : State) : (State.atLeast t s).flash = s.flash := rfl
@[simp] theorem State.atLeast_array (t : Nat) (s : State) : (State.atLeast t s).array = s.array := rfl
@[simp] theorem State.atLeast_store (t : Nat) (s : State) : (State.atLeast t s).store = s.store := rfl
@[simp] theorem State.atLeast_battery (t : Nat) (s : State) :
    (State.atLeast t s).battery = s.battery := rfl
@[simp] theorem State.atLeast_queue (t : Nat) (s : State) : (State.atLeast t s).queue = s.queue := rfl
@[simp] theorem State.atLeast_render (t : Nat) (s : State) : (State.atLeast t s).render = s.render := rfl
@[simp] theorem State.atLeast_burn (t : Nat) (s : State) : (State.atLeast t s).burn = s.burn := rfl
@[simp] theorem State.atLeast_media (t : Nat) (s : State) : (State.atLeast t s).media = s.media := rfl
@[simp] theorem State.atLeast_sticky (t : Nat) (s : State) : (State.atLeast t s).sticky = s.sticky := rfl
@[simp] theorem State.atLeast_line (t : Nat) (s : State) : (State.atLeast t s).line = s.line := rfl
@[simp] theorem State.atLeast_dec (t : Nat) (s : State) : (State.atLeast t s).dec = s.dec := rfl

@[simp] theorem State.takeHead_pending (item : InItem) (s : State) : (State.takeHead item s).pending = s.pending := by
  unfold State.takeHead; dsimp only; repeat' split
  all_goals rfl
@[simp] theorem State.takeHead_now (item : InItem) (s : State) : (State.takeHead item s).now = s.now := by
  unfold State.takeHead; dsimp only; repeat' split
  all_goals rfl
@[simp] theorem State.takeHead_freeCount (item : InItem) (s : State) : (State.takeHead item s).freeCount = s.freeCount := by
  unfold State.takeHead; dsimp only; repeat' split
  all_goals rfl
@[simp] theorem State.takeHead_mode (item : InItem) (s : State) : (State.takeHead item s).mode = s.mode := by
  unfold State.takeHead; dsimp only; repeat' split
  all_goals rfl
@[simp] theorem State.takeHead_lines (item : InItem) (s : State) : (State.takeHead item s).lines = s.lines := by
  unfold State.takeHead; dsimp only; repeat' split
  all_goals rfl
@[simp] theorem State.takeHead_flash (item : InItem) (s : State) : (State.takeHead item s).flash = s.flash := by
  unfold State.takeHead; dsimp only; repeat' split
  all_goals rfl
@[simp] theorem State.takeHead_array (item : InItem) (s : State) : (State.takeHead item s).array = s.array := by
  unfold State.takeHead; dsimp only; repeat' split
  all_goals rfl
@[simp] theorem State.takeHead_battery (item : InItem) (s : State) : (State.takeHead item s).battery = s.battery := by
  unfold State.takeHead; dsimp only; repeat' split
  all_goals rfl
@[simp] theorem State.takeHead_queue (item : InItem) (s : State) : (State.takeHead item s).queue = s.queue := by
  unfold State.takeHead; dsimp only; repeat' split
  all_goals rfl
@[simp] theorem State.takeHead_render (item : InItem) (s : State) : (State.takeHead item s).render = s.render := by
  unfold State.takeHead; dsimp only; repeat' split
  all_goals rfl
@[simp] theorem State.takeHead_burn (item : InItem) (s : State) : (State.takeHead item s).burn = s.burn := by
  unfold State.takeHead; dsimp only; repeat' split
  all_goals rfl
@[simp] theorem State.takeHead_media (item : InItem) (s : State) : (State.takeHead item s).media = s.media := by
  unfold State.takeHead; dsimp only; repeat' split
  all_goals rfl
@[simp] theorem State.takeHead_sticky (item : InItem) (s : State) : (State.takeHead item s).sticky = s.sticky := by
  unfold State.takeHead; dsimp only; repeat' split
  all_goals rfl
@[simp] theorem State.takeHead_line (item : InItem) (s : State) : (State.takeHead item s).line = s.line.headTaken := by
  unfold State.takeHead; dsimp only; repeat' split
  all_goals rfl

@[simp] theorem State.startUploadTimer_pending (s : State) :
    (State.startUploadTimer s).pending = s.pending := rfl
@[simp] theorem State.startUploadTimer_now (s : State) : (State.startUploadTimer s).now = s.now := rfl
@[simp] theorem State.startUploadTimer_freeCount (s : State) :
    (State.startUploadTimer s).freeCount = s.freeCount := rfl
@[simp] theorem State.startUploadTimer_mode (s : State) : (State.startUploadTimer s).mode = s.mode := rfl
@[simp] theorem State.startUploadTimer_lines (s : State) :
    (State.startUploadTimer s).lines = s.lines := rfl
@[simp] theorem State.startUploadTimer_flash (s : State) :
    (State.startUploadTimer s).flash = s.flash := rfl
@[simp] theorem State.startUploadTimer_array (s : State) :
    (State.startUploadTimer s).array = s.array := rfl
@[simp] theorem State.startUploadTimer_battery (s : State) :
    (State.startUploadTimer s).battery = s.battery := rfl
@[simp] theorem State.startUploadTimer_queue (s : State) :
    (State.startUploadTimer s).queue = s.queue := rfl
@[simp] theorem State.startUploadTimer_render (s : State) :
    (State.startUploadTimer s).render = s.render := rfl
@[simp] theorem State.startUploadTimer_burn (s : State) : (State.startUploadTimer s).burn = s.burn := rfl
@[simp] theorem State.startUploadTimer_media (s : State) :
    (State.startUploadTimer s).media = s.media := rfl
@[simp] theorem State.startUploadTimer_sticky (s : State) :
    (State.startUploadTimer s).sticky = s.sticky := rfl
@[simp] theorem State.startUploadTimer_line (s : State) : (State.startUploadTimer s).line = s.line := rfl
@[simp] theorem State.startUploadTimer_dec (s : State) : (State.startUploadTimer s).dec = s.dec := rfl

@[simp] theorem State.stopUploadTimer_pending (s : State) :
    (State.stopUploadTimer s).pending = s.pending := rfl
@[simp] theorem State.stopUploadTimer_now (s : State) : (State.stopUploadTimer s).now = s.now := rfl
@[simp] theorem State.stopUploadTimer_freeCount (s : State) :
    (State.stopUploadTimer s).freeCount = s.freeCount := rfl
@[simp] theorem State.stopUploadTimer_mode (s : State) : (State.stopUploadTimer s).mode = s.mode := rfl
@[simp] theorem State.stopUploadTimer_lines (s : State) : (State.stopUploadTimer s).lines = s.lines := rfl
@[simp] theorem State.stopUploadTimer_flash (s : State) : (State.stopUploadTimer s).flash = s.flash := rfl
@[simp] theorem State.stopUploadTimer_array (s : State) : (State.stopUploadTimer s).array = s.array := rfl
@[simp] theorem State.stopUploadTimer_battery (s : State) :
    (State.stopUploadTimer s).battery = s.battery := rfl
@[simp] theorem State.stopUploadTimer_queue (s : State) : (State.stopUploadTimer s).queue = s.queue := rfl
@[simp] theorem State.stopUploadTimer_render (s : State) :
    (State.stopUploadTimer s).render = s.render := rfl
@[simp] theorem State.stopUploadTimer_burn (s : State) : (State.stopUploadTimer s).burn = s.burn := rfl
@[simp] theorem State.stopUploadTimer_media (s : State) : (State.stopUploadTimer s).media = s.media := rfl
@[simp] theorem State.stopUploadTimer_sticky (s : State) :
    (State.stopUploadTimer s).sticky = s.sticky := rfl
@[simp] theorem State.stopUploadTimer_line (s : State) : (State.stopUploadTimer s).line = s.line := rfl
@[simp] theorem State.stopUploadTimer_dec (s : State) : (State.stopUploadTimer s).dec = s.dec := rfl

@[simp] theorem State.await_pending (work : Work) (s : State) :
    (State.await work s).pending = s.pending := rfl
@[simp] theorem State.await_now (work : Work) (s : State) : (State.await work s).now = s.now := rfl
@[simp] theorem State.await_freeCount (work : Work) (s : State) :
    (State.await work s).freeCount = s.freeCount := rfl
@[simp] theorem State.await_mode (work : Work) (s : State) : (State.await work s).mode = s.mode := rfl
@[simp] theorem State.await_lines (work : Work) (s : State) : (State.await work s).lines = s.lines := rfl
@[simp] theorem State.await_flash (work : Work) (s : State) : (State.await work s).flash = s.flash := rfl
@[simp] theorem State.await_array (work : Work) (s : State) : (State.await work s).array = s.array := rfl
@[simp] theorem State.await_store (work : Work) (s : State) : (State.await work s).store = s.store := rfl
@[simp] theorem State.await_battery (work : Work) (s : State) :
    (State.await work s).battery = s.battery := rfl
@[simp] theorem State.await_queue (work : Work) (s : State) : (State.await work s).queue = s.queue := rfl
@[simp] theorem State.await_render (work : Work) (s : State) :
    (State.await work s).render = s.render := rfl
@[simp] theorem State.await_burn (work : Work) (s : State) : (State.await work s).burn = s.burn := rfl
@[simp] theorem State.await_media (work : Work) (s : State) : (State.await work s).media = s.media := rfl
@[simp] theorem State.await_sticky (work : Work) (s : State) :
    (State.await work s).sticky = s.sticky := rfl
@[simp] theorem State.await_line (work : Work) (s : State) : (State.await work s).line = s.line := rfl

@[simp] theorem State.issue_pending (a : Access) (s : State) : (State.issue a s).pending = s.pending := rfl
@[simp] theorem State.issue_now (a : Access) (s : State) : (State.issue a s).now = s.now := rfl
@[simp] theorem State.issue_freeCount (a : Access) (s : State) :
    (State.issue a s).freeCount = s.freeCount := rfl
@[simp] theorem State.issue_mode (a : Access) (s : State) : (State.issue a s).mode = s.mode := rfl
@[simp] theorem State.issue_lines (a : Access) (s : State) : (State.issue a s).lines = s.lines := rfl
@[simp] theorem State.issue_flash (a : Access) (s : State) : (State.issue a s).flash = s.flash := rfl
@[simp] theorem State.issue_store (a : Access) (s : State) : (State.issue a s).store = s.store := rfl
@[simp] theorem State.issue_battery (a : Access) (s : State) : (State.issue a s).battery = s.battery := rfl
@[simp] theorem State.issue_queue (a : Access) (s : State) : (State.issue a s).queue = s.queue := rfl
@[simp] theorem State.issue_render (a : Access) (s : State) : (State.issue a s).render = s.render := rfl
@[simp] theorem State.issue_burn (a : Access) (s : State) : (State.issue a s).burn = s.burn := rfl
@[simp] theorem State.issue_media (a : Access) (s : State) : (State.issue a s).media = s.media := rfl
@[simp] theorem State.issue_sticky (a : Access) (s : State) : (State.issue a s).sticky = s.sticky := rfl
@[simp] theorem State.issue_line (a : Access) (s : State) : (State.issue a s).line = s.line := rfl
@[simp] theorem State.issue_dec (a : Access) (s : State) : (State.issue a s).dec = s.dec := rfl

@[simp] theorem State.passOn_pending (s : State) : (State.passOn s).pending = s.pending := rfl
@[simp] theorem State.passOn_now (s : State) : (State.passOn s).now = s.now := rfl
@[simp] theorem State.passOn_freeCount (s : State) : (State.passOn s).freeCount = s.freeCount := rfl
@[simp] theorem State.passOn_mode (s : State) : (State.passOn s).mode = s.mode := rfl
@[simp] theorem State.passOn_lines (s : State) : (State.passOn s).lines = s.lines := rfl
@[simp] theorem State.passOn_flash (s : State) : (State.passOn s).flash = s.flash := rfl
@[simp] theorem State.passOn_store (s : State) : (State.passOn s).store = s.store := rfl
@[simp] theorem State.passOn_battery (s : State) : (State.passOn s).battery = s.battery := rfl
@[simp] theorem State.passOn_queue (s : State) : (State.passOn s).queue = s.queue := rfl
@[simp] theorem State.passOn_render (s : State) : (State.passOn s).render = s.render := rfl
@[simp] theorem State.passOn_burn (s : State) : (State.passOn s).burn = s.burn := rfl
@[simp] theorem State.passOn_media (s : State) : (State.passOn s).media = s.media := rfl
@[simp] theorem State.passOn_sticky (s : State) : (State.passOn s).sticky = s.sticky := rfl
@[simp] theorem State.passOn_line (s : State) : (State.passOn s).line = s.line := rfl
@[simp] theorem State.passOn_dec (s : State) : (State.passOn s).dec = s.dec := rfl

@[simp] theorem State.cutProgram_pending (addr : Nat) (data : List Byte) (s : State) :
    (State.cutProgram addr data s).pending = s.pending := rfl
@[simp] theorem State.cutProgram_now (addr : Nat) (data : List Byte) (s : State) :
    (State.cutProgram addr data s).now = s.now := rfl
@[simp] theorem State.cutProgram_mode (addr : Nat) (data : List Byte) (s : State) :
    (State.cutProgram addr data s).mode = s.mode := rfl
@[simp] theorem State.cutProgram_lines (addr : Nat) (data : List Byte) (s : State) :
    (State.cutProgram addr data s).lines = s.lines := rfl
@[simp] theorem State.cutProgram_array (addr : Nat) (data : List Byte) (s : State) :
    (State.cutProgram addr data s).array = s.array := rfl
@[simp] theorem State.cutProgram_store (addr : Nat) (data : List Byte) (s : State) :
    (State.cutProgram addr data s).store = s.store := rfl
@[simp] theorem State.cutProgram_battery (addr : Nat) (data : List Byte) (s : State) :
    (State.cutProgram addr data s).battery = s.battery := rfl
@[simp] theorem State.cutProgram_queue (addr : Nat) (data : List Byte) (s : State) :
    (State.cutProgram addr data s).queue = s.queue := rfl
@[simp] theorem State.cutProgram_render (addr : Nat) (data : List Byte) (s : State) :
    (State.cutProgram addr data s).render = s.render := rfl
@[simp] theorem State.cutProgram_burn (addr : Nat) (data : List Byte) (s : State) :
    (State.cutProgram addr data s).burn = s.burn := rfl
@[simp] theorem State.cutProgram_media (addr : Nat) (data : List Byte) (s : State) :
    (State.cutProgram addr data s).media = s.media := rfl
@[simp] theorem State.cutProgram_sticky (addr : Nat) (data : List Byte) (s : State) :
    (State.cutProgram addr data s).sticky = s.sticky := rfl
@[simp] theorem State.cutProgram_line (addr : Nat) (data : List Byte) (s : State) :
    (State.cutProgram addr data s).line = s.line := rfl
@[simp] theorem State.cutProgram_dec (addr : Nat) (data : List Byte) (s : State) :
    (State.cutProgram addr data s).dec = s.dec := rfl

@[simp] theorem State.cutErase_pending (sector : Nat) (s : State) :
    (State.cutErase sector s).pending = s.pending := rfl
@[simp] theorem State.cutErase_now (sector : Nat) (s : State) :
    (State.cutErase sector s).now = s.now := rfl
@[simp] theorem State.cutErase_mode (sector : Nat) (s : State) :
    (State.cutErase sector s).mode = s.mode := rfl
@[simp] theorem State.cutErase_lines (sector : Nat) (s : State) :
    (State.cutErase sector s).lines = s.lines := rfl
@[simp] theorem State.cutErase_array (sector : Nat) (s : State) :
    (State.cutErase sector s).array = s.array := rfl
@[simp] theorem State.cutErase_store (sector : Nat) (s : State) :
    (State.cutErase sector s).store = s.store := rfl
@[simp] theorem State.cutErase_battery (sector : Nat) (s : State) :
    (State.cutErase sector s).battery = s.battery := rfl
@[simp] theorem State.cutErase_queue (sector : Nat) (s : State) :
    (State.cutErase sector s).queue = s.queue := rfl
@[simp] theorem State.cutErase_render (sector : Nat) (s : State) :
    (State.cutErase sector s).render = s.render := rfl
@[simp] theorem State.cutErase_burn (sector : Nat) (s : State) :
    (State.cutErase sector s).burn = s.burn := rfl
@[simp] theorem State.cutErase_media (sector : Nat) (s : State) :
    (State.cutErase sector s).media = s.media := rfl
@[simp] theorem State.cutErase_sticky (sector : Nat) (s : State) :
    (State.cutErase sector s).sticky = s.sticky := rfl
@[simp] theorem State.cutErase_line (sector : Nat) (s : State) :
    (State.cutErase sector s).line = s.line := rfl
@[simp] theorem State.cutErase_dec (sector : Nat) (s : State) :
    (State.cutErase sector s).dec = s.dec := rfl

@[simp] theorem State.withCounters_pending (cs : List Counter) (s : State) :
    (State.withCounters cs s).pending = s.pending := rfl
@[simp] theorem State.withCounters_now (cs : List Counter) (s : State) :
    (State.withCounters cs s).now = s.now := rfl
@[simp] theorem State.withCounters_freeCount (cs : List Counter) (s : State) :
    (State.withCounters cs s).freeCount = s.freeCount := rfl
@[simp] theorem State.withCounters_mode (cs : List Counter) (s : State) :
    (State.withCounters cs s).mode = s.mode := rfl
@[simp] theorem State.withCounters_lines (cs : List Counter) (s : State) :
    (State.withCounters cs s).lines = s.lines := rfl
@[simp] theorem State.withCounters_flash (cs : List Counter) (s : State) :
    (State.withCounters cs s).flash = s.flash := rfl
@[simp] theorem State.withCounters_array (cs : List Counter) (s : State) :
    (State.withCounters cs s).array = s.array := rfl
@[simp] theorem State.withCounters_store (cs : List Counter) (s : State) :
    (State.withCounters cs s).store = s.store := rfl
@[simp] theorem State.withCounters_queue (cs : List Counter) (s : State) :
    (State.withCounters cs s).queue = s.queue := rfl
@[simp] theorem State.withCounters_render (cs : List Counter) (s : State) :
    (State.withCounters cs s).render = s.render := rfl
@[simp] theorem State.withCounters_burn (cs : List Counter) (s : State) :
    (State.withCounters cs s).burn = s.burn := rfl
@[simp] theorem State.withCounters_media (cs : List Counter) (s : State) :
    (State.withCounters cs s).media = s.media := rfl
@[simp] theorem State.withCounters_sticky (cs : List Counter) (s : State) :
    (State.withCounters cs s).sticky = s.sticky := rfl
@[simp] theorem State.withCounters_line (cs : List Counter) (s : State) :
    (State.withCounters cs s).line = s.line := rfl
@[simp] theorem State.withCounters_dec (cs : List Counter) (s : State) :
    (State.withCounters cs s).dec = s.dec := rfl

@[simp] theorem State.freeAllBuffers_pending (s : State) :
    (State.freeAllBuffers s).pending = s.pending := rfl
@[simp] theorem State.freeAllBuffers_now (s : State) : (State.freeAllBuffers s).now = s.now := rfl
@[simp] theorem State.freeAllBuffers_freeCount (s : State) :
    (State.freeAllBuffers s).freeCount = s.freeCount := rfl
@[simp] theorem State.freeAllBuffers_mode (s : State) : (State.freeAllBuffers s).mode = s.mode := rfl
@[simp] theorem State.freeAllBuffers_lines (s : State) : (State.freeAllBuffers s).lines = s.lines := rfl
@[simp] theorem State.freeAllBuffers_flash (s : State) : (State.freeAllBuffers s).flash = s.flash := rfl
@[simp] theorem State.freeAllBuffers_store (s : State) : (State.freeAllBuffers s).store = s.store := rfl
@[simp] theorem State.freeAllBuffers_battery (s : State) :
    (State.freeAllBuffers s).battery = s.battery := rfl
@[simp] theorem State.freeAllBuffers_queue (s : State) : (State.freeAllBuffers s).queue = s.queue := rfl
@[simp] theorem State.freeAllBuffers_burn (s : State) : (State.freeAllBuffers s).burn = s.burn := rfl
@[simp] theorem State.freeAllBuffers_media (s : State) : (State.freeAllBuffers s).media = s.media := rfl
@[simp] theorem State.freeAllBuffers_sticky (s : State) : (State.freeAllBuffers s).sticky = s.sticky := rfl
@[simp] theorem State.freeAllBuffers_line (s : State) : (State.freeAllBuffers s).line = s.line := rfl
@[simp] theorem State.freeAllBuffers_dec (s : State) : (State.freeAllBuffers s).dec = s.dec := rfl

@[simp] theorem State.followAttention_pending (s : State) :
    (State.followAttention s).pending = s.pending := rfl
@[simp] theorem State.followAttention_now (s : State) : (State.followAttention s).now = s.now := rfl
@[simp] theorem State.followAttention_freeCount (s : State) :
    (State.followAttention s).freeCount = s.freeCount := rfl
@[simp] theorem State.followAttention_mode (s : State) : (State.followAttention s).mode = s.mode := rfl
@[simp] theorem State.followAttention_lines (s : State) : (State.followAttention s).lines = s.lines := rfl
@[simp] theorem State.followAttention_flash (s : State) : (State.followAttention s).flash = s.flash := rfl
@[simp] theorem State.followAttention_array (s : State) : (State.followAttention s).array = s.array := rfl
@[simp] theorem State.followAttention_store (s : State) : (State.followAttention s).store = s.store := rfl
@[simp] theorem State.followAttention_battery (s : State) :
    (State.followAttention s).battery = s.battery := rfl
@[simp] theorem State.followAttention_queue (s : State) : (State.followAttention s).queue = s.queue := rfl
@[simp] theorem State.followAttention_render (s : State) :
    (State.followAttention s).render = s.render := rfl
@[simp] theorem State.followAttention_burn (s : State) : (State.followAttention s).burn = s.burn := rfl
@[simp] theorem State.followAttention_sticky (s : State) :
    (State.followAttention s).sticky = s.sticky := rfl
@[simp] theorem State.followAttention_line (s : State) : (State.followAttention s).line = s.line := rfl
@[simp] theorem State.followAttention_dec (s : State) : (State.followAttention s).dec = s.dec := rfl

@[simp] theorem State.syncCounterHold_pending (s : State) :
    (State.syncCounterHold s).pending = s.pending := rfl
@[simp] theorem State.syncCounterHold_now (s : State) : (State.syncCounterHold s).now = s.now := rfl
@[simp] theorem State.syncCounterHold_freeCount (s : State) :
    (State.syncCounterHold s).freeCount = s.freeCount := rfl
@[simp] theorem State.syncCounterHold_mode (s : State) : (State.syncCounterHold s).mode = s.mode := rfl
@[simp] theorem State.syncCounterHold_lines (s : State) : (State.syncCounterHold s).lines = s.lines := rfl
@[simp] theorem State.syncCounterHold_flash (s : State) : (State.syncCounterHold s).flash = s.flash := rfl
@[simp] theorem State.syncCounterHold_array (s : State) : (State.syncCounterHold s).array = s.array := rfl
@[simp] theorem State.syncCounterHold_store (s : State) : (State.syncCounterHold s).store = s.store := rfl
@[simp] theorem State.syncCounterHold_battery (s : State) :
    (State.syncCounterHold s).battery = s.battery := rfl
@[simp] theorem State.syncCounterHold_queue (s : State) : (State.syncCounterHold s).queue = s.queue := rfl
@[simp] theorem State.syncCounterHold_render (s : State) :
    (State.syncCounterHold s).render = s.render := rfl
@[simp] theorem State.syncCounterHold_burn (s : State) : (State.syncCounterHold s).burn = s.burn := rfl
@[simp] theorem State.syncCounterHold_sticky (s : State) :
    (State.syncCounterHold s).sticky = s.sticky := rfl
@[simp] theorem State.syncCounterHold_line (s : State) : (State.syncCounterHold s).line = s.line := rfl
@[simp] theorem State.syncCounterHold_dec (s : State) : (State.syncCounterHold s).dec = s.dec := rfl

@[simp] theorem State.clearBlocked_pending (ids : List Nat) (s : State) :
    (State.clearBlocked ids s).pending = s.pending := rfl
@[simp] theorem State.clearBlocked_now (ids : List Nat) (s : State) :
    (State.clearBlocked ids s).now = s.now := rfl
@[simp] theorem State.clearBlocked_freeCount (ids : List Nat) (s : State) :
    (State.clearBlocked ids s).freeCount = s.freeCount := rfl
@[simp] theorem State.clearBlocked_mode (ids : List Nat) (s : State) :
    (State.clearBlocked ids s).mode = s.mode := rfl
@[simp] theorem State.clearBlocked_lines (ids : List Nat) (s : State) :
    (State.clearBlocked ids s).lines = s.lines := rfl
@[simp] theorem State.clearBlocked_flash (ids : List Nat) (s : State) :
    (State.clearBlocked ids s).flash = s.flash := rfl
@[simp] theorem State.clearBlocked_array (ids : List Nat) (s : State) :
    (State.clearBlocked ids s).array = s.array := rfl
@[simp] theorem State.clearBlocked_store (ids : List Nat) (s : State) :
    (State.clearBlocked ids s).store = s.store := rfl
@[simp] theorem State.clearBlocked_battery (ids : List Nat) (s : State) :
    (State.clearBlocked ids s).battery = s.battery := rfl
@[simp] theorem State.clearBlocked_render (ids : List Nat) (s : State) :
    (State.clearBlocked ids s).render = s.render := rfl
@[simp] theorem State.clearBlocked_burn (ids : List Nat) (s : State) :
    (State.clearBlocked ids s).burn = s.burn := rfl
@[simp] theorem State.clearBlocked_sticky (ids : List Nat) (s : State) :
    (State.clearBlocked ids s).sticky = s.sticky := rfl
@[simp] theorem State.clearBlocked_line (ids : List Nat) (s : State) :
    (State.clearBlocked ids s).line = s.line := rfl
@[simp] theorem State.clearBlocked_dec (ids : List Nat) (s : State) :
    (State.clearBlocked ids s).dec = s.dec := rfl

@[simp] theorem State.suspendRunning_pending (s : State) :
    (State.suspendRunning s).pending = s.pending := rfl
@[simp] theorem State.suspendRunning_now (s : State) : (State.suspendRunning s).now = s.now := rfl
@[simp] theorem State.suspendRunning_freeCount (s : State) :
    (State.suspendRunning s).freeCount = s.freeCount := rfl
@[simp] theorem State.suspendRunning_mode (s : State) : (State.suspendRunning s).mode = s.mode := rfl
@[simp] theorem State.suspendRunning_lines (s : State) : (State.suspendRunning s).lines = s.lines := rfl
@[simp] theorem State.suspendRunning_flash (s : State) : (State.suspendRunning s).flash = s.flash := rfl
@[simp] theorem State.suspendRunning_array (s : State) : (State.suspendRunning s).array = s.array := rfl
@[simp] theorem State.suspendRunning_store (s : State) : (State.suspendRunning s).store = s.store := rfl
@[simp] theorem State.suspendRunning_battery (s : State) :
    (State.suspendRunning s).battery = s.battery := rfl
@[simp] theorem State.suspendRunning_render (s : State) : (State.suspendRunning s).render = s.render := rfl
@[simp] theorem State.suspendRunning_burn (s : State) : (State.suspendRunning s).burn = s.burn := rfl
@[simp] theorem State.suspendRunning_media (s : State) : (State.suspendRunning s).media = s.media := rfl
@[simp] theorem State.suspendRunning_sticky (s : State) : (State.suspendRunning s).sticky = s.sticky := rfl
@[simp] theorem State.suspendRunning_line (s : State) : (State.suspendRunning s).line = s.line := rfl
@[simp] theorem State.suspendRunning_dec (s : State) : (State.suspendRunning s).dec = s.dec := rfl

@[simp] theorem State.drawFailed_pending (tag counter : Nat) (a : ReturnAnswer) (s : State) :
    (State.drawFailed tag counter a s).pending = s.pending := rfl
@[simp] theorem State.drawFailed_now (tag counter : Nat) (a : ReturnAnswer) (s : State) :
    (State.drawFailed tag counter a s).now = s.now := rfl
@[simp] theorem State.drawFailed_freeCount (tag counter : Nat) (a : ReturnAnswer) (s : State) :
    (State.drawFailed tag counter a s).freeCount = s.freeCount := rfl
@[simp] theorem State.drawFailed_mode (tag counter : Nat) (a : ReturnAnswer) (s : State) :
    (State.drawFailed tag counter a s).mode = s.mode := rfl
@[simp] theorem State.drawFailed_lines (tag counter : Nat) (a : ReturnAnswer) (s : State) :
    (State.drawFailed tag counter a s).lines = s.lines := rfl
@[simp] theorem State.drawFailed_flash (tag counter : Nat) (a : ReturnAnswer) (s : State) :
    (State.drawFailed tag counter a s).flash = s.flash := rfl
@[simp] theorem State.drawFailed_array (tag counter : Nat) (a : ReturnAnswer) (s : State) :
    (State.drawFailed tag counter a s).array = s.array := rfl
@[simp] theorem State.drawFailed_store (tag counter : Nat) (a : ReturnAnswer) (s : State) :
    (State.drawFailed tag counter a s).store = s.store := rfl
@[simp] theorem State.drawFailed_render (tag counter : Nat) (a : ReturnAnswer) (s : State) :
    (State.drawFailed tag counter a s).render = s.render := rfl
@[simp] theorem State.drawFailed_burn (tag counter : Nat) (a : ReturnAnswer) (s : State) :
    (State.drawFailed tag counter a s).burn = s.burn := rfl
@[simp] theorem State.drawFailed_sticky (tag counter : Nat) (a : ReturnAnswer) (s : State) :
    (State.drawFailed tag counter a s).sticky = s.sticky := rfl
@[simp] theorem State.drawFailed_line (tag counter : Nat) (a : ReturnAnswer) (s : State) :
    (State.drawFailed tag counter a s).line = s.line := rfl
@[simp] theorem State.drawFailed_dec (tag counter : Nat) (a : ReturnAnswer) (s : State) :
    (State.drawFailed tag counter a s).dec = s.dec := rfl

@[simp] theorem State.endJob_pending (tag : Nat) (outcome : JobOutcome) (s : State) :
    (State.endJob tag outcome s).pending = s.pending := rfl
@[simp] theorem State.endJob_now (tag : Nat) (outcome : JobOutcome) (s : State) :
    (State.endJob tag outcome s).now = s.now := rfl
@[simp] theorem State.endJob_freeCount (tag : Nat) (outcome : JobOutcome) (s : State) :
    (State.endJob tag outcome s).freeCount = s.freeCount := rfl
@[simp] theorem State.endJob_mode (tag : Nat) (outcome : JobOutcome) (s : State) :
    (State.endJob tag outcome s).mode = s.mode := rfl
@[simp] theorem State.endJob_lines (tag : Nat) (outcome : JobOutcome) (s : State) :
    (State.endJob tag outcome s).lines = s.lines := rfl
@[simp] theorem State.endJob_flash (tag : Nat) (outcome : JobOutcome) (s : State) :
    (State.endJob tag outcome s).flash = s.flash := rfl
@[simp] theorem State.endJob_array (tag : Nat) (outcome : JobOutcome) (s : State) :
    (State.endJob tag outcome s).array = s.array := rfl
@[simp] theorem State.endJob_store (tag : Nat) (outcome : JobOutcome) (s : State) :
    (State.endJob tag outcome s).store = s.store := rfl
@[simp] theorem State.endJob_battery (tag : Nat) (outcome : JobOutcome) (s : State) :
    (State.endJob tag outcome s).battery = s.battery := rfl
@[simp] theorem State.endJob_render (tag : Nat) (outcome : JobOutcome) (s : State) :
    (State.endJob tag outcome s).render = s.render := rfl
@[simp] theorem State.endJob_burn (tag : Nat) (outcome : JobOutcome) (s : State) :
    (State.endJob tag outcome s).burn = s.burn := rfl
@[simp] theorem State.endJob_media (tag : Nat) (outcome : JobOutcome) (s : State) :
    (State.endJob tag outcome s).media = s.media := rfl
@[simp] theorem State.endJob_sticky (tag : Nat) (outcome : JobOutcome) (s : State) :
    (State.endJob tag outcome s).sticky = s.sticky := rfl
@[simp] theorem State.endJob_line (tag : Nat) (outcome : JobOutcome) (s : State) :
    (State.endJob tag outcome s).line = s.line := rfl
@[simp] theorem State.endJob_dec (tag : Nat) (outcome : JobOutcome) (s : State) :
    (State.endJob tag outcome s).dec = s.dec := rfl

@[simp] theorem State.departJob_pending (j : Job) (s : State) :
    (State.departJob j s).pending = s.pending := rfl
@[simp] theorem State.departJob_now (j : Job) (s : State) : (State.departJob j s).now = s.now := rfl
@[simp] theorem State.departJob_freeCount (j : Job) (s : State) :
    (State.departJob j s).freeCount = s.freeCount := rfl
@[simp] theorem State.departJob_mode (j : Job) (s : State) : (State.departJob j s).mode = s.mode := rfl
@[simp] theorem State.departJob_lines (j : Job) (s : State) : (State.departJob j s).lines = s.lines := rfl
@[simp] theorem State.departJob_flash (j : Job) (s : State) : (State.departJob j s).flash = s.flash := rfl
@[simp] theorem State.departJob_array (j : Job) (s : State) : (State.departJob j s).array = s.array := rfl
@[simp] theorem State.departJob_render (j : Job) (s : State) :
    (State.departJob j s).render = s.render := rfl
@[simp] theorem State.departJob_burn (j : Job) (s : State) : (State.departJob j s).burn = s.burn := rfl
@[simp] theorem State.departJob_sticky (j : Job) (s : State) :
    (State.departJob j s).sticky = s.sticky := rfl
@[simp] theorem State.departJob_line (j : Job) (s : State) : (State.departJob j s).line = s.line := rfl
@[simp] theorem State.departJob_dec (j : Job) (s : State) : (State.departJob j s).dec = s.dec := rfl

@[simp] theorem State.replaceLast_pending (l : LastLabel) (s : State) :
    (State.replaceLast l s).pending = s.pending := rfl
@[simp] theorem State.replaceLast_now (l : LastLabel) (s : State) :
    (State.replaceLast l s).now = s.now := rfl
@[simp] theorem State.replaceLast_freeCount (l : LastLabel) (s : State) :
    (State.replaceLast l s).freeCount = s.freeCount := rfl
@[simp] theorem State.replaceLast_mode (l : LastLabel) (s : State) :
    (State.replaceLast l s).mode = s.mode := rfl
@[simp] theorem State.replaceLast_lines (l : LastLabel) (s : State) :
    (State.replaceLast l s).lines = s.lines := rfl
@[simp] theorem State.replaceLast_flash (l : LastLabel) (s : State) :
    (State.replaceLast l s).flash = s.flash := rfl
@[simp] theorem State.replaceLast_array (l : LastLabel) (s : State) :
    (State.replaceLast l s).array = s.array := rfl
@[simp] theorem State.replaceLast_battery (l : LastLabel) (s : State) :
    (State.replaceLast l s).battery = s.battery := rfl
@[simp] theorem State.replaceLast_render (l : LastLabel) (s : State) :
    (State.replaceLast l s).render = s.render := rfl
@[simp] theorem State.replaceLast_burn (l : LastLabel) (s : State) :
    (State.replaceLast l s).burn = s.burn := rfl
@[simp] theorem State.replaceLast_media (l : LastLabel) (s : State) :
    (State.replaceLast l s).media = s.media := rfl
@[simp] theorem State.replaceLast_sticky (l : LastLabel) (s : State) :
    (State.replaceLast l s).sticky = s.sticky := rfl
@[simp] theorem State.replaceLast_line (l : LastLabel) (s : State) :
    (State.replaceLast l s).line = s.line := rfl
@[simp] theorem State.replaceLast_dec (l : LastLabel) (s : State) :
    (State.replaceLast l s).dec = s.dec := rfl

@[simp] theorem State.removeTicket_pending (key : TicketKey) (s : State) :
    (State.removeTicket key s).pending = s.pending := rfl
@[simp] theorem State.removeTicket_now (key : TicketKey) (s : State) :
    (State.removeTicket key s).now = s.now := rfl
@[simp] theorem State.removeTicket_freeCount (key : TicketKey) (s : State) :
    (State.removeTicket key s).freeCount = s.freeCount := rfl
@[simp] theorem State.removeTicket_mode (key : TicketKey) (s : State) :
    (State.removeTicket key s).mode = s.mode := rfl
@[simp] theorem State.removeTicket_lines (key : TicketKey) (s : State) :
    (State.removeTicket key s).lines = s.lines := rfl
@[simp] theorem State.removeTicket_flash (key : TicketKey) (s : State) :
    (State.removeTicket key s).flash = s.flash := rfl
@[simp] theorem State.removeTicket_array (key : TicketKey) (s : State) :
    (State.removeTicket key s).array = s.array := rfl
@[simp] theorem State.removeTicket_store (key : TicketKey) (s : State) :
    (State.removeTicket key s).store = s.store := rfl
@[simp] theorem State.removeTicket_battery (key : TicketKey) (s : State) :
    (State.removeTicket key s).battery = s.battery := rfl
@[simp] theorem State.removeTicket_render (key : TicketKey) (s : State) :
    (State.removeTicket key s).render = s.render := rfl
@[simp] theorem State.removeTicket_burn (key : TicketKey) (s : State) :
    (State.removeTicket key s).burn = s.burn := rfl
@[simp] theorem State.removeTicket_media (key : TicketKey) (s : State) :
    (State.removeTicket key s).media = s.media := rfl
@[simp] theorem State.removeTicket_sticky (key : TicketKey) (s : State) :
    (State.removeTicket key s).sticky = s.sticky := rfl
@[simp] theorem State.removeTicket_line (key : TicketKey) (s : State) :
    (State.removeTicket key s).line = s.line := rfl
@[simp] theorem State.removeTicket_dec (key : TicketKey) (s : State) :
    (State.removeTicket key s).dec = s.dec := rfl

@[simp] theorem State.transit_pending (f : Media → Media) (s : State) :
    (State.transit f s).pending = s.pending := rfl
@[simp] theorem State.transit_now (f : Media → Media) (s : State) : (State.transit f s).now = s.now := rfl
@[simp] theorem State.transit_freeCount (f : Media → Media) (s : State) :
    (State.transit f s).freeCount = s.freeCount := rfl
@[simp] theorem State.transit_mode (f : Media → Media) (s : State) :
    (State.transit f s).mode = s.mode := rfl
@[simp] theorem State.transit_lines (f : Media → Media) (s : State) :
    (State.transit f s).lines = s.lines := rfl
@[simp] theorem State.transit_flash (f : Media → Media) (s : State) :
    (State.transit f s).flash = s.flash := rfl
@[simp] theorem State.transit_array (f : Media → Media) (s : State) :
    (State.transit f s).array = s.array := rfl
@[simp] theorem State.transit_store (f : Media → Media) (s : State) :
    (State.transit f s).store = s.store := rfl
@[simp] theorem State.transit_battery (f : Media → Media) (s : State) :
    (State.transit f s).battery = s.battery := rfl
@[simp] theorem State.transit_queue (f : Media → Media) (s : State) :
    (State.transit f s).queue = s.queue := rfl
@[simp] theorem State.transit_render (f : Media → Media) (s : State) :
    (State.transit f s).render = s.render := rfl
@[simp] theorem State.transit_burn (f : Media → Media) (s : State) :
    (State.transit f s).burn = s.burn := rfl
@[simp] theorem State.transit_sticky (f : Media → Media) (s : State) :
    (State.transit f s).sticky = s.sticky := rfl
@[simp] theorem State.transit_line (f : Media → Media) (s : State) :
    (State.transit f s).line = s.line := rfl
@[simp] theorem State.transit_dec (f : Media → Media) (s : State) : (State.transit f s).dec = s.dec := rfl

@[simp] theorem State.setCount_pending (n : Nat) (s : State) :
    (State.setCount n s).pending = s.pending := rfl
@[simp] theorem State.setCount_now (n : Nat) (s : State) : (State.setCount n s).now = s.now := rfl
@[simp] theorem State.setCount_freeCount (n : Nat) (s : State) :
    (State.setCount n s).freeCount = s.freeCount := rfl
@[simp] theorem State.setCount_mode (n : Nat) (s : State) : (State.setCount n s).mode = s.mode := rfl
@[simp] theorem State.setCount_lines (n : Nat) (s : State) : (State.setCount n s).lines = s.lines := rfl
@[simp] theorem State.setCount_flash (n : Nat) (s : State) : (State.setCount n s).flash = s.flash := rfl
@[simp] theorem State.setCount_array (n : Nat) (s : State) : (State.setCount n s).array = s.array := rfl
@[simp] theorem State.setCount_store (n : Nat) (s : State) : (State.setCount n s).store = s.store := rfl
@[simp] theorem State.setCount_battery (n : Nat) (s : State) :
    (State.setCount n s).battery = s.battery := rfl
@[simp] theorem State.setCount_queue (n : Nat) (s : State) : (State.setCount n s).queue = s.queue := rfl
@[simp] theorem State.setCount_render (n : Nat) (s : State) : (State.setCount n s).render = s.render := rfl
@[simp] theorem State.setCount_burn (n : Nat) (s : State) : (State.setCount n s).burn = s.burn := rfl
@[simp] theorem State.setCount_line (n : Nat) (s : State) : (State.setCount n s).line = s.line := rfl
@[simp] theorem State.setCount_dec (n : Nat) (s : State) : (State.setCount n s).dec = s.dec := rfl

@[simp] theorem State.startBurn_pending (t : Ticket) (s : State) :
    (State.startBurn t s).pending = s.pending := rfl
@[simp] theorem State.startBurn_now (t : Ticket) (s : State) : (State.startBurn t s).now = s.now := rfl
@[simp] theorem State.startBurn_freeCount (t : Ticket) (s : State) :
    (State.startBurn t s).freeCount = s.freeCount := rfl
@[simp] theorem State.startBurn_mode (t : Ticket) (s : State) : (State.startBurn t s).mode = s.mode := rfl
@[simp] theorem State.startBurn_lines (t : Ticket) (s : State) :
    (State.startBurn t s).lines = s.lines := rfl
@[simp] theorem State.startBurn_flash (t : Ticket) (s : State) :
    (State.startBurn t s).flash = s.flash := rfl
@[simp] theorem State.startBurn_array (t : Ticket) (s : State) :
    (State.startBurn t s).array = s.array := rfl
@[simp] theorem State.startBurn_store (t : Ticket) (s : State) :
    (State.startBurn t s).store = s.store := rfl
@[simp] theorem State.startBurn_battery (t : Ticket) (s : State) :
    (State.startBurn t s).battery = s.battery := rfl
@[simp] theorem State.startBurn_queue (t : Ticket) (s : State) :
    (State.startBurn t s).queue = s.queue := rfl
@[simp] theorem State.startBurn_render (t : Ticket) (s : State) :
    (State.startBurn t s).render = s.render := rfl
@[simp] theorem State.startBurn_media (t : Ticket) (s : State) :
    (State.startBurn t s).media = s.media := rfl
@[simp] theorem State.startBurn_sticky (t : Ticket) (s : State) :
    (State.startBurn t s).sticky = s.sticky := rfl
@[simp] theorem State.startBurn_line (t : Ticket) (s : State) : (State.startBurn t s).line = s.line := rfl
@[simp] theorem State.startBurn_dec (t : Ticket) (s : State) : (State.startBurn t s).dec = s.dec := rfl

@[simp] theorem State.loadLine_pending (n i : Nat) (t : Ticket) (v : LabelValues) (s : State) :
    (State.loadLine n i t v s).pending = s.pending := rfl
@[simp] theorem State.loadLine_now (n i : Nat) (t : Ticket) (v : LabelValues) (s : State) :
    (State.loadLine n i t v s).now = s.now := rfl
@[simp] theorem State.loadLine_freeCount (n i : Nat) (t : Ticket) (v : LabelValues) (s : State) :
    (State.loadLine n i t v s).freeCount = s.freeCount := rfl
@[simp] theorem State.loadLine_mode (n i : Nat) (t : Ticket) (v : LabelValues) (s : State) :
    (State.loadLine n i t v s).mode = s.mode := rfl
@[simp] theorem State.loadLine_lines (n i : Nat) (t : Ticket) (v : LabelValues) (s : State) :
    (State.loadLine n i t v s).lines = s.lines := rfl
@[simp] theorem State.loadLine_flash (n i : Nat) (t : Ticket) (v : LabelValues) (s : State) :
    (State.loadLine n i t v s).flash = s.flash := rfl
@[simp] theorem State.loadLine_array (n i : Nat) (t : Ticket) (v : LabelValues) (s : State) :
    (State.loadLine n i t v s).array = s.array := rfl
@[simp] theorem State.loadLine_store (n i : Nat) (t : Ticket) (v : LabelValues) (s : State) :
    (State.loadLine n i t v s).store = s.store := rfl
@[simp] theorem State.loadLine_battery (n i : Nat) (t : Ticket) (v : LabelValues) (s : State) :
    (State.loadLine n i t v s).battery = s.battery := rfl
@[simp] theorem State.loadLine_sticky (n i : Nat) (t : Ticket) (v : LabelValues) (s : State) :
    (State.loadLine n i t v s).sticky = s.sticky := rfl
@[simp] theorem State.loadLine_line (n i : Nat) (t : Ticket) (v : LabelValues) (s : State) :
    (State.loadLine n i t v s).line = s.line := rfl
@[simp] theorem State.loadLine_dec (n i : Nat) (t : Ticket) (v : LabelValues) (s : State) :
    (State.loadLine n i t v s).dec = s.dec := rfl

@[simp] theorem State.requestHold_pending (reasons : Holds) (s : State) :
    (State.requestHold reasons s).pending = s.pending := rfl
@[simp] theorem State.requestHold_now (reasons : Holds) (s : State) :
    (State.requestHold reasons s).now = s.now := rfl
@[simp] theorem State.requestHold_freeCount (reasons : Holds) (s : State) :
    (State.requestHold reasons s).freeCount = s.freeCount := rfl
@[simp] theorem State.requestHold_mode (reasons : Holds) (s : State) :
    (State.requestHold reasons s).mode = s.mode := rfl
@[simp] theorem State.requestHold_lines (reasons : Holds) (s : State) :
    (State.requestHold reasons s).lines = s.lines := rfl
@[simp] theorem State.requestHold_flash (reasons : Holds) (s : State) :
    (State.requestHold reasons s).flash = s.flash := rfl
@[simp] theorem State.requestHold_array (reasons : Holds) (s : State) :
    (State.requestHold reasons s).array = s.array := rfl
@[simp] theorem State.requestHold_store (reasons : Holds) (s : State) :
    (State.requestHold reasons s).store = s.store := rfl
@[simp] theorem State.requestHold_battery (reasons : Holds) (s : State) :
    (State.requestHold reasons s).battery = s.battery := rfl
@[simp] theorem State.requestHold_queue (reasons : Holds) (s : State) :
    (State.requestHold reasons s).queue = s.queue := rfl
@[simp] theorem State.requestHold_render (reasons : Holds) (s : State) :
    (State.requestHold reasons s).render = s.render := rfl
@[simp] theorem State.requestHold_line (reasons : Holds) (s : State) :
    (State.requestHold reasons s).line = s.line := rfl
@[simp] theorem State.requestHold_dec (reasons : Holds) (s : State) :
    (State.requestHold reasons s).dec = s.dec := rfl

@[simp] theorem State.startMotion_pending (kind : MotionKind) (engine : Engine) (forLabel forRecovery : Bool) (s : State) :
    (State.startMotion kind engine forLabel forRecovery s).pending = s.pending := rfl
@[simp] theorem State.startMotion_now (kind : MotionKind) (engine : Engine) (forLabel forRecovery : Bool) (s : State) :
    (State.startMotion kind engine forLabel forRecovery s).now = s.now := rfl
@[simp] theorem State.startMotion_freeCount (kind : MotionKind) (engine : Engine) (forLabel forRecovery : Bool) (s : State) :
    (State.startMotion kind engine forLabel forRecovery s).freeCount = s.freeCount := rfl
@[simp] theorem State.startMotion_mode (kind : MotionKind) (engine : Engine) (forLabel forRecovery : Bool) (s : State) :
    (State.startMotion kind engine forLabel forRecovery s).mode = s.mode := rfl
@[simp] theorem State.startMotion_lines (kind : MotionKind) (engine : Engine) (forLabel forRecovery : Bool) (s : State) :
    (State.startMotion kind engine forLabel forRecovery s).lines = s.lines := rfl
@[simp] theorem State.startMotion_flash (kind : MotionKind) (engine : Engine) (forLabel forRecovery : Bool) (s : State) :
    (State.startMotion kind engine forLabel forRecovery s).flash = s.flash := rfl
@[simp] theorem State.startMotion_array (kind : MotionKind) (engine : Engine) (forLabel forRecovery : Bool) (s : State) :
    (State.startMotion kind engine forLabel forRecovery s).array = s.array := rfl
@[simp] theorem State.startMotion_store (kind : MotionKind) (engine : Engine) (forLabel forRecovery : Bool) (s : State) :
    (State.startMotion kind engine forLabel forRecovery s).store = s.store := rfl
@[simp] theorem State.startMotion_battery (kind : MotionKind) (engine : Engine) (forLabel forRecovery : Bool) (s : State) :
    (State.startMotion kind engine forLabel forRecovery s).battery = s.battery := rfl
@[simp] theorem State.startMotion_queue (kind : MotionKind) (engine : Engine) (forLabel forRecovery : Bool) (s : State) :
    (State.startMotion kind engine forLabel forRecovery s).queue = s.queue := rfl
@[simp] theorem State.startMotion_render (kind : MotionKind) (engine : Engine) (forLabel forRecovery : Bool) (s : State) :
    (State.startMotion kind engine forLabel forRecovery s).render = s.render := rfl
@[simp] theorem State.startMotion_burn (kind : MotionKind) (engine : Engine) (forLabel forRecovery : Bool) (s : State) :
    (State.startMotion kind engine forLabel forRecovery s).burn = s.burn := rfl
@[simp] theorem State.startMotion_sticky (kind : MotionKind) (engine : Engine) (forLabel forRecovery : Bool) (s : State) :
    (State.startMotion kind engine forLabel forRecovery s).sticky = s.sticky := rfl
@[simp] theorem State.startMotion_line (kind : MotionKind) (engine : Engine) (forLabel forRecovery : Bool) (s : State) :
    (State.startMotion kind engine forLabel forRecovery s).line = s.line := rfl
@[simp] theorem State.startMotion_dec (kind : MotionKind) (engine : Engine) (forLabel forRecovery : Bool) (s : State) :
    (State.startMotion kind engine forLabel forRecovery s).dec = s.dec := rfl

@[simp] theorem State.rest_pending (s : State) : (State.rest s).pending = s.pending := rfl
@[simp] theorem State.rest_now (s : State) : (State.rest s).now = s.now := rfl
@[simp] theorem State.rest_freeCount (s : State) : (State.rest s).freeCount = s.freeCount := rfl
@[simp] theorem State.rest_mode (s : State) : (State.rest s).mode = s.mode := rfl
@[simp] theorem State.rest_lines (s : State) : (State.rest s).lines = s.lines := rfl
@[simp] theorem State.rest_flash (s : State) : (State.rest s).flash = s.flash := rfl
@[simp] theorem State.rest_array (s : State) : (State.rest s).array = s.array := rfl
@[simp] theorem State.rest_store (s : State) : (State.rest s).store = s.store := rfl
@[simp] theorem State.rest_battery (s : State) : (State.rest s).battery = s.battery := rfl
@[simp] theorem State.rest_queue (s : State) : (State.rest s).queue = s.queue := rfl
@[simp] theorem State.rest_render (s : State) : (State.rest s).render = s.render := rfl
@[simp] theorem State.rest_burn (s : State) : (State.rest s).burn = s.burn := rfl
@[simp] theorem State.rest_sticky (s : State) : (State.rest s).sticky = s.sticky := rfl
@[simp] theorem State.rest_line (s : State) : (State.rest s).line = s.line := rfl
@[simp] theorem State.rest_dec (s : State) : (State.rest s).dec = s.dec := rfl

@[simp] theorem State.enterPause_pending (s : State) : (State.enterPause s).pending = s.pending := rfl
@[simp] theorem State.enterPause_now (s : State) : (State.enterPause s).now = s.now := rfl
@[simp] theorem State.enterPause_freeCount (s : State) :
    (State.enterPause s).freeCount = s.freeCount := rfl
@[simp] theorem State.enterPause_mode (s : State) : (State.enterPause s).mode = s.mode := rfl
@[simp] theorem State.enterPause_lines (s : State) : (State.enterPause s).lines = s.lines := rfl
@[simp] theorem State.enterPause_flash (s : State) : (State.enterPause s).flash = s.flash := rfl
@[simp] theorem State.enterPause_array (s : State) : (State.enterPause s).array = s.array := rfl
@[simp] theorem State.enterPause_store (s : State) : (State.enterPause s).store = s.store := rfl
@[simp] theorem State.enterPause_battery (s : State) : (State.enterPause s).battery = s.battery := rfl
@[simp] theorem State.enterPause_queue (s : State) : (State.enterPause s).queue = s.queue := rfl
@[simp] theorem State.enterPause_render (s : State) : (State.enterPause s).render = s.render := rfl
@[simp] theorem State.enterPause_burn (s : State) : (State.enterPause s).burn = s.burn := rfl
@[simp] theorem State.enterPause_sticky (s : State) : (State.enterPause s).sticky = s.sticky := rfl
@[simp] theorem State.enterPause_line (s : State) : (State.enterPause s).line = s.line := rfl
@[simp] theorem State.enterPause_dec (s : State) : (State.enterPause s).dec = s.dec := rfl

@[simp] theorem State.startResync_pending (forLabel : Bool) (s : State) :
    (State.startResync forLabel s).pending = s.pending := rfl
@[simp] theorem State.startResync_now (forLabel : Bool) (s : State) :
    (State.startResync forLabel s).now = s.now := rfl
@[simp] theorem State.startResync_freeCount (forLabel : Bool) (s : State) :
    (State.startResync forLabel s).freeCount = s.freeCount := rfl
@[simp] theorem State.startResync_mode (forLabel : Bool) (s : State) :
    (State.startResync forLabel s).mode = s.mode := rfl
@[simp] theorem State.startResync_lines (forLabel : Bool) (s : State) :
    (State.startResync forLabel s).lines = s.lines := rfl
@[simp] theorem State.startResync_flash (forLabel : Bool) (s : State) :
    (State.startResync forLabel s).flash = s.flash := rfl
@[simp] theorem State.startResync_array (forLabel : Bool) (s : State) :
    (State.startResync forLabel s).array = s.array := rfl
@[simp] theorem State.startResync_store (forLabel : Bool) (s : State) :
    (State.startResync forLabel s).store = s.store := rfl
@[simp] theorem State.startResync_battery (forLabel : Bool) (s : State) :
    (State.startResync forLabel s).battery = s.battery := rfl
@[simp] theorem State.startResync_queue (forLabel : Bool) (s : State) :
    (State.startResync forLabel s).queue = s.queue := rfl
@[simp] theorem State.startResync_render (forLabel : Bool) (s : State) :
    (State.startResync forLabel s).render = s.render := rfl
@[simp] theorem State.startResync_burn (forLabel : Bool) (s : State) :
    (State.startResync forLabel s).burn = s.burn := rfl
@[simp] theorem State.startResync_sticky (forLabel : Bool) (s : State) :
    (State.startResync forLabel s).sticky = s.sticky := rfl
@[simp] theorem State.startResync_line (forLabel : Bool) (s : State) :
    (State.startResync forLabel s).line = s.line := rfl
@[simp] theorem State.startResync_dec (forLabel : Bool) (s : State) :
    (State.startResync forLabel s).dec = s.dec := rfl

@[simp] theorem State.setEvent_pending (e : MediaEvent) (s : State) :
    (State.setEvent e s).pending = s.pending := rfl
@[simp] theorem State.setEvent_now (e : MediaEvent) (s : State) : (State.setEvent e s).now = s.now := rfl
@[simp] theorem State.setEvent_freeCount (e : MediaEvent) (s : State) :
    (State.setEvent e s).freeCount = s.freeCount := rfl
@[simp] theorem State.setEvent_mode (e : MediaEvent) (s : State) :
    (State.setEvent e s).mode = s.mode := rfl
@[simp] theorem State.setEvent_lines (e : MediaEvent) (s : State) :
    (State.setEvent e s).lines = s.lines := rfl
@[simp] theorem State.setEvent_flash (e : MediaEvent) (s : State) :
    (State.setEvent e s).flash = s.flash := rfl
@[simp] theorem State.setEvent_array (e : MediaEvent) (s : State) :
    (State.setEvent e s).array = s.array := rfl
@[simp] theorem State.setEvent_store (e : MediaEvent) (s : State) :
    (State.setEvent e s).store = s.store := rfl
@[simp] theorem State.setEvent_battery (e : MediaEvent) (s : State) :
    (State.setEvent e s).battery = s.battery := rfl
@[simp] theorem State.setEvent_queue (e : MediaEvent) (s : State) :
    (State.setEvent e s).queue = s.queue := rfl
@[simp] theorem State.setEvent_render (e : MediaEvent) (s : State) :
    (State.setEvent e s).render = s.render := rfl
@[simp] theorem State.setEvent_burn (e : MediaEvent) (s : State) :
    (State.setEvent e s).burn = s.burn := rfl
@[simp] theorem State.setEvent_sticky (e : MediaEvent) (s : State) :
    (State.setEvent e s).sticky = s.sticky := rfl
@[simp] theorem State.setEvent_line (e : MediaEvent) (s : State) :
    (State.setEvent e s).line = s.line := rfl
@[simp] theorem State.setEvent_dec (e : MediaEvent) (s : State) : (State.setEvent e s).dec = s.dec := rfl

@[simp] theorem State.setKind_pending (k : MotionKind) (s : State) :
    (State.setKind k s).pending = s.pending := rfl
@[simp] theorem State.setKind_now (k : MotionKind) (s : State) : (State.setKind k s).now = s.now := rfl
@[simp] theorem State.setKind_freeCount (k : MotionKind) (s : State) :
    (State.setKind k s).freeCount = s.freeCount := rfl
@[simp] theorem State.setKind_mode (k : MotionKind) (s : State) : (State.setKind k s).mode = s.mode := rfl
@[simp] theorem State.setKind_lines (k : MotionKind) (s : State) :
    (State.setKind k s).lines = s.lines := rfl
@[simp] theorem State.setKind_flash (k : MotionKind) (s : State) :
    (State.setKind k s).flash = s.flash := rfl
@[simp] theorem State.setKind_array (k : MotionKind) (s : State) :
    (State.setKind k s).array = s.array := rfl
@[simp] theorem State.setKind_store (k : MotionKind) (s : State) :
    (State.setKind k s).store = s.store := rfl
@[simp] theorem State.setKind_battery (k : MotionKind) (s : State) :
    (State.setKind k s).battery = s.battery := rfl
@[simp] theorem State.setKind_queue (k : MotionKind) (s : State) :
    (State.setKind k s).queue = s.queue := rfl
@[simp] theorem State.setKind_render (k : MotionKind) (s : State) :
    (State.setKind k s).render = s.render := rfl
@[simp] theorem State.setKind_burn (k : MotionKind) (s : State) : (State.setKind k s).burn = s.burn := rfl
@[simp] theorem State.setKind_sticky (k : MotionKind) (s : State) :
    (State.setKind k s).sticky = s.sticky := rfl
@[simp] theorem State.setKind_line (k : MotionKind) (s : State) : (State.setKind k s).line = s.line := rfl
@[simp] theorem State.setKind_dec (k : MotionKind) (s : State) : (State.setKind k s).dec = s.dec := rfl

@[simp] theorem State.setDue_pending (t : Nat) (s : State) : (State.setDue t s).pending = s.pending := rfl
@[simp] theorem State.setDue_now (t : Nat) (s : State) : (State.setDue t s).now = s.now := rfl
@[simp] theorem State.setDue_freeCount (t : Nat) (s : State) :
    (State.setDue t s).freeCount = s.freeCount := rfl
@[simp] theorem State.setDue_mode (t : Nat) (s : State) : (State.setDue t s).mode = s.mode := rfl
@[simp] theorem State.setDue_lines (t : Nat) (s : State) : (State.setDue t s).lines = s.lines := rfl
@[simp] theorem State.setDue_flash (t : Nat) (s : State) : (State.setDue t s).flash = s.flash := rfl
@[simp] theorem State.setDue_array (t : Nat) (s : State) : (State.setDue t s).array = s.array := rfl
@[simp] theorem State.setDue_store (t : Nat) (s : State) : (State.setDue t s).store = s.store := rfl
@[simp] theorem State.setDue_battery (t : Nat) (s : State) : (State.setDue t s).battery = s.battery := rfl
@[simp] theorem State.setDue_queue (t : Nat) (s : State) : (State.setDue t s).queue = s.queue := rfl
@[simp] theorem State.setDue_render (t : Nat) (s : State) : (State.setDue t s).render = s.render := rfl
@[simp] theorem State.setDue_burn (t : Nat) (s : State) : (State.setDue t s).burn = s.burn := rfl
@[simp] theorem State.setDue_sticky (t : Nat) (s : State) : (State.setDue t s).sticky = s.sticky := rfl
@[simp] theorem State.setDue_line (t : Nat) (s : State) : (State.setDue t s).line = s.line := rfl
@[simp] theorem State.setDue_dec (t : Nat) (s : State) : (State.setDue t s).dec = s.dec := rfl

@[simp] theorem State.setReference_pending (s : State) : (State.setReference s).pending = s.pending := rfl
@[simp] theorem State.setReference_now (s : State) : (State.setReference s).now = s.now := rfl
@[simp] theorem State.setReference_freeCount (s : State) :
    (State.setReference s).freeCount = s.freeCount := rfl
@[simp] theorem State.setReference_mode (s : State) : (State.setReference s).mode = s.mode := rfl
@[simp] theorem State.setReference_lines (s : State) : (State.setReference s).lines = s.lines := rfl
@[simp] theorem State.setReference_flash (s : State) : (State.setReference s).flash = s.flash := rfl
@[simp] theorem State.setReference_array (s : State) : (State.setReference s).array = s.array := rfl
@[simp] theorem State.setReference_store (s : State) : (State.setReference s).store = s.store := rfl
@[simp] theorem State.setReference_battery (s : State) : (State.setReference s).battery = s.battery := rfl
@[simp] theorem State.setReference_queue (s : State) : (State.setReference s).queue = s.queue := rfl
@[simp] theorem State.setReference_render (s : State) : (State.setReference s).render = s.render := rfl
@[simp] theorem State.setReference_burn (s : State) : (State.setReference s).burn = s.burn := rfl
@[simp] theorem State.setReference_sticky (s : State) : (State.setReference s).sticky = s.sticky := rfl
@[simp] theorem State.setReference_line (s : State) : (State.setReference s).line = s.line := rfl
@[simp] theorem State.setReference_dec (s : State) : (State.setReference s).dec = s.dec := rfl

@[simp] theorem State.counterCheck_pending (s : State) : (State.counterCheck s).pending = s.pending := rfl
@[simp] theorem State.counterCheck_now (s : State) : (State.counterCheck s).now = s.now := rfl
@[simp] theorem State.counterCheck_freeCount (s : State) :
    (State.counterCheck s).freeCount = s.freeCount := rfl
@[simp] theorem State.counterCheck_mode (s : State) : (State.counterCheck s).mode = s.mode := rfl
@[simp] theorem State.counterCheck_lines (s : State) : (State.counterCheck s).lines = s.lines := rfl
@[simp] theorem State.counterCheck_flash (s : State) : (State.counterCheck s).flash = s.flash := rfl
@[simp] theorem State.counterCheck_array (s : State) : (State.counterCheck s).array = s.array := rfl
@[simp] theorem State.counterCheck_store (s : State) : (State.counterCheck s).store = s.store := rfl
@[simp] theorem State.counterCheck_queue (s : State) : (State.counterCheck s).queue = s.queue := rfl
@[simp] theorem State.counterCheck_render (s : State) : (State.counterCheck s).render = s.render := rfl
@[simp] theorem State.counterCheck_burn (s : State) : (State.counterCheck s).burn = s.burn := rfl
@[simp] theorem State.counterCheck_media (s : State) : (State.counterCheck s).media = s.media := rfl
@[simp] theorem State.counterCheck_line (s : State) : (State.counterCheck s).line = s.line := rfl
@[simp] theorem State.counterCheck_dec (s : State) : (State.counterCheck s).dec = s.dec := rfl

@[simp] theorem State.setScan_pending (c : Scan) (s : State) :
    (State.setScan c s).pending = s.pending := rfl
@[simp] theorem State.setScan_now (c : Scan) (s : State) : (State.setScan c s).now = s.now := rfl
@[simp] theorem State.setScan_freeCount (c : Scan) (s : State) :
    (State.setScan c s).freeCount = s.freeCount := rfl
@[simp] theorem State.setScan_lines (c : Scan) (s : State) : (State.setScan c s).lines = s.lines := rfl
@[simp] theorem State.setScan_flash (c : Scan) (s : State) : (State.setScan c s).flash = s.flash := rfl
@[simp] theorem State.setScan_array (c : Scan) (s : State) : (State.setScan c s).array = s.array := rfl
@[simp] theorem State.setScan_store (c : Scan) (s : State) : (State.setScan c s).store = s.store := rfl
@[simp] theorem State.setScan_battery (c : Scan) (s : State) :
    (State.setScan c s).battery = s.battery := rfl
@[simp] theorem State.setScan_queue (c : Scan) (s : State) : (State.setScan c s).queue = s.queue := rfl
@[simp] theorem State.setScan_render (c : Scan) (s : State) : (State.setScan c s).render = s.render := rfl
@[simp] theorem State.setScan_burn (c : Scan) (s : State) : (State.setScan c s).burn = s.burn := rfl
@[simp] theorem State.setScan_media (c : Scan) (s : State) : (State.setScan c s).media = s.media := rfl
@[simp] theorem State.setScan_sticky (c : Scan) (s : State) : (State.setScan c s).sticky = s.sticky := rfl
@[simp] theorem State.setScan_line (c : Scan) (s : State) : (State.setScan c s).line = s.line := rfl
@[simp] theorem State.setScan_dec (c : Scan) (s : State) : (State.setScan c s).dec = s.dec := rfl

@[simp] theorem State.scanIssue_pending (op : AccessOp) (s : State) :
    (State.scanIssue op s).pending = s.pending := rfl
@[simp] theorem State.scanIssue_now (op : AccessOp) (s : State) : (State.scanIssue op s).now = s.now := rfl
@[simp] theorem State.scanIssue_freeCount (op : AccessOp) (s : State) :
    (State.scanIssue op s).freeCount = s.freeCount := rfl
@[simp] theorem State.scanIssue_mode (op : AccessOp) (s : State) :
    (State.scanIssue op s).mode = s.mode := rfl
@[simp] theorem State.scanIssue_lines (op : AccessOp) (s : State) :
    (State.scanIssue op s).lines = s.lines := rfl
@[simp] theorem State.scanIssue_flash (op : AccessOp) (s : State) :
    (State.scanIssue op s).flash = s.flash := rfl
@[simp] theorem State.scanIssue_store (op : AccessOp) (s : State) :
    (State.scanIssue op s).store = s.store := rfl
@[simp] theorem State.scanIssue_battery (op : AccessOp) (s : State) :
    (State.scanIssue op s).battery = s.battery := rfl
@[simp] theorem State.scanIssue_queue (op : AccessOp) (s : State) :
    (State.scanIssue op s).queue = s.queue := rfl
@[simp] theorem State.scanIssue_render (op : AccessOp) (s : State) :
    (State.scanIssue op s).render = s.render := rfl
@[simp] theorem State.scanIssue_burn (op : AccessOp) (s : State) :
    (State.scanIssue op s).burn = s.burn := rfl
@[simp] theorem State.scanIssue_media (op : AccessOp) (s : State) :
    (State.scanIssue op s).media = s.media := rfl
@[simp] theorem State.scanIssue_sticky (op : AccessOp) (s : State) :
    (State.scanIssue op s).sticky = s.sticky := rfl
@[simp] theorem State.scanIssue_line (op : AccessOp) (s : State) :
    (State.scanIssue op s).line = s.line := rfl
@[simp] theorem State.scanIssue_dec (op : AccessOp) (s : State) : (State.scanIssue op s).dec = s.dec := rfl

@[simp] theorem State.decoderIssue_pending (op : AccessOp) (work : Work) (s : State) :
    (State.decoderIssue op work s).pending = s.pending := rfl
@[simp] theorem State.decoderIssue_now (op : AccessOp) (work : Work) (s : State) :
    (State.decoderIssue op work s).now = s.now := rfl
@[simp] theorem State.decoderIssue_freeCount (op : AccessOp) (work : Work) (s : State) :
    (State.decoderIssue op work s).freeCount = s.freeCount := rfl
@[simp] theorem State.decoderIssue_mode (op : AccessOp) (work : Work) (s : State) :
    (State.decoderIssue op work s).mode = s.mode := rfl
@[simp] theorem State.decoderIssue_lines (op : AccessOp) (work : Work) (s : State) :
    (State.decoderIssue op work s).lines = s.lines := rfl
@[simp] theorem State.decoderIssue_flash (op : AccessOp) (work : Work) (s : State) :
    (State.decoderIssue op work s).flash = s.flash := rfl
@[simp] theorem State.decoderIssue_store (op : AccessOp) (work : Work) (s : State) :
    (State.decoderIssue op work s).store = s.store := rfl
@[simp] theorem State.decoderIssue_battery (op : AccessOp) (work : Work) (s : State) :
    (State.decoderIssue op work s).battery = s.battery := rfl
@[simp] theorem State.decoderIssue_queue (op : AccessOp) (work : Work) (s : State) :
    (State.decoderIssue op work s).queue = s.queue := rfl
@[simp] theorem State.decoderIssue_render (op : AccessOp) (work : Work) (s : State) :
    (State.decoderIssue op work s).render = s.render := rfl
@[simp] theorem State.decoderIssue_burn (op : AccessOp) (work : Work) (s : State) :
    (State.decoderIssue op work s).burn = s.burn := rfl
@[simp] theorem State.decoderIssue_media (op : AccessOp) (work : Work) (s : State) :
    (State.decoderIssue op work s).media = s.media := rfl
@[simp] theorem State.decoderIssue_sticky (op : AccessOp) (work : Work) (s : State) :
    (State.decoderIssue op work s).sticky = s.sticky := rfl
@[simp] theorem State.decoderIssue_line (op : AccessOp) (work : Work) (s : State) :
    (State.decoderIssue op work s).line = s.line := rfl

@[simp] theorem State.abandonUpload_pending (s : State) :
    (State.abandonUpload s).pending = s.pending := rfl
@[simp] theorem State.abandonUpload_now (s : State) : (State.abandonUpload s).now = s.now := rfl
@[simp] theorem State.abandonUpload_freeCount (s : State) :
    (State.abandonUpload s).freeCount = s.freeCount := rfl
@[simp] theorem State.abandonUpload_mode (s : State) : (State.abandonUpload s).mode = s.mode := rfl
@[simp] theorem State.abandonUpload_lines (s : State) : (State.abandonUpload s).lines = s.lines := rfl
@[simp] theorem State.abandonUpload_flash (s : State) : (State.abandonUpload s).flash = s.flash := rfl
@[simp] theorem State.abandonUpload_array (s : State) : (State.abandonUpload s).array = s.array := rfl
@[simp] theorem State.abandonUpload_battery (s : State) :
    (State.abandonUpload s).battery = s.battery := rfl
@[simp] theorem State.abandonUpload_queue (s : State) : (State.abandonUpload s).queue = s.queue := rfl
@[simp] theorem State.abandonUpload_render (s : State) : (State.abandonUpload s).render = s.render := rfl
@[simp] theorem State.abandonUpload_burn (s : State) : (State.abandonUpload s).burn = s.burn := rfl
@[simp] theorem State.abandonUpload_media (s : State) : (State.abandonUpload s).media = s.media := rfl
@[simp] theorem State.abandonUpload_sticky (s : State) : (State.abandonUpload s).sticky = s.sticky := rfl
@[simp] theorem State.abandonUpload_line (s : State) : (State.abandonUpload s).line = s.line := rfl
@[simp] theorem State.abandonUpload_dec (s : State) : (State.abandonUpload s).dec = s.dec := rfl

@[simp] theorem State.setStoreFault_pending (s : State) :
    (State.setStoreFault s).pending = s.pending := rfl
@[simp] theorem State.setStoreFault_now (s : State) : (State.setStoreFault s).now = s.now := rfl
@[simp] theorem State.setStoreFault_freeCount (s : State) :
    (State.setStoreFault s).freeCount = s.freeCount := rfl
@[simp] theorem State.setStoreFault_mode (s : State) : (State.setStoreFault s).mode = s.mode := rfl
@[simp] theorem State.setStoreFault_lines (s : State) : (State.setStoreFault s).lines = s.lines := rfl
@[simp] theorem State.setStoreFault_flash (s : State) : (State.setStoreFault s).flash = s.flash := rfl
@[simp] theorem State.setStoreFault_array (s : State) : (State.setStoreFault s).array = s.array := rfl
@[simp] theorem State.setStoreFault_store (s : State) : (State.setStoreFault s).store = s.store := rfl
@[simp] theorem State.setStoreFault_battery (s : State) :
    (State.setStoreFault s).battery = s.battery := rfl
@[simp] theorem State.setStoreFault_queue (s : State) : (State.setStoreFault s).queue = s.queue := rfl
@[simp] theorem State.setStoreFault_render (s : State) : (State.setStoreFault s).render = s.render := rfl
@[simp] theorem State.setStoreFault_burn (s : State) : (State.setStoreFault s).burn = s.burn := rfl
@[simp] theorem State.setStoreFault_media (s : State) : (State.setStoreFault s).media = s.media := rfl
@[simp] theorem State.setStoreFault_line (s : State) : (State.setStoreFault s).line = s.line := rfl
@[simp] theorem State.setStoreFault_dec (s : State) : (State.setStoreFault s).dec = s.dec := rfl

@[simp] theorem State.openUpload_pending (e : DirEntry) (s : State) :
    (State.openUpload e s).pending = s.pending := rfl
@[simp] theorem State.openUpload_now (e : DirEntry) (s : State) : (State.openUpload e s).now = s.now := rfl
@[simp] theorem State.openUpload_freeCount (e : DirEntry) (s : State) :
    (State.openUpload e s).freeCount = s.freeCount := rfl
@[simp] theorem State.openUpload_mode (e : DirEntry) (s : State) :
    (State.openUpload e s).mode = s.mode := rfl
@[simp] theorem State.openUpload_lines (e : DirEntry) (s : State) :
    (State.openUpload e s).lines = s.lines := rfl
@[simp] theorem State.openUpload_flash (e : DirEntry) (s : State) :
    (State.openUpload e s).flash = s.flash := rfl
@[simp] theorem State.openUpload_battery (e : DirEntry) (s : State) :
    (State.openUpload e s).battery = s.battery := rfl
@[simp] theorem State.openUpload_queue (e : DirEntry) (s : State) :
    (State.openUpload e s).queue = s.queue := rfl
@[simp] theorem State.openUpload_render (e : DirEntry) (s : State) :
    (State.openUpload e s).render = s.render := rfl
@[simp] theorem State.openUpload_burn (e : DirEntry) (s : State) :
    (State.openUpload e s).burn = s.burn := rfl
@[simp] theorem State.openUpload_media (e : DirEntry) (s : State) :
    (State.openUpload e s).media = s.media := rfl
@[simp] theorem State.openUpload_sticky (e : DirEntry) (s : State) :
    (State.openUpload e s).sticky = s.sticky := rfl
@[simp] theorem State.openUpload_line (e : DirEntry) (s : State) :
    (State.openUpload e s).line = s.line := rfl

@[simp] theorem State.issueCommit_pending (check : Nat) (u : Upload) (s : State) :
    (State.issueCommit check u s).pending = s.pending := rfl
@[simp] theorem State.issueCommit_now (check : Nat) (u : Upload) (s : State) :
    (State.issueCommit check u s).now = s.now := rfl
@[simp] theorem State.issueCommit_freeCount (check : Nat) (u : Upload) (s : State) :
    (State.issueCommit check u s).freeCount = s.freeCount := rfl
@[simp] theorem State.issueCommit_mode (check : Nat) (u : Upload) (s : State) :
    (State.issueCommit check u s).mode = s.mode := rfl
@[simp] theorem State.issueCommit_lines (check : Nat) (u : Upload) (s : State) :
    (State.issueCommit check u s).lines = s.lines := rfl
@[simp] theorem State.issueCommit_flash (check : Nat) (u : Upload) (s : State) :
    (State.issueCommit check u s).flash = s.flash := rfl
@[simp] theorem State.issueCommit_store (check : Nat) (u : Upload) (s : State) :
    (State.issueCommit check u s).store = s.store := rfl
@[simp] theorem State.issueCommit_battery (check : Nat) (u : Upload) (s : State) :
    (State.issueCommit check u s).battery = s.battery := rfl
@[simp] theorem State.issueCommit_queue (check : Nat) (u : Upload) (s : State) :
    (State.issueCommit check u s).queue = s.queue := rfl
@[simp] theorem State.issueCommit_render (check : Nat) (u : Upload) (s : State) :
    (State.issueCommit check u s).render = s.render := rfl
@[simp] theorem State.issueCommit_burn (check : Nat) (u : Upload) (s : State) :
    (State.issueCommit check u s).burn = s.burn := rfl
@[simp] theorem State.issueCommit_media (check : Nat) (u : Upload) (s : State) :
    (State.issueCommit check u s).media = s.media := rfl
@[simp] theorem State.issueCommit_sticky (check : Nat) (u : Upload) (s : State) :
    (State.issueCommit check u s).sticky = s.sticky := rfl
@[simp] theorem State.issueCommit_line (check : Nat) (u : Upload) (s : State) :
    (State.issueCommit check u s).line = s.line := rfl

@[simp] theorem State.giveUp_pending (n : Nat) (s : State) : (State.giveUp n s).pending = s.pending := rfl
@[simp] theorem State.giveUp_now (n : Nat) (s : State) : (State.giveUp n s).now = s.now := rfl
@[simp] theorem State.giveUp_mode (n : Nat) (s : State) : (State.giveUp n s).mode = s.mode := rfl
@[simp] theorem State.giveUp_lines (n : Nat) (s : State) : (State.giveUp n s).lines = s.lines := rfl
@[simp] theorem State.giveUp_battery (n : Nat) (s : State) : (State.giveUp n s).battery = s.battery := rfl
@[simp] theorem State.giveUp_queue (n : Nat) (s : State) : (State.giveUp n s).queue = s.queue := rfl
@[simp] theorem State.giveUp_render (n : Nat) (s : State) : (State.giveUp n s).render = s.render := rfl
@[simp] theorem State.giveUp_burn (n : Nat) (s : State) : (State.giveUp n s).burn = s.burn := rfl
@[simp] theorem State.giveUp_media (n : Nat) (s : State) : (State.giveUp n s).media = s.media := rfl
@[simp] theorem State.giveUp_line (n : Nat) (s : State) : (State.giveUp n s).line = s.line := rfl
@[simp] theorem State.giveUp_dec (n : Nat) (s : State) : (State.giveUp n s).dec = s.dec := rfl

@[simp] theorem State.freeSector_pending (n : Nat) (s : State) :
    (State.freeSector n s).pending = s.pending := rfl
@[simp] theorem State.freeSector_now (n : Nat) (s : State) : (State.freeSector n s).now = s.now := rfl
@[simp] theorem State.freeSector_freeCount (n : Nat) (s : State) :
    (State.freeSector n s).freeCount = s.freeCount := rfl
@[simp] theorem State.freeSector_mode (n : Nat) (s : State) : (State.freeSector n s).mode = s.mode := rfl
@[simp] theorem State.freeSector_lines (n : Nat) (s : State) :
    (State.freeSector n s).lines = s.lines := rfl
@[simp] theorem State.freeSector_flash (n : Nat) (s : State) :
    (State.freeSector n s).flash = s.flash := rfl
@[simp] theorem State.freeSector_battery (n : Nat) (s : State) :
    (State.freeSector n s).battery = s.battery := rfl
@[simp] theorem State.freeSector_queue (n : Nat) (s : State) :
    (State.freeSector n s).queue = s.queue := rfl
@[simp] theorem State.freeSector_render (n : Nat) (s : State) :
    (State.freeSector n s).render = s.render := rfl
@[simp] theorem State.freeSector_burn (n : Nat) (s : State) : (State.freeSector n s).burn = s.burn := rfl
@[simp] theorem State.freeSector_media (n : Nat) (s : State) :
    (State.freeSector n s).media = s.media := rfl
@[simp] theorem State.freeSector_sticky (n : Nat) (s : State) :
    (State.freeSector n s).sticky = s.sticky := rfl
@[simp] theorem State.freeSector_line (n : Nat) (s : State) : (State.freeSector n s).line = s.line := rfl
@[simp] theorem State.freeSector_dec (n : Nat) (s : State) : (State.freeSector n s).dec = s.dec := rfl

@[simp] theorem State.putCounter_pending (id : Nat) (c : Counter) (s : State) :
    (State.putCounter id c s).pending = s.pending := rfl
@[simp] theorem State.putCounter_now (id : Nat) (c : Counter) (s : State) :
    (State.putCounter id c s).now = s.now := rfl
@[simp] theorem State.putCounter_freeCount (id : Nat) (c : Counter) (s : State) :
    (State.putCounter id c s).freeCount = s.freeCount := rfl
@[simp] theorem State.putCounter_mode (id : Nat) (c : Counter) (s : State) :
    (State.putCounter id c s).mode = s.mode := rfl
@[simp] theorem State.putCounter_lines (id : Nat) (c : Counter) (s : State) :
    (State.putCounter id c s).lines = s.lines := rfl
@[simp] theorem State.putCounter_flash (id : Nat) (c : Counter) (s : State) :
    (State.putCounter id c s).flash = s.flash := rfl
@[simp] theorem State.putCounter_array (id : Nat) (c : Counter) (s : State) :
    (State.putCounter id c s).array = s.array := rfl
@[simp] theorem State.putCounter_store (id : Nat) (c : Counter) (s : State) :
    (State.putCounter id c s).store = s.store := rfl
@[simp] theorem State.putCounter_queue (id : Nat) (c : Counter) (s : State) :
    (State.putCounter id c s).queue = s.queue := rfl
@[simp] theorem State.putCounter_render (id : Nat) (c : Counter) (s : State) :
    (State.putCounter id c s).render = s.render := rfl
@[simp] theorem State.putCounter_burn (id : Nat) (c : Counter) (s : State) :
    (State.putCounter id c s).burn = s.burn := rfl
@[simp] theorem State.putCounter_media (id : Nat) (c : Counter) (s : State) :
    (State.putCounter id c s).media = s.media := rfl
@[simp] theorem State.putCounter_sticky (id : Nat) (c : Counter) (s : State) :
    (State.putCounter id c s).sticky = s.sticky := rfl
@[simp] theorem State.putCounter_line (id : Nat) (c : Counter) (s : State) :
    (State.putCounter id c s).line = s.line := rfl
@[simp] theorem State.putCounter_dec (id : Nat) (c : Counter) (s : State) :
    (State.putCounter id c s).dec = s.dec := rfl

@[simp] theorem State.seeBattery_pending (below : Bool) (s : State) :
    (State.seeBattery below s).pending = s.pending := rfl
@[simp] theorem State.seeBattery_now (below : Bool) (s : State) :
    (State.seeBattery below s).now = s.now := rfl
@[simp] theorem State.seeBattery_freeCount (below : Bool) (s : State) :
    (State.seeBattery below s).freeCount = s.freeCount := rfl
@[simp] theorem State.seeBattery_mode (below : Bool) (s : State) :
    (State.seeBattery below s).mode = s.mode := rfl
@[simp] theorem State.seeBattery_flash (below : Bool) (s : State) :
    (State.seeBattery below s).flash = s.flash := rfl
@[simp] theorem State.seeBattery_array (below : Bool) (s : State) :
    (State.seeBattery below s).array = s.array := rfl
@[simp] theorem State.seeBattery_store (below : Bool) (s : State) :
    (State.seeBattery below s).store = s.store := rfl
@[simp] theorem State.seeBattery_battery (below : Bool) (s : State) :
    (State.seeBattery below s).battery = s.battery := rfl
@[simp] theorem State.seeBattery_queue (below : Bool) (s : State) :
    (State.seeBattery below s).queue = s.queue := rfl
@[simp] theorem State.seeBattery_render (below : Bool) (s : State) :
    (State.seeBattery below s).render = s.render := rfl
@[simp] theorem State.seeBattery_burn (below : Bool) (s : State) :
    (State.seeBattery below s).burn = s.burn := rfl
@[simp] theorem State.seeBattery_media (below : Bool) (s : State) :
    (State.seeBattery below s).media = s.media := rfl
@[simp] theorem State.seeBattery_line (below : Bool) (s : State) :
    (State.seeBattery below s).line = s.line := rfl
@[simp] theorem State.seeBattery_dec (below : Bool) (s : State) :
    (State.seeBattery below s).dec = s.dec := rfl

@[simp] theorem State.setStage_pending (stage : LineStage) (s : State) :
    (State.setStage stage s).pending = s.pending := rfl
@[simp] theorem State.setStage_now (stage : LineStage) (s : State) :
    (State.setStage stage s).now = s.now := rfl
@[simp] theorem State.setStage_freeCount (stage : LineStage) (s : State) :
    (State.setStage stage s).freeCount = s.freeCount := rfl
@[simp] theorem State.setStage_mode (stage : LineStage) (s : State) :
    (State.setStage stage s).mode = s.mode := rfl
@[simp] theorem State.setStage_lines (stage : LineStage) (s : State) :
    (State.setStage stage s).lines = s.lines := rfl
@[simp] theorem State.setStage_flash (stage : LineStage) (s : State) :
    (State.setStage stage s).flash = s.flash := rfl
@[simp] theorem State.setStage_array (stage : LineStage) (s : State) :
    (State.setStage stage s).array = s.array := rfl
@[simp] theorem State.setStage_store (stage : LineStage) (s : State) :
    (State.setStage stage s).store = s.store := rfl
@[simp] theorem State.setStage_battery (stage : LineStage) (s : State) :
    (State.setStage stage s).battery = s.battery := rfl
@[simp] theorem State.setStage_queue (stage : LineStage) (s : State) :
    (State.setStage stage s).queue = s.queue := rfl
@[simp] theorem State.setStage_render (stage : LineStage) (s : State) :
    (State.setStage stage s).render = s.render := rfl
@[simp] theorem State.setStage_media (stage : LineStage) (s : State) :
    (State.setStage stage s).media = s.media := rfl
@[simp] theorem State.setStage_sticky (stage : LineStage) (s : State) :
    (State.setStage stage s).sticky = s.sticky := rfl
@[simp] theorem State.setStage_line (stage : LineStage) (s : State) :
    (State.setStage stage s).line = s.line := rfl
@[simp] theorem State.setStage_dec (stage : LineStage) (s : State) :
    (State.setStage stage s).dec = s.dec := rfl

@[simp] theorem State.powerDown_pending (s : State) : (State.powerDown s).pending = s.pending := rfl
@[simp] theorem State.powerDown_now (s : State) : (State.powerDown s).now = s.now := rfl
@[simp] theorem State.powerDown_freeCount (s : State) : (State.powerDown s).freeCount = s.freeCount := rfl
@[simp] theorem State.powerDown_mode (s : State) : (State.powerDown s).mode = s.mode := rfl
@[simp] theorem State.powerDown_lines (s : State) : (State.powerDown s).lines = s.lines := rfl
@[simp] theorem State.powerDown_flash (s : State) : (State.powerDown s).flash = s.flash := rfl
@[simp] theorem State.powerDown_array (s : State) : (State.powerDown s).array = s.array := rfl
@[simp] theorem State.powerDown_store (s : State) : (State.powerDown s).store = s.store := rfl
@[simp] theorem State.powerDown_battery (s : State) : (State.powerDown s).battery = s.battery := rfl
@[simp] theorem State.powerDown_queue (s : State) : (State.powerDown s).queue = s.queue := rfl
@[simp] theorem State.powerDown_render (s : State) : (State.powerDown s).render = s.render := rfl
@[simp] theorem State.powerDown_burn (s : State) : (State.powerDown s).burn = s.burn := rfl
@[simp] theorem State.powerDown_sticky (s : State) : (State.powerDown s).sticky = s.sticky := rfl
@[simp] theorem State.powerDown_line (s : State) : (State.powerDown s).line = s.line := rfl
@[simp] theorem State.powerDown_dec (s : State) : (State.powerDown s).dec = s.dec := rfl

@[simp] theorem State.writeSettings_pending (st : Settings) (s : State) :
    (State.writeSettings st s).pending = s.pending := rfl
@[simp] theorem State.writeSettings_now (st : Settings) (s : State) :
    (State.writeSettings st s).now = s.now := rfl
@[simp] theorem State.writeSettings_freeCount (st : Settings) (s : State) :
    (State.writeSettings st s).freeCount = s.freeCount := rfl
@[simp] theorem State.writeSettings_mode (st : Settings) (s : State) :
    (State.writeSettings st s).mode = s.mode := rfl
@[simp] theorem State.writeSettings_lines (st : Settings) (s : State) :
    (State.writeSettings st s).lines = s.lines := rfl
@[simp] theorem State.writeSettings_flash (st : Settings) (s : State) :
    (State.writeSettings st s).flash = s.flash := rfl
@[simp] theorem State.writeSettings_array (st : Settings) (s : State) :
    (State.writeSettings st s).array = s.array := rfl
@[simp] theorem State.writeSettings_store (st : Settings) (s : State) :
    (State.writeSettings st s).store = s.store := rfl
@[simp] theorem State.writeSettings_queue (st : Settings) (s : State) :
    (State.writeSettings st s).queue = s.queue := rfl
@[simp] theorem State.writeSettings_render (st : Settings) (s : State) :
    (State.writeSettings st s).render = s.render := rfl
@[simp] theorem State.writeSettings_burn (st : Settings) (s : State) :
    (State.writeSettings st s).burn = s.burn := rfl
@[simp] theorem State.writeSettings_media (st : Settings) (s : State) :
    (State.writeSettings st s).media = s.media := rfl
@[simp] theorem State.writeSettings_sticky (st : Settings) (s : State) :
    (State.writeSettings st s).sticky = s.sticky := rfl
@[simp] theorem State.writeSettings_line (st : Settings) (s : State) :
    (State.writeSettings st s).line = s.line := rfl
@[simp] theorem State.writeSettings_dec (st : Settings) (s : State) :
    (State.writeSettings st s).dec = s.dec := rfl

@[simp] theorem State.clearSticky_pending (mask : Byte) (s : State) :
    (State.clearSticky mask s).pending = s.pending := rfl
@[simp] theorem State.clearSticky_now (mask : Byte) (s : State) :
    (State.clearSticky mask s).now = s.now := rfl
@[simp] theorem State.clearSticky_freeCount (mask : Byte) (s : State) :
    (State.clearSticky mask s).freeCount = s.freeCount := rfl
@[simp] theorem State.clearSticky_mode (mask : Byte) (s : State) :
    (State.clearSticky mask s).mode = s.mode := rfl
@[simp] theorem State.clearSticky_lines (mask : Byte) (s : State) :
    (State.clearSticky mask s).lines = s.lines := rfl
@[simp] theorem State.clearSticky_flash (mask : Byte) (s : State) :
    (State.clearSticky mask s).flash = s.flash := rfl
@[simp] theorem State.clearSticky_array (mask : Byte) (s : State) :
    (State.clearSticky mask s).array = s.array := rfl
@[simp] theorem State.clearSticky_store (mask : Byte) (s : State) :
    (State.clearSticky mask s).store = s.store := rfl
@[simp] theorem State.clearSticky_battery (mask : Byte) (s : State) :
    (State.clearSticky mask s).battery = s.battery := rfl
@[simp] theorem State.clearSticky_queue (mask : Byte) (s : State) :
    (State.clearSticky mask s).queue = s.queue := rfl
@[simp] theorem State.clearSticky_render (mask : Byte) (s : State) :
    (State.clearSticky mask s).render = s.render := rfl
@[simp] theorem State.clearSticky_burn (mask : Byte) (s : State) :
    (State.clearSticky mask s).burn = s.burn := rfl
@[simp] theorem State.clearSticky_media (mask : Byte) (s : State) :
    (State.clearSticky mask s).media = s.media := rfl
@[simp] theorem State.clearSticky_line (mask : Byte) (s : State) :
    (State.clearSticky mask s).line = s.line := rfl
@[simp] theorem State.clearSticky_dec (mask : Byte) (s : State) :
    (State.clearSticky mask s).dec = s.dec := rfl

/-! ## The causes set -/

@[simp] theorem State.setCauses_pending (causes : Causes) (s : State) : (State.setCauses causes s).pending = s.pending := rfl
@[simp] theorem State.setCauses_now (causes : Causes) (s : State) : (State.setCauses causes s).now = s.now := rfl
@[simp] theorem State.setCauses_freeCount (causes : Causes) (s : State) : (State.setCauses causes s).freeCount = s.freeCount := rfl
@[simp] theorem State.setCauses_mode (causes : Causes) (s : State) : (State.setCauses causes s).mode = s.mode := rfl
@[simp] theorem State.setCauses_lines (causes : Causes) (s : State) : (State.setCauses causes s).lines = s.lines := rfl
@[simp] theorem State.setCauses_flash (causes : Causes) (s : State) : (State.setCauses causes s).flash = s.flash := rfl
@[simp] theorem State.setCauses_array (causes : Causes) (s : State) : (State.setCauses causes s).array = s.array := rfl
@[simp] theorem State.setCauses_store (causes : Causes) (s : State) : (State.setCauses causes s).store = s.store := rfl
@[simp] theorem State.setCauses_battery (causes : Causes) (s : State) : (State.setCauses causes s).battery = s.battery := rfl
@[simp] theorem State.setCauses_queue (causes : Causes) (s : State) : (State.setCauses causes s).queue = s.queue := rfl
@[simp] theorem State.setCauses_render (causes : Causes) (s : State) : (State.setCauses causes s).render = s.render := rfl
@[simp] theorem State.setCauses_burn (causes : Causes) (s : State) : (State.setCauses causes s).burn = s.burn := rfl
@[simp] theorem State.setCauses_sticky (causes : Causes) (s : State) : (State.setCauses causes s).sticky = s.sticky := rfl
@[simp] theorem State.setCauses_line (causes : Causes) (s : State) : (State.setCauses causes s).line = s.line := rfl
@[simp] theorem State.setCauses_dec (causes : Causes) (s : State) : (State.setCauses causes s).dec = s.dec := rfl
@[simp] theorem State.setCauses_causes (causes : Causes) (s : State) :
    (State.setCauses causes s).media.causes = causes := rfl
@[simp] theorem State.setCauses_engine (causes : Causes) (s : State) :
    (State.setCauses causes s).media.engine = s.media.engine := rfl
@[simp] theorem State.setCauses_notice (causes : Causes) (s : State) :
    (State.setCauses causes s).media.notice = s.media.notice := rfl

/-- What the offer of room to the pending ENGINE notice can do: nothing, or the notice placed and its slot emptied
(R177, R185). -/
theorem State.placeEngine_cases (s : State) :
    s.placeEngine = s ∨ ∃ n, s.media.notice = some n ∧
      s.placeEngine = { s.place (engineFrame n) with media := { s.media with notice := none } } := by
  unfold State.placeEngine
  split
  · rename_i n hn
    split
    · exact .inr ⟨n, hn, rfl⟩
    · exact .inl rfl
  · exact .inl rfl

/-- What the taking of a waiting geometry request can do: nothing, or the first page of its table read (R140). -/
theorem State.takeGeometry_cases (s : State) :
    s.takeGeometry = s ∨ ∃ items field page left, s.dec.work = .awaitTable items field page left
      ∧ s.mode = .running ∧ s.render.hand = none ∧ s.takeGeometry = s.readTable items field page left := by
  unfold State.takeGeometry
  split
  · rename_i items field page left hw
    split
    · rename_i h
      exact .inr ⟨items, field, page, left, hw, by simpa [State.isRunning] using h.1, by simpa using h.2, rfl⟩
    · exact .inl rfl
  · exact .inl rfl

end Sys2Proof.Machine
end

