-- ==== Sys2Proof/Laws/BoardFrame.lean ====
section
/-! SUPPORT. The operations that leave the levels of the board's lines alone. -/

set_option Elab.async false

namespace Sys2Proof.Machine

@[simp] theorem State.beginSending_lines (s : State) : (State.beginSending s).lines = s.lines := by
  unfold State.beginSending
  split <;> simp

@[simp] theorem State.place_lines (frame : List Byte) (s : State) : (State.place frame s).lines = s.lines := by simp [State.place]

@[simp] theorem State.wakeDecoder_lines (s : State) : (State.wakeDecoder s).lines = s.lines := by
  unfold State.wakeDecoder
  split <;> simp

@[simp] theorem State.reply_lines (kind : Byte) (body : List Byte) (s : State) :
    (State.reply kind body s).lines = s.lines := by
  unfold State.reply
  split <;> simp

@[simp] theorem State.ok_lines (payload : List Byte) (s : State) : (State.ok payload s).lines = s.lines := by simp [State.ok]

@[simp] theorem State.refuse_lines (reason : Reason) (detail : Nat) (s : State) :
    (State.refuse reason detail s).lines = s.lines := by simp [State.refuse]

@[simp] theorem State.begun_lines (kind : Byte) (s : State) : (State.begun kind s).lines = s.lines := by
  unfold State.begun
  split <;> simp

theorem State.onRequest_lines (code : Nat) (run : List Byte → State → State) (s : State) (h : ∀ b x, (run b x).lines = x.lines) :
    (State.onRequest code run s).lines = s.lines := by
  unfold State.onRequest
  repeat' split
  all_goals simp [h]

@[simp] theorem State.cutArray_lines (s : State) : (State.cutArray s).lines = s.lines := by
  unfold State.cutArray
  repeat' split
  all_goals simp

@[simp] theorem State.abandonDrawing_lines (keys : List TicketKey) (s : State) :
    (State.abandonDrawing keys s).lines = s.lines := by
  unfold State.abandonDrawing
  repeat' split
  all_goals simp

@[simp] theorem State.freeTickets_lines (keys : List TicketKey) (s : State) :
    (State.freeTickets keys s).lines = s.lines := by simp [State.freeTickets]

@[simp] theorem State.readHand_lines (s : State) : (State.readHand s).lines = s.lines := by
  unfold State.readHand
  repeat' split
  all_goals simp

@[simp] theorem State.takeBuffer_lines (i : Nat) (t : Ticket) (s : State) :
    (State.takeBuffer i t s).lines = s.lines := by simp [State.takeBuffer]

@[simp] theorem State.readTable_lines (items : JobItems) (field page : Nat) (left : List Nat) (s : State) :
    (State.readTable items field page left s).lines = s.lines := rfl

@[simp] theorem State.askGeometry_lines (items : JobItems) (field page : Nat) (left : List Nat) (s : State) :
    (State.askGeometry items field page left s).lines = s.lines := by
  unfold State.askGeometry
  split <;> rfl

@[simp] theorem State.takeGeometry_lines (s : State) : (State.takeGeometry s).lines = s.lines := by
  unfold State.takeGeometry
  repeat' split
  all_goals simp

@[simp] theorem State.renderNext_lines (s : State) : (State.renderNext s).lines = s.lines := by
  unfold State.renderNext
  repeat' split
  all_goals simp

@[simp] theorem State.printableChanged_lines (s : State) : (State.printableChanged s).lines = s.lines := by simp [State.printableChanged]

@[simp] theorem State.appendTicket_lines (t : Ticket) (s : State) : (State.appendTicket t s).lines = s.lines := by simp [State.appendTicket]

@[simp] theorem State.createCopy_lines (tag label copy copies : Nat) (values : List Drawn) (s : State) :
    (State.createCopy tag label copy copies values s).lines = s.lines := by simp [State.createCopy]

@[simp] theorem State.createReprint_lines (l : LastLabel) (s : State) : (State.createReprint l s).lines = s.lines := by simp [State.createReprint]

@[simp] theorem State.createGroup_lines (j : Job) (values : List Drawn) (cs : List Counter) (s : State) :
    (State.createGroup j values cs s).lines = s.lines := by simp [State.createGroup]

@[simp] theorem State.choose_lines (n : Nat) (s : State) : (State.choose n s).lines = s.lines := by
  induction n generalizing s with
  | zero => simp [State.choose]
  | succ n ih =>
    unfold State.choose
    repeat' split
    all_goals simp [ih]

@[simp] theorem State.boundary_lines (s : State) : (State.boundary s).lines = s.lines := by
  unfold State.boundary
  split <;> simp

@[simp] theorem State.reportAble_lines (ids : List Nat) (s : State) : (State.reportAble ids s).lines = s.lines := by
  unfold State.reportAble
  split <;> simp

@[simp] theorem State.settleGroup_lines (j : Job) (t : Ticket) (s : State) :
    (State.settleGroup j t s).lines = s.lines := by
  unfold State.settleGroup
  repeat' split
  all_goals simp

@[simp] theorem State.endIfDone_lines (tag : Nat) (s : State) : (State.endIfDone tag s).lines = s.lines := by
  unfold State.endIfDone
  repeat' split
  all_goals simp

@[simp] theorem State.completeTicket_lines (t : Ticket) (s : State) : (State.completeTicket t s).lines = s.lines := by
  unfold State.completeTicket
  repeat' split
  all_goals simp

@[simp] theorem State.voidTicket_lines (t : Ticket) (s : State) : (State.voidTicket t s).lines = s.lines := by simp [State.voidTicket]

@[simp] theorem State.cancelJob_lines (tag : Nat) (s : State) : (State.cancelJob tag s).1.lines = s.lines := by
  unfold State.cancelJob
  dsimp only
  split <;> simp

@[simp] theorem State.afterCancel_lines (discarded : Nat) (able : List Nat) (s : State) :
    (State.afterCancel discarded able s).lines = s.lines := by
  unfold State.afterCancel
  dsimp only
  repeat' split
  all_goals simp

@[simp] theorem State.lineStart_lines (n : Nat) (s : State) : (State.lineStart n s).lines = s.lines := by
  unfold State.lineStart
  repeat' split
  all_goals simp

@[simp] theorem State.freeBand_lines (n : Nat) (s : State) : (State.freeBand n s).lines = s.lines := by
  unfold State.freeBand
  repeat' split
  all_goals simp

@[simp] theorem State.cutLine_lines (s : State) : (State.cutLine s).lines = s.lines := by
  unfold State.cutLine
  split <;> simp

@[simp] theorem State.freeCut_lines (line : Option LineInHand) (s : State) :
    (State.freeCut line s).lines = s.lines := by
  unfold State.freeCut
  repeat' split
  all_goals simp

@[simp] theorem State.startLabel_lines (s : State) : (State.startLabel s).lines = s.lines := by
  unfold State.startLabel
  split <;> simp

@[simp] theorem State.settleStart_lines (s : State) : (State.settleStart s).lines = s.lines := by
  unfold State.settleStart
  repeat' split
  all_goals simp

@[simp] theorem State.prelimResync_lines (s : State) : (State.prelimResync s).lines = s.lines := by
  unfold State.prelimResync
  repeat' split
  all_goals simp

@[simp] theorem State.prelimCalibrate_lines (s : State) : (State.prelimCalibrate s).lines = s.lines := by
  unfold State.prelimCalibrate
  split <;> simp

@[simp] theorem State.attempt_lines (s : State) : (State.attempt s).lines = s.lines := by
  unfold State.attempt
  split <;> simp

@[simp] theorem State.takeLabel_lines (s : State) : (State.takeLabel s).lines = s.lines := by
  unfold State.takeLabel
  dsimp only
  repeat' split
  all_goals simp

@[simp] theorem State.restPresented_lines (s : State) : (State.restPresented s).lines = s.lines := by
  unfold State.restPresented
  dsimp only
  repeat' split
  all_goals simp

@[simp] theorem State.beginOrRest_lines (s : State) : (State.beginOrRest s).lines = s.lines := by
  unfold State.beginOrRest
  repeat' split
  all_goals simp

@[simp] theorem State.tryStart_lines (s : State) : (State.tryStart s).lines = s.lines := by
  unfold State.tryStart
  split <;> simp

@[simp] theorem State.present_lines (distance : Nat) (under : Presentation) (s : State) :
    (State.present distance under s).lines = s.lines := by
  unfold State.present
  split <;> simp

@[simp] theorem State.afterCompletion_lines (distance : Nat) (s : State) :
    (State.afterCompletion distance s).lines = s.lines := by
  unfold State.afterCompletion
  repeat' split
  all_goals simp

@[simp] theorem State.completeLabel_lines (s : State) : (State.completeLabel s).lines = s.lines := by
  unfold State.completeLabel
  split <;> simp

@[simp] theorem State.dropPrinting_lines (s : State) : (State.dropPrinting s).lines = s.lines := by
  unfold State.dropPrinting
  repeat' split
  all_goals simp

@[simp] theorem State.addCause_lines (causes : Causes) (s : State) : (State.addCause causes s).lines = s.lines := by
  unfold State.addCause
  dsimp only
  repeat' split
  all_goals simp

@[simp] theorem State.loseMedia_lines (s : State) : (State.loseMedia s).lines = s.lines := by simp [State.loseMedia]

@[simp] theorem State.placeEngine_lines (s : State) : (State.placeEngine s).lines = s.lines := by
  unfold State.placeEngine
  repeat' split
  all_goals simp

@[simp] theorem State.resumePrinting_lines (s : State) : (State.resumePrinting s).lines = s.lines := by
  unfold State.resumePrinting
  dsimp only
  repeat' split
  all_goals simp

@[simp] theorem State.faultPath_lines (s : State) : (State.faultPath s).lines = s.lines := by
  unfold State.faultPath
  repeat' split
  all_goals simp

@[simp] theorem State.clearCause_lines (f : Causes → Causes) (s : State) : (State.clearCause f s).lines = s.lines := by
  unfold State.clearCause
  dsimp only
  repeat' split
  all_goals simp

@[simp] theorem State.clearHold_lines (f : Holds → Holds) (s : State) : (State.clearHold f s).lines = s.lines := by
  unfold State.clearHold
  repeat' split
  all_goals simp

@[simp] theorem State.endMotion_lines (m : Motion) (s : State) : (State.endMotion m s).lines = s.lines := by
  unfold State.endMotion
  repeat' split
  all_goals simp

@[simp] theorem State.arriveLabel_lines (s : State) : (State.arriveLabel s).lines = s.lines := by
  unfold State.arriveLabel
  dsimp only
  repeat' split
  all_goals simp

@[simp] theorem State.arrive_lines (s : State) : (State.arrive s).lines = s.lines := by
  unfold State.arrive
  repeat' split
  all_goals simp

@[simp] theorem State.checkMediaOut_lines (s : State) : (State.checkMediaOut s).lines = s.lines := by
  unfold State.checkMediaOut
  split <;> simp

@[simp] theorem State.checkLimit_lines (s : State) : (State.checkLimit s).lines = s.lines := by
  unfold State.checkLimit
  repeat' split
  all_goals simp

@[simp] theorem State.raiseCount_lines (s : State) : (State.raiseCount s).lines = s.lines := by
  unfold State.raiseCount
  dsimp only
  repeat' split
  all_goals simp

@[simp] theorem State.goodGap_lines (s : State) : (State.goodGap s).lines = s.lines := by
  unfold State.goodGap
  repeat' split
  all_goals simp

@[simp] theorem State.earlyGap_lines (s : State) : (State.earlyGap s).lines = s.lines := by
  unfold State.earlyGap
  split <;> simp

@[simp] theorem State.missGap_lines (s : State) : (State.missGap s).lines = s.lines := by
  unfold State.missGap
  split <;> simp

@[simp] theorem State.endCalibration_lines (pitch gap : Nat) (forRecovery : Bool) (s : State) :
    (State.endCalibration pitch gap forRecovery s).lines = s.lines := by
  unfold State.endCalibration
  split <;> simp

@[simp] theorem State.judgeEdge_lines (missed : Bool) (s : State) : (State.judgeEdge missed s).lines = s.lines := by
  unfold State.judgeEdge
  dsimp only
  repeat' split
  all_goals simp

@[simp] theorem State.takeEdge_lines (missed fresh edge fell : Bool) (s : State) :
    (State.takeEdge missed fresh edge fell s).lines = s.lines := by
  unfold State.takeEdge
  repeat' split
  all_goals simp

@[simp] theorem State.afterMiss_lines (missed fresh edge fell : Bool) (s : State) :
    (State.afterMiss missed fresh edge fell s).lines = s.lines := by simp [State.afterMiss]

@[simp] theorem State.takeMiss_lines (s : State) : (State.takeMiss s).lines = s.lines := by
  unfold State.takeMiss
  split <;> simp

@[simp] theorem State.takeResyncLimit_lines (s : State) : (State.takeResyncLimit s).lines = s.lines := by
  unfold State.takeResyncLimit
  split <;> simp

@[simp] theorem State.takeRecoveryLimit_lines (s : State) : (State.takeRecoveryLimit s).lines = s.lines := by
  unfold State.takeRecoveryLimit
  split <;> simp

@[simp] theorem State.takeCalibrationLimit_lines (s : State) : (State.takeCalibrationLimit s).lines = s.lines := by
  unfold State.takeCalibrationLimit
  split <;> simp

@[simp] theorem State.takeMediaOut_lines (s : State) : (State.takeMediaOut s).lines = s.lines := by
  unfold State.takeMediaOut
  split <;> simp

@[simp] theorem State.resetBlocks_lines (mode : Mode) (rate : Nat) (s : State) :
    (State.resetBlocks mode rate s).lines = s.lines := by simp [State.resetBlocks]

@[simp] theorem State.beginEngineStep_lines (damaged duplicates : Nat) (s : State) :
    (State.beginEngineStep damaged duplicates s).lines = s.lines := by
  unfold State.beginEngineStep
  dsimp only
  repeat' split
  all_goals simp

@[simp] theorem State.checkEngineStep_lines (s : State) : (State.checkEngineStep s).lines = s.lines := by
  unfold State.checkEngineStep
  repeat' split
  all_goals simp

@[simp] theorem State.verifyFrom_lines (from_ : Nat) (c : Scan) (s : State) : (State.verifyFrom from_ c s).lines = s.lines := by
  unfold State.verifyFrom
  split
  · simp only [State.scanIssue_lines, State.setScan_lines]
  · simp only [State.beginEngineStep_lines]

@[simp] theorem State.staleNext_lines (losers : List Extent) (c : Scan) (s : State) : (State.staleNext losers c s).lines = s.lines := by
  unfold State.staleNext
  split
  · simp only [State.scanIssue_lines, State.setScan_lines]
  · simp only [State.verifyFrom_lines]

@[simp] theorem State.walkTo_lines (sector : Nat) (c : Scan) (s : State) : (State.walkTo sector c s).lines = s.lines := by
  unfold State.walkTo
  split
  · simp only [State.scanIssue_lines, State.setScan_lines]
  · simp only [State.staleNext_lines]

@[simp] theorem State.classLive_lines (e : Extent) (c : Scan) (s : State) : (State.classLive e c s).lines = s.lines := by
  unfold State.classLive
  split <;> simp only [State.walkTo_lines]

@[simp] theorem State.readBody_lines (e : Extent) (left : List Nat) (c : Scan) (s : State) : (State.readBody e left c s).lines = s.lines := by
  unfold State.readBody
  split
  · simp only [State.scanIssue_lines, State.setScan_lines]
  · simp only [State.classLive_lines]

@[simp] theorem State.judgeHeader_lines (sector : Nat) (c : Scan) (s : State) : (State.judgeHeader sector c s).lines = s.lines := by
  unfold State.judgeHeader
  dsimp only
  split <;> simp only [State.readBody_lines, State.walkTo_lines]

@[simp] theorem State.scanRead_lines (c : Scan) (s : State) : (State.scanRead c s).lines = s.lines := by
  unfold State.scanRead
  split <;> simp only [State.judgeHeader_lines, State.readBody_lines, State.verifyFrom_lines, State.scanIssue_lines, State.setScan_lines]

@[simp] theorem State.scanProgram_lines (failed : Bool) (c : Scan) (s : State) : (State.scanProgram failed c s).lines = s.lines := by
  unfold State.scanProgram
  split <;> simp only [State.staleNext_lines]

@[simp] theorem State.beginStartUp_lines (straps : BaudStraps) (s : State) :
    (State.beginStartUp straps s).lines = s.lines := by simp [State.beginStartUp]

@[simp] theorem State.placeReady_lines (s : State) : (State.placeReady s).lines = s.lines := by
  unfold State.placeReady
  split <;> simp

@[simp] theorem State.takeSupplyCleared_lines (s : State) : (State.takeSupplyCleared s).lines = s.lines := by
  unfold State.takeSupplyCleared
  split <;> simp

@[simp] theorem State.placeJobEnd_lines (s : State) : (State.placeJobEnd s).lines = s.lines := by
  unfold State.placeJobEnd
  repeat' split
  all_goals simp

@[simp] theorem State.placeJobEnds_lines (n : Nat) (s : State) : (placeJobEnds n s).lines = s.lines := by
  induction n generalizing s with
  | zero => rfl
  | succ n ih => simp [placeJobEnds, ih]

@[simp] theorem State.placeNotices_lines (s : State) : (State.placeNotices s).lines = s.lines := by simp [State.placeNotices]

@[simp] theorem State.answerMark_lines (s : State) : (State.answerMark s).lines = s.lines := by
  unfold State.answerMark
  split <;> simp

@[simp] theorem State.grantHead_lines (s : State) : (State.grantHead s).lines = s.lines := by
  unfold State.grantHead
  split <;> simp

@[simp] theorem State.grantHeads_lines (n : Nat) (s : State) : (grantHeads n s).lines = s.lines := by
  induction n generalizing s with
  | zero => rfl
  | succ n ih => simp [grantHeads, ih]

@[simp] theorem State.grantRoom_lines (s : State) : (State.grantRoom s).lines = s.lines := by simp [State.grantRoom]

@[simp] theorem State.settle_lines (s : State) : (State.settle s).lines = s.lines := by simp [State.settle, dueEvents]

theorem State.after_lines (f : State → State) (s : State) (h : ∀ x, (f x).lines = x.lines) :
    (State.after f s).lines = s.lines := by
  unfold State.after
  simp [h]

@[simp] theorem State.failUpload_lines (reason : Reason) (detail : Nat) (s : State) :
    (State.failUpload reason detail s).lines = s.lines := by simp [State.failUpload]

@[simp] theorem State.runRecordBegin_lines (body : List Byte) (s : State) :
    (State.runRecordBegin body s).lines = s.lines := by
  unfold State.runRecordBegin
  split <;> simp

@[simp] theorem State.headerEnd_lines (failed : Bool) (s : State) : (State.headerEnd failed s).lines = s.lines := by
  unfold State.headerEnd
  repeat' split
  all_goals simp

@[simp] theorem State.runRecordData_lines (body : List Byte) (s : State) :
    (State.runRecordData body s).lines = s.lines := by
  unfold State.runRecordData
  dsimp only
  repeat' split
  all_goals simp

@[simp] theorem State.dataEnd_lines (failed : Bool) (len : Nat) (left : List (Nat × List Byte)) (s : State) :
    (State.dataEnd failed len left s).lines = s.lines := by
  unfold State.dataEnd
  repeat' split
  all_goals simp

@[simp] theorem State.runRecordEnd_lines (body : List Byte) (s : State) :
    (State.runRecordEnd body s).lines = s.lines := by
  unfold State.runRecordEnd
  repeat' split
  all_goals simp

@[simp] theorem State.readForValidation_lines (check : Nat) (pages : List Nat) (pass : Pass) (u : Upload) (s : State) :
    (State.readForValidation check pages pass u s).lines = s.lines := by
  unfold State.readForValidation
  split <;> simp

@[simp] theorem State.bodyCheckEnd_lines (check : Nat) (left : List Nat) (s : State) :
    (State.bodyCheckEnd check left s).lines = s.lines := by
  unfold State.bodyCheckEnd
  dsimp only
  repeat' split
  all_goals simp

@[simp] theorem State.validateEnd_lines (check : Nat) (left : List Nat) (read : Nat) (pass : Pass) (s : State) :
    (State.validateEnd check left read pass s).lines = s.lines := by
  unfold State.validateEnd
  repeat' split
  all_goals simp

@[simp] theorem State.finishCommit_lines (previous : Option RecRef) (staleFailed : Bool) (s : State) :
    (State.finishCommit previous staleFailed s).lines = s.lines := by
  unfold State.finishCommit
  split <;> simp

@[simp] theorem State.issueStale_lines (r : RecRef) (work : Work) (s : State) :
    (State.issueStale r work s).lines = s.lines := by
  unfold State.issueStale
  split <;> simp

@[simp] theorem State.commitEnd_lines (failed : Bool) (previous : Option RecRef) (s : State) :
    (State.commitEnd failed previous s).lines = s.lines := by
  unfold State.commitEnd
  repeat' split
  all_goals simp

@[simp] theorem State.noteStale_lines (failed : Bool) (r : RecRef) (s : State) :
    (State.noteStale failed r s).lines = s.lines := by
  unfold State.noteStale
  split <;> simp

@[simp] theorem State.staleOldEnd_lines (failed : Bool) (r : RecRef) (s : State) :
    (State.staleOldEnd failed r s).lines = s.lines := by simp [State.staleOldEnd]

@[simp] theorem State.runRecordAbandon_lines (s : State) : (State.runRecordAbandon s).lines = s.lines := by
  unfold State.runRecordAbandon
  split <;> simp

@[simp] theorem State.runRecordRetire_lines (body : List Byte) (s : State) :
    (State.runRecordRetire body s).lines = s.lines := by
  unfold State.runRecordRetire
  repeat' split
  all_goals simp

@[simp] theorem State.retireEnd_lines (failed : Bool) (r : RecRef) (s : State) :
    (State.retireEnd failed r s).lines = s.lines := by
  unfold State.retireEnd
  repeat' split
  all_goals simp

@[simp] theorem State.finishWipe_lines (failed : Nat) (s : State) : (State.finishWipe failed s).lines = s.lines := by simp [State.finishWipe]

@[simp] theorem State.wipeNext_lines (left : List RecRef) (failed : Nat) (s : State) :
    (State.wipeNext left failed s).lines = s.lines := by
  unfold State.wipeNext
  split <;> simp

@[simp] theorem State.runStoreWipe_lines (service : Bool) (s : State) :
    (State.runStoreWipe service s).lines = s.lines := by
  unfold State.runStoreWipe
  repeat' split
  all_goals simp

@[simp] theorem State.wipeEnd_lines (failed : Bool) (r : RecRef) (left : List RecRef) (failures : Nat) (s : State) :
    (State.wipeEnd failed r left failures s).lines = s.lines := by simp [State.wipeEnd]

@[simp] theorem State.decoderProgram_lines (failed : Bool) (s : State) :
    (State.decoderProgram failed s).lines = s.lines := by
  unfold State.decoderProgram
  split <;> simp

@[simp] theorem State.bindJob_lines (items : JobItems) (s : State) : (State.bindJob items s).lines = s.lines := by
  unfold State.bindJob
  dsimp only
  repeat' split
  all_goals simp

@[simp] theorem State.submitFields_lines (items : JobItems) (fs : List Field) (i : Nat) (s : State) :
    (State.submitFields items fs i s).lines = s.lines := by
  induction fs generalizing i s with
  | nil => simp [State.submitFields]
  | cons f fs ih =>
    unfold State.submitFields
    try dsimp only
    repeat' split
    all_goals simp [ih]

@[simp] theorem State.submitFormatEnd_lines (items : JobItems) (left : List Nat) (s : State) :
    (State.submitFormatEnd items left s).lines = s.lines := by
  unfold State.submitFormatEnd
  split <;> simp

@[simp] theorem State.geometryDone_lines (items : JobItems) (field : Nat) (s : State) :
    (State.geometryDone items field s).lines = s.lines := by
  unfold State.geometryDone
  repeat' split
  all_goals simp

@[simp] theorem State.submitTableEnd_lines (items : JobItems) (field : Nat) (left : List Nat) (s : State) :
    (State.submitTableEnd items field left s).lines = s.lines := by
  unfold State.submitTableEnd
  repeat' split
  all_goals simp

@[simp] theorem State.runJobSubmit_lines (body : List Byte) (s : State) :
    (State.runJobSubmit body s).lines = s.lines := by
  unfold State.runJobSubmit
  repeat' split
  all_goals simp

@[simp] theorem State.decoderRead_lines (s : State) : (State.decoderRead s).lines = s.lines := by
  unfold State.decoderRead
  split <;> simp

@[simp] theorem State.afterProgram_lines (client : Client) (failed : Bool) (s : State) :
    (State.afterProgram client failed s).lines = s.lines := by
  unfold State.afterProgram
  repeat' split
  all_goals simp

@[simp] theorem State.afterRead_lines (client : Client) (s : State) : (State.afterRead client s).lines = s.lines := by
  unfold State.afterRead
  repeat' split
  all_goals simp

@[simp] theorem State.endProgram_lines (client : Client) (addr : Nat) (data : List Byte) (left : Option (List Byte)) (s : State) :
    (State.endProgram client addr data left s).lines = s.lines := by simp [State.endProgram]

@[simp] theorem State.failProgram_lines (client : Client) (addr : Nat) (data : List Byte) (s : State) :
    (State.failProgram client addr data s).lines = s.lines := by simp [State.failProgram]

@[simp] theorem State.startErase_lines (s : State) : (State.startErase s).lines = s.lines := by
  unfold State.startErase
  repeat' split
  all_goals simp

@[simp] theorem State.takeEffect_lines (s : State) : (State.takeEffect s).lines = s.lines := by
  unfold State.takeEffect
  split <;> simp

@[simp] theorem State.endWindow_lines (s : State) : (State.endWindow s).lines = s.lines := by
  unfold State.endWindow
  split <;> simp

@[simp] theorem State.completeErase_lines (residue : List (Nat × Byte)) (s : State) :
    (State.completeErase residue s).lines = s.lines := by
  unfold State.completeErase
  dsimp only
  repeat' split
  all_goals simp

@[simp] theorem State.reachGiveUp_lines (s : State) : (State.reachGiveUp s).lines = s.lines := by
  unfold State.reachGiveUp
  split <;> simp

@[simp] theorem State.timeOutUpload_lines (s : State) : (State.timeOutUpload s).lines = s.lines := by
  unfold State.timeOutUpload
  repeat' split
  all_goals simp

@[simp] theorem State.runRecordQuery_lines (body : List Byte) (s : State) :
    (State.runRecordQuery body s).lines = s.lines := by
  unfold State.runRecordQuery
  dsimp only
  repeat' split
  all_goals simp

@[simp] theorem State.runDirectoryList_lines (body : List Byte) (s : State) :
    (State.runDirectoryList body s).lines = s.lines := by
  unfold State.runDirectoryList
  split <;> simp

@[simp] theorem State.runStoreUsage_lines (s : State) : (State.runStoreUsage s).lines = s.lines := by simp [State.runStoreUsage]

@[simp] theorem State.reportIfAble_lines (id : Nat) (before : Counter) (s : State) :
    (State.reportIfAble id before s).lines = s.lines := by
  unfold State.reportIfAble
  split <;> simp

@[simp] theorem State.runCounterDefine_lines (body : List Byte) (s : State) :
    (State.runCounterDefine body s).lines = s.lines := by
  unfold State.runCounterDefine
  dsimp only
  repeat' split
  all_goals simp

@[simp] theorem State.runCounterSet_lines (body : List Byte) (s : State) :
    (State.runCounterSet body s).lines = s.lines := by
  unfold State.runCounterSet
  dsimp only
  repeat' split
  all_goals simp

@[simp] theorem State.runCounterUndefine_lines (body : List Byte) (s : State) :
    (State.runCounterUndefine body s).lines = s.lines := by
  unfold State.runCounterUndefine
  dsimp only
  repeat' split
  all_goals simp

@[simp] theorem State.runCounterClearReturns_lines (body : List Byte) (s : State) :
    (State.runCounterClearReturns body s).lines = s.lines := by
  unfold State.runCounterClearReturns
  dsimp only
  repeat' split
  all_goals simp

@[simp] theorem State.runCounterRead_lines (body : List Byte) (s : State) :
    (State.runCounterRead body s).lines = s.lines := by
  unfold State.runCounterRead
  split <;> simp

@[simp] theorem State.setLatch_lines (s : State) : (State.setLatch s).lines = s.lines := by
  unfold State.setLatch
  split <;> simp

@[simp] theorem State.cancelTags_lines (tags : List Nat) (s : State) : (cancelTags tags s).1.lines = s.lines := by
  induction tags generalizing s with
  | nil => rfl
  | cons t ts ih => simp [cancelTags, ih]

@[simp] theorem State.cancelAll_lines (s : State) : (State.cancelAll s).lines = s.lines := by simp [State.cancelAll]

@[simp] theorem State.cancelOne_lines (tag : Nat) (s : State) : (State.cancelOne tag s).lines = s.lines := by simp [State.cancelOne]

@[simp] theorem State.runJobCancel_lines (body : List Byte) (s : State) :
    (State.runJobCancel body s).lines = s.lines := by
  unfold State.runJobCancel
  dsimp only
  repeat' split
  all_goals simp

@[simp] theorem State.runJobHold_lines (body : List Byte) (s : State) : (State.runJobHold body s).lines = s.lines := by
  unfold State.runJobHold
  dsimp only
  repeat' split
  all_goals simp

@[simp] theorem State.runJobRelease_lines (body : List Byte) (s : State) :
    (State.runJobRelease body s).lines = s.lines := by
  unfold State.runJobRelease
  dsimp only
  repeat' split
  all_goals simp

@[simp] theorem State.runJobQuery_lines (body : List Byte) (s : State) :
    (State.runJobQuery body s).lines = s.lines := by
  unfold State.runJobQuery
  dsimp only
  repeat' split
  all_goals simp

@[simp] theorem State.runQueueList_lines (s : State) : (State.runQueueList s).lines = s.lines := by simp [State.runQueueList]

@[simp] theorem State.runReprint_lines (s : State) : (State.runReprint s).lines = s.lines := by
  unfold State.runReprint
  repeat' split
  all_goals simp

@[simp] theorem State.clearLast_lines (s : State) : (State.clearLast s).lines = s.lines := by
  unfold State.clearLast
  split <;> simp

@[simp] theorem State.runReprintClear_lines (s : State) : (State.runReprintClear s).lines = s.lines := by
  unfold State.runReprintClear
  split <;> simp

@[simp] theorem State.bandReport_lines (t : Ticket) (band : Nat) (s : State) :
    (State.bandReport t band s).lines = s.lines := by
  unfold State.bandReport
  repeat' split
  all_goals simp

@[simp] theorem State.finishBand_lines (s : State) : (State.finishBand s).lines = s.lines := by
  unfold State.finishBand
  dsimp only
  repeat' split
  all_goals simp

@[simp] theorem State.judgeSensor_lines (theta : Int) (s : State) : (State.judgeSensor theta s).lines = s.lines := by
  unfold State.judgeSensor
  dsimp only
  repeat' split
  all_goals simp

@[simp] theorem State.judgeHeat_lines (theta : Int) (s : State) : (State.judgeHeat theta s).lines = s.lines := by
  unfold State.judgeHeat
  split <;> simp

@[simp] theorem State.countSupply_lines (supply : Nat) (s : State) : (State.countSupply supply s).lines = s.lines := by
  unfold State.countSupply
  split <;> simp

@[simp] theorem State.sampleHead_lines (theta : Int) (supply : Nat) (s : State) :
    (State.sampleHead theta supply s).lines = s.lines := by
  unfold State.sampleHead
  split <;> simp

@[simp] theorem State.endLoading_lines (s : State) : (State.endLoading s).lines = s.lines := by
  unfold State.endLoading
  repeat' split
  all_goals simp

@[simp] theorem State.endPhase_lines (s : State) : (State.endPhase s).lines = s.lines := by
  unfold State.endPhase
  repeat' split
  all_goals simp

@[simp] theorem State.endLine_lines (s : State) : (State.endLine s).lines = s.lines := by
  unfold State.endLine
  repeat' split
  all_goals simp

@[simp] theorem State.takePause_lines (s : State) : (State.takePause s).lines = s.lines := by
  unfold State.takePause
  repeat' split
  all_goals simp

@[simp] theorem State.runPause_lines (s : State) : (State.runPause s).lines = s.lines := by simp [State.runPause]

@[simp] theorem State.takeResume_lines (s : State) : (State.takeResume s).lines = s.lines := by
  unfold State.takeResume
  repeat' split
  all_goals simp

@[simp] theorem State.runResume_lines (s : State) : (State.runResume s).lines = s.lines := by
  unfold State.runResume
  split <;> simp

@[simp] theorem State.runFeed_lines (s : State) : (State.runFeed s).lines = s.lines := by
  unfold State.runFeed
  repeat' split
  all_goals simp

@[simp] theorem State.runCalibrate_lines (s : State) : (State.runCalibrate s).lines = s.lines := by
  unfold State.runCalibrate
  repeat' split
  all_goals simp

@[simp] theorem State.compareIdle_lines (s : State) : (State.compareIdle s).lines = s.lines := by
  unfold State.compareIdle
  split <;> simp

@[simp] theorem State.applySettings_lines (new : Settings) (s : State) :
    (State.applySettings new s).lines = s.lines := by
  unfold State.applySettings
  dsimp only
  repeat' split
  all_goals simp

@[simp] theorem State.runSettingsSet_lines (body : List Byte) (s : State) :
    (State.runSettingsSet body s).lines = s.lines := by
  unfold State.runSettingsSet
  repeat' split
  all_goals simp

@[simp] theorem State.runSettingsGet_lines (service : Bool) (s : State) :
    (State.runSettingsGet service s).lines = s.lines := by simp [State.runSettingsGet]

@[simp] theorem State.expireIdle_lines (s : State) : (State.expireIdle s).lines = s.lines := by
  unfold State.expireIdle
  split <;> simp

@[simp] theorem State.endWake_lines (s : State) : (State.endWake s).lines = s.lines := by
  unfold State.endWake
  repeat' split
  all_goals simp

@[simp] theorem State.receiveByte_lines (b : Byte) (stopBit : Bool) (s : State) :
    (State.receiveByte b stopBit s).lines = s.lines := by
  unfold State.receiveByte
  split <;> simp

@[simp] theorem State.expireByte_lines (s : State) : (State.expireByte s).lines = s.lines := by
  unfold State.expireByte
  split <;> simp

@[simp] theorem State.sendByte_lines (straps : BaudStraps) (s : State) :
    (State.sendByte straps s).lines = s.lines := by
  unfold State.sendByte
  dsimp only
  repeat' split
  all_goals simp

@[simp] theorem State.refuseUnknown_lines (s : State) : (State.refuseUnknown s).lines = s.lines := by
  unfold State.refuseUnknown
  repeat' split
  all_goals simp

@[simp] theorem State.runStatus_lines (s : State) : (State.runStatus s).lines = s.lines := by simp [State.runStatus]

@[simp] theorem State.runStatusClear_lines (body : List Byte) (s : State) :
    (State.runStatusClear body s).lines = s.lines := by
  unfold State.runStatusClear
  dsimp only
  repeat' split
  all_goals simp

@[simp] theorem State.runRestart_lines (s : State) : (State.runRestart s).lines = s.lines := by simp [State.runRestart]

@[simp] theorem State.endRestart_lines (straps : BaudStraps) (s : State) :
    (State.endRestart straps s).lines = s.lines := by
  unfold State.endRestart
  split <;> simp

@[simp] theorem State.powerUp_lines (straps : BaudStraps) (s : State) : (State.powerUp straps s).lines = s.lines := by
  unfold State.powerUp
  repeat' split
  all_goals simp

@[simp] theorem State.losePower_lines (s : State) : (State.losePower s).lines = s.lines := by
  unfold State.losePower
  split <;> simp

end Sys2Proof.Machine
end

