-- ==== Sys2Proof/Laws/ClockFrame.lean ====
section
/-! SUPPORT. The operations that leave the clock alone. -/

set_option Elab.async false

namespace Sys2Proof.Machine

@[simp] theorem State.beginSending_now (s : State) : (State.beginSending s).now = s.now := by
  unfold State.beginSending
  split <;> simp

@[simp] theorem State.place_now (frame : List Byte) (s : State) : (State.place frame s).now = s.now := by simp [State.place]

@[simp] theorem State.wakeDecoder_now (s : State) : (State.wakeDecoder s).now = s.now := by
  unfold State.wakeDecoder
  split <;> simp

@[simp] theorem State.reply_now (kind : Byte) (body : List Byte) (s : State) :
    (State.reply kind body s).now = s.now := by
  unfold State.reply
  split <;> simp

@[simp] theorem State.ok_now (payload : List Byte) (s : State) : (State.ok payload s).now = s.now := by simp [State.ok]

@[simp] theorem State.refuse_now (reason : Reason) (detail : Nat) (s : State) :
    (State.refuse reason detail s).now = s.now := by simp [State.refuse]

@[simp] theorem State.begun_now (kind : Byte) (s : State) : (State.begun kind s).now = s.now := by
  unfold State.begun
  split <;> simp

theorem State.onRequest_now (code : Nat) (run : List Byte → State → State) (s : State) (h : ∀ b x, (run b x).now = x.now) :
    (State.onRequest code run s).now = s.now := by
  unfold State.onRequest
  repeat' split
  all_goals simp [h]

@[simp] theorem State.cutArray_now (s : State) : (State.cutArray s).now = s.now := by
  unfold State.cutArray
  repeat' split
  all_goals simp

@[simp] theorem State.abandonDrawing_now (keys : List TicketKey) (s : State) :
    (State.abandonDrawing keys s).now = s.now := by
  unfold State.abandonDrawing
  repeat' split
  all_goals simp

@[simp] theorem State.freeTickets_now (keys : List TicketKey) (s : State) :
    (State.freeTickets keys s).now = s.now := by simp [State.freeTickets]

@[simp] theorem State.readHand_now (s : State) : (State.readHand s).now = s.now := by
  unfold State.readHand
  repeat' split
  all_goals simp

@[simp] theorem State.takeBuffer_now (i : Nat) (t : Ticket) (s : State) : (State.takeBuffer i t s).now = s.now := by simp [State.takeBuffer]

@[simp] theorem State.readTable_now (items : JobItems) (field page : Nat) (left : List Nat) (s : State) :
    (State.readTable items field page left s).now = s.now := rfl

@[simp] theorem State.askGeometry_now (items : JobItems) (field page : Nat) (left : List Nat) (s : State) :
    (State.askGeometry items field page left s).now = s.now := by
  unfold State.askGeometry
  split <;> rfl

@[simp] theorem State.takeGeometry_now (s : State) : (State.takeGeometry s).now = s.now := by
  unfold State.takeGeometry
  repeat' split
  all_goals simp

@[simp] theorem State.renderNext_now (s : State) : (State.renderNext s).now = s.now := by
  unfold State.renderNext
  repeat' split
  all_goals simp

@[simp] theorem State.printableChanged_now (s : State) : (State.printableChanged s).now = s.now := by simp [State.printableChanged]

@[simp] theorem State.appendTicket_now (t : Ticket) (s : State) : (State.appendTicket t s).now = s.now := by simp [State.appendTicket]

@[simp] theorem State.createCopy_now (tag label copy copies : Nat) (values : List Drawn) (s : State) :
    (State.createCopy tag label copy copies values s).now = s.now := by simp [State.createCopy]

@[simp] theorem State.createReprint_now (l : LastLabel) (s : State) : (State.createReprint l s).now = s.now := by simp [State.createReprint]

@[simp] theorem State.createGroup_now (j : Job) (values : List Drawn) (cs : List Counter) (s : State) :
    (State.createGroup j values cs s).now = s.now := by simp [State.createGroup]

@[simp] theorem State.choose_now (n : Nat) (s : State) : (State.choose n s).now = s.now := by
  induction n generalizing s with
  | zero => simp [State.choose]
  | succ n ih =>
    unfold State.choose
    repeat' split
    all_goals simp [ih]

@[simp] theorem State.boundary_now (s : State) : (State.boundary s).now = s.now := by
  unfold State.boundary
  split <;> simp

@[simp] theorem State.reportAble_now (ids : List Nat) (s : State) : (State.reportAble ids s).now = s.now := by
  unfold State.reportAble
  split <;> simp

@[simp] theorem State.settleGroup_now (j : Job) (t : Ticket) (s : State) : (State.settleGroup j t s).now = s.now := by
  unfold State.settleGroup
  repeat' split
  all_goals simp

@[simp] theorem State.endIfDone_now (tag : Nat) (s : State) : (State.endIfDone tag s).now = s.now := by
  unfold State.endIfDone
  repeat' split
  all_goals simp

@[simp] theorem State.completeTicket_now (t : Ticket) (s : State) : (State.completeTicket t s).now = s.now := by
  unfold State.completeTicket
  repeat' split
  all_goals simp

@[simp] theorem State.voidTicket_now (t : Ticket) (s : State) : (State.voidTicket t s).now = s.now := by simp [State.voidTicket]

@[simp] theorem State.cancelJob_now (tag : Nat) (s : State) : (State.cancelJob tag s).1.now = s.now := by
  unfold State.cancelJob
  dsimp only
  split <;> simp

@[simp] theorem State.afterCancel_now (discarded : Nat) (able : List Nat) (s : State) :
    (State.afterCancel discarded able s).now = s.now := by
  unfold State.afterCancel
  dsimp only
  repeat' split
  all_goals simp

@[simp] theorem State.lineStart_now (n : Nat) (s : State) : (State.lineStart n s).now = s.now := by
  unfold State.lineStart
  repeat' split
  all_goals simp

@[simp] theorem State.freeBand_now (n : Nat) (s : State) : (State.freeBand n s).now = s.now := by
  unfold State.freeBand
  repeat' split
  all_goals simp

@[simp] theorem State.cutLine_now (s : State) : (State.cutLine s).now = s.now := by
  unfold State.cutLine
  split <;> simp

@[simp] theorem State.freeCut_now (line : Option LineInHand) (s : State) : (State.freeCut line s).now = s.now := by
  unfold State.freeCut
  repeat' split
  all_goals simp

@[simp] theorem State.startLabel_now (s : State) : (State.startLabel s).now = s.now := by
  unfold State.startLabel
  split <;> simp

@[simp] theorem State.settleStart_now (s : State) : (State.settleStart s).now = s.now := by
  unfold State.settleStart
  repeat' split
  all_goals simp

@[simp] theorem State.prelimResync_now (s : State) : (State.prelimResync s).now = s.now := by
  unfold State.prelimResync
  repeat' split
  all_goals simp

@[simp] theorem State.prelimCalibrate_now (s : State) : (State.prelimCalibrate s).now = s.now := by
  unfold State.prelimCalibrate
  split <;> simp

@[simp] theorem State.attempt_now (s : State) : (State.attempt s).now = s.now := by
  unfold State.attempt
  split <;> simp

@[simp] theorem State.takeLabel_now (s : State) : (State.takeLabel s).now = s.now := by
  unfold State.takeLabel
  dsimp only
  repeat' split
  all_goals simp

@[simp] theorem State.restPresented_now (s : State) : (State.restPresented s).now = s.now := by
  unfold State.restPresented
  dsimp only
  repeat' split
  all_goals simp

@[simp] theorem State.beginOrRest_now (s : State) : (State.beginOrRest s).now = s.now := by
  unfold State.beginOrRest
  repeat' split
  all_goals simp

@[simp] theorem State.tryStart_now (s : State) : (State.tryStart s).now = s.now := by
  unfold State.tryStart
  split <;> simp

@[simp] theorem State.present_now (distance : Nat) (under : Presentation) (s : State) :
    (State.present distance under s).now = s.now := by
  unfold State.present
  split <;> simp

@[simp] theorem State.afterCompletion_now (distance : Nat) (s : State) :
    (State.afterCompletion distance s).now = s.now := by
  unfold State.afterCompletion
  repeat' split
  all_goals simp

@[simp] theorem State.completeLabel_now (s : State) : (State.completeLabel s).now = s.now := by
  unfold State.completeLabel
  split <;> simp

@[simp] theorem State.dropPrinting_now (s : State) : (State.dropPrinting s).now = s.now := by
  unfold State.dropPrinting
  repeat' split
  all_goals simp

@[simp] theorem State.addCause_now (causes : Causes) (s : State) : (State.addCause causes s).now = s.now := by
  unfold State.addCause
  dsimp only
  repeat' split
  all_goals simp

@[simp] theorem State.loseMedia_now (s : State) : (State.loseMedia s).now = s.now := by simp [State.loseMedia]

@[simp] theorem State.placeEngine_now (s : State) : (State.placeEngine s).now = s.now := by
  unfold State.placeEngine
  repeat' split
  all_goals simp

@[simp] theorem State.resumePrinting_now (s : State) : (State.resumePrinting s).now = s.now := by
  unfold State.resumePrinting
  dsimp only
  repeat' split
  all_goals simp

@[simp] theorem State.faultPath_now (s : State) : (State.faultPath s).now = s.now := by
  unfold State.faultPath
  repeat' split
  all_goals simp

@[simp] theorem State.clearCause_now (f : Causes → Causes) (s : State) : (State.clearCause f s).now = s.now := by
  unfold State.clearCause
  dsimp only
  repeat' split
  all_goals simp

@[simp] theorem State.clearHold_now (f : Holds → Holds) (s : State) : (State.clearHold f s).now = s.now := by
  unfold State.clearHold
  repeat' split
  all_goals simp

@[simp] theorem State.endMotion_now (m : Motion) (s : State) : (State.endMotion m s).now = s.now := by
  unfold State.endMotion
  repeat' split
  all_goals simp

@[simp] theorem State.arriveLabel_now (s : State) : (State.arriveLabel s).now = s.now := by
  unfold State.arriveLabel
  dsimp only
  repeat' split
  all_goals simp

@[simp] theorem State.arrive_now (s : State) : (State.arrive s).now = s.now := by
  unfold State.arrive
  repeat' split
  all_goals simp

@[simp] theorem State.checkMediaOut_now (s : State) : (State.checkMediaOut s).now = s.now := by
  unfold State.checkMediaOut
  split <;> simp

@[simp] theorem State.checkLimit_now (s : State) : (State.checkLimit s).now = s.now := by
  unfold State.checkLimit
  repeat' split
  all_goals simp

@[simp] theorem State.raiseCount_now (s : State) : (State.raiseCount s).now = s.now := by
  unfold State.raiseCount
  dsimp only
  repeat' split
  all_goals simp

@[simp] theorem State.goodGap_now (s : State) : (State.goodGap s).now = s.now := by
  unfold State.goodGap
  repeat' split
  all_goals simp

@[simp] theorem State.earlyGap_now (s : State) : (State.earlyGap s).now = s.now := by
  unfold State.earlyGap
  split <;> simp

@[simp] theorem State.missGap_now (s : State) : (State.missGap s).now = s.now := by
  unfold State.missGap
  split <;> simp

@[simp] theorem State.endCalibration_now (pitch gap : Nat) (forRecovery : Bool) (s : State) :
    (State.endCalibration pitch gap forRecovery s).now = s.now := by
  unfold State.endCalibration
  split <;> simp

@[simp] theorem State.judgeEdge_now (missed : Bool) (s : State) : (State.judgeEdge missed s).now = s.now := by
  unfold State.judgeEdge
  dsimp only
  repeat' split
  all_goals simp

@[simp] theorem State.takeEdge_now (missed fresh edge fell : Bool) (s : State) :
    (State.takeEdge missed fresh edge fell s).now = s.now := by
  unfold State.takeEdge
  repeat' split
  all_goals simp

@[simp] theorem State.afterMiss_now (missed fresh edge fell : Bool) (s : State) :
    (State.afterMiss missed fresh edge fell s).now = s.now := by simp [State.afterMiss]

@[simp] theorem State.takeMiss_now (s : State) : (State.takeMiss s).now = s.now := by
  unfold State.takeMiss
  split <;> simp

@[simp] theorem State.takeResyncLimit_now (s : State) : (State.takeResyncLimit s).now = s.now := by
  unfold State.takeResyncLimit
  split <;> simp

@[simp] theorem State.takeRecoveryLimit_now (s : State) : (State.takeRecoveryLimit s).now = s.now := by
  unfold State.takeRecoveryLimit
  split <;> simp

@[simp] theorem State.takeCalibrationLimit_now (s : State) : (State.takeCalibrationLimit s).now = s.now := by
  unfold State.takeCalibrationLimit
  split <;> simp

@[simp] theorem State.takeMediaOut_now (s : State) : (State.takeMediaOut s).now = s.now := by
  unfold State.takeMediaOut
  split <;> simp

@[simp] theorem State.resetBlocks_now (mode : Mode) (rate : Nat) (s : State) :
    (State.resetBlocks mode rate s).now = s.now := by simp [State.resetBlocks]

@[simp] theorem State.beginEngineStep_now (damaged duplicates : Nat) (s : State) :
    (State.beginEngineStep damaged duplicates s).now = s.now := by
  unfold State.beginEngineStep
  dsimp only
  repeat' split
  all_goals simp

@[simp] theorem State.checkEngineStep_now (s : State) : (State.checkEngineStep s).now = s.now := by
  unfold State.checkEngineStep
  repeat' split
  all_goals simp

@[simp] theorem State.verifyFrom_now (from_ : Nat) (c : Scan) (s : State) : (State.verifyFrom from_ c s).now = s.now := by
  unfold State.verifyFrom
  split
  · simp only [State.scanIssue_now, State.setScan_now]
  · simp only [State.beginEngineStep_now]

@[simp] theorem State.staleNext_now (losers : List Extent) (c : Scan) (s : State) : (State.staleNext losers c s).now = s.now := by
  unfold State.staleNext
  split
  · simp only [State.scanIssue_now, State.setScan_now]
  · simp only [State.verifyFrom_now]

@[simp] theorem State.walkTo_now (sector : Nat) (c : Scan) (s : State) : (State.walkTo sector c s).now = s.now := by
  unfold State.walkTo
  split
  · simp only [State.scanIssue_now, State.setScan_now]
  · simp only [State.staleNext_now]

@[simp] theorem State.classLive_now (e : Extent) (c : Scan) (s : State) : (State.classLive e c s).now = s.now := by
  unfold State.classLive
  split <;> simp only [State.walkTo_now]

@[simp] theorem State.readBody_now (e : Extent) (left : List Nat) (c : Scan) (s : State) : (State.readBody e left c s).now = s.now := by
  unfold State.readBody
  split
  · simp only [State.scanIssue_now, State.setScan_now]
  · simp only [State.classLive_now]

@[simp] theorem State.judgeHeader_now (sector : Nat) (c : Scan) (s : State) : (State.judgeHeader sector c s).now = s.now := by
  unfold State.judgeHeader
  dsimp only
  split <;> simp only [State.readBody_now, State.walkTo_now]

@[simp] theorem State.scanRead_now (c : Scan) (s : State) : (State.scanRead c s).now = s.now := by
  unfold State.scanRead
  split <;> simp only [State.judgeHeader_now, State.readBody_now, State.verifyFrom_now, State.scanIssue_now, State.setScan_now]

@[simp] theorem State.scanProgram_now (failed : Bool) (c : Scan) (s : State) : (State.scanProgram failed c s).now = s.now := by
  unfold State.scanProgram
  split <;> simp only [State.staleNext_now]

@[simp] theorem State.beginStartUp_now (straps : BaudStraps) (s : State) :
    (State.beginStartUp straps s).now = s.now := by simp [State.beginStartUp]

@[simp] theorem State.placeReady_now (s : State) : (State.placeReady s).now = s.now := by
  unfold State.placeReady
  split <;> simp

@[simp] theorem State.takeSupplyCleared_now (s : State) : (State.takeSupplyCleared s).now = s.now := by
  unfold State.takeSupplyCleared
  split <;> simp

@[simp] theorem State.placeJobEnd_now (s : State) : (State.placeJobEnd s).now = s.now := by
  unfold State.placeJobEnd
  repeat' split
  all_goals simp

@[simp] theorem State.placeJobEnds_now (n : Nat) (s : State) : (placeJobEnds n s).now = s.now := by
  induction n generalizing s with
  | zero => rfl
  | succ n ih => simp [placeJobEnds, ih]

@[simp] theorem State.placeNotices_now (s : State) : (State.placeNotices s).now = s.now := by simp [State.placeNotices]

@[simp] theorem State.answerMark_now (s : State) : (State.answerMark s).now = s.now := by
  unfold State.answerMark
  split <;> simp

@[simp] theorem State.grantHead_now (s : State) : (State.grantHead s).now = s.now := by
  unfold State.grantHead
  split <;> simp

@[simp] theorem State.grantHeads_now (n : Nat) (s : State) : (grantHeads n s).now = s.now := by
  induction n generalizing s with
  | zero => rfl
  | succ n ih => simp [grantHeads, ih]

@[simp] theorem State.grantRoom_now (s : State) : (State.grantRoom s).now = s.now := by simp [State.grantRoom]

@[simp] theorem State.settle_now (s : State) : (State.settle s).now = s.now := by simp [State.settle, dueEvents]

theorem State.after_now (f : State → State) (s : State) (h : ∀ x, (f x).now = x.now) :
    (State.after f s).now = s.now := by
  unfold State.after
  simp [h]

@[simp] theorem State.failUpload_now (reason : Reason) (detail : Nat) (s : State) :
    (State.failUpload reason detail s).now = s.now := by simp [State.failUpload]

@[simp] theorem State.runRecordBegin_now (body : List Byte) (s : State) :
    (State.runRecordBegin body s).now = s.now := by
  unfold State.runRecordBegin
  split <;> simp

@[simp] theorem State.headerEnd_now (failed : Bool) (s : State) : (State.headerEnd failed s).now = s.now := by
  unfold State.headerEnd
  repeat' split
  all_goals simp

@[simp] theorem State.runRecordData_now (body : List Byte) (s : State) : (State.runRecordData body s).now = s.now := by
  unfold State.runRecordData
  dsimp only
  repeat' split
  all_goals simp

@[simp] theorem State.dataEnd_now (failed : Bool) (len : Nat) (left : List (Nat × List Byte)) (s : State) :
    (State.dataEnd failed len left s).now = s.now := by
  unfold State.dataEnd
  repeat' split
  all_goals simp

@[simp] theorem State.runRecordEnd_now (body : List Byte) (s : State) : (State.runRecordEnd body s).now = s.now := by
  unfold State.runRecordEnd
  repeat' split
  all_goals simp

@[simp] theorem State.readForValidation_now (check : Nat) (pages : List Nat) (pass : Pass) (u : Upload) (s : State) :
    (State.readForValidation check pages pass u s).now = s.now := by
  unfold State.readForValidation
  split <;> simp

@[simp] theorem State.bodyCheckEnd_now (check : Nat) (left : List Nat) (s : State) :
    (State.bodyCheckEnd check left s).now = s.now := by
  unfold State.bodyCheckEnd
  dsimp only
  repeat' split
  all_goals simp

@[simp] theorem State.validateEnd_now (check : Nat) (left : List Nat) (read : Nat) (pass : Pass) (s : State) :
    (State.validateEnd check left read pass s).now = s.now := by
  unfold State.validateEnd
  repeat' split
  all_goals simp

@[simp] theorem State.finishCommit_now (previous : Option RecRef) (staleFailed : Bool) (s : State) :
    (State.finishCommit previous staleFailed s).now = s.now := by
  unfold State.finishCommit
  split <;> simp

@[simp] theorem State.issueStale_now (r : RecRef) (work : Work) (s : State) :
    (State.issueStale r work s).now = s.now := by
  unfold State.issueStale
  split <;> simp

@[simp] theorem State.commitEnd_now (failed : Bool) (previous : Option RecRef) (s : State) :
    (State.commitEnd failed previous s).now = s.now := by
  unfold State.commitEnd
  repeat' split
  all_goals simp

@[simp] theorem State.noteStale_now (failed : Bool) (r : RecRef) (s : State) :
    (State.noteStale failed r s).now = s.now := by
  unfold State.noteStale
  split <;> simp

@[simp] theorem State.staleOldEnd_now (failed : Bool) (r : RecRef) (s : State) :
    (State.staleOldEnd failed r s).now = s.now := by simp [State.staleOldEnd]

@[simp] theorem State.runRecordAbandon_now (s : State) : (State.runRecordAbandon s).now = s.now := by
  unfold State.runRecordAbandon
  split <;> simp

@[simp] theorem State.runRecordRetire_now (body : List Byte) (s : State) :
    (State.runRecordRetire body s).now = s.now := by
  unfold State.runRecordRetire
  repeat' split
  all_goals simp

@[simp] theorem State.retireEnd_now (failed : Bool) (r : RecRef) (s : State) :
    (State.retireEnd failed r s).now = s.now := by
  unfold State.retireEnd
  repeat' split
  all_goals simp

@[simp] theorem State.finishWipe_now (failed : Nat) (s : State) : (State.finishWipe failed s).now = s.now := by simp [State.finishWipe]

@[simp] theorem State.wipeNext_now (left : List RecRef) (failed : Nat) (s : State) :
    (State.wipeNext left failed s).now = s.now := by
  unfold State.wipeNext
  split <;> simp

@[simp] theorem State.runStoreWipe_now (service : Bool) (s : State) : (State.runStoreWipe service s).now = s.now := by
  unfold State.runStoreWipe
  repeat' split
  all_goals simp

@[simp] theorem State.wipeEnd_now (failed : Bool) (r : RecRef) (left : List RecRef) (failures : Nat) (s : State) :
    (State.wipeEnd failed r left failures s).now = s.now := by simp [State.wipeEnd]

@[simp] theorem State.decoderProgram_now (failed : Bool) (s : State) :
    (State.decoderProgram failed s).now = s.now := by
  unfold State.decoderProgram
  split <;> simp

@[simp] theorem State.bindJob_now (items : JobItems) (s : State) : (State.bindJob items s).now = s.now := by
  unfold State.bindJob
  dsimp only
  repeat' split
  all_goals simp

@[simp] theorem State.submitFields_now (items : JobItems) (fs : List Field) (i : Nat) (s : State) :
    (State.submitFields items fs i s).now = s.now := by
  induction fs generalizing i s with
  | nil => simp [State.submitFields]
  | cons f fs ih =>
    unfold State.submitFields
    try dsimp only
    repeat' split
    all_goals simp [ih]

@[simp] theorem State.submitFormatEnd_now (items : JobItems) (left : List Nat) (s : State) :
    (State.submitFormatEnd items left s).now = s.now := by
  unfold State.submitFormatEnd
  split <;> simp

@[simp] theorem State.geometryDone_now (items : JobItems) (field : Nat) (s : State) :
    (State.geometryDone items field s).now = s.now := by
  unfold State.geometryDone
  repeat' split
  all_goals simp

@[simp] theorem State.submitTableEnd_now (items : JobItems) (field : Nat) (left : List Nat) (s : State) :
    (State.submitTableEnd items field left s).now = s.now := by
  unfold State.submitTableEnd
  repeat' split
  all_goals simp

@[simp] theorem State.runJobSubmit_now (body : List Byte) (s : State) : (State.runJobSubmit body s).now = s.now := by
  unfold State.runJobSubmit
  repeat' split
  all_goals simp

@[simp] theorem State.decoderRead_now (s : State) : (State.decoderRead s).now = s.now := by
  unfold State.decoderRead
  split <;> simp

@[simp] theorem State.afterProgram_now (client : Client) (failed : Bool) (s : State) :
    (State.afterProgram client failed s).now = s.now := by
  unfold State.afterProgram
  repeat' split
  all_goals simp

@[simp] theorem State.afterRead_now (client : Client) (s : State) : (State.afterRead client s).now = s.now := by
  unfold State.afterRead
  repeat' split
  all_goals simp

@[simp] theorem State.endProgram_now (client : Client) (addr : Nat) (data : List Byte) (left : Option (List Byte)) (s : State) :
    (State.endProgram client addr data left s).now = s.now := by simp [State.endProgram]

@[simp] theorem State.failProgram_now (client : Client) (addr : Nat) (data : List Byte) (s : State) :
    (State.failProgram client addr data s).now = s.now := by simp [State.failProgram]

@[simp] theorem State.startErase_now (s : State) : (State.startErase s).now = s.now := by
  unfold State.startErase
  repeat' split
  all_goals simp

@[simp] theorem State.completeErase_now (residue : List (Nat × Byte)) (s : State) :
    (State.completeErase residue s).now = s.now := by
  unfold State.completeErase
  dsimp only
  repeat' split
  all_goals simp

@[simp] theorem State.runRecordQuery_now (body : List Byte) (s : State) :
    (State.runRecordQuery body s).now = s.now := by
  unfold State.runRecordQuery
  dsimp only
  repeat' split
  all_goals simp

@[simp] theorem State.runDirectoryList_now (body : List Byte) (s : State) :
    (State.runDirectoryList body s).now = s.now := by
  unfold State.runDirectoryList
  split <;> simp

@[simp] theorem State.runStoreUsage_now (s : State) : (State.runStoreUsage s).now = s.now := by simp [State.runStoreUsage]

@[simp] theorem State.reportIfAble_now (id : Nat) (before : Counter) (s : State) :
    (State.reportIfAble id before s).now = s.now := by
  unfold State.reportIfAble
  split <;> simp

@[simp] theorem State.runCounterDefine_now (body : List Byte) (s : State) :
    (State.runCounterDefine body s).now = s.now := by
  unfold State.runCounterDefine
  dsimp only
  repeat' split
  all_goals simp

@[simp] theorem State.runCounterSet_now (body : List Byte) (s : State) : (State.runCounterSet body s).now = s.now := by
  unfold State.runCounterSet
  dsimp only
  repeat' split
  all_goals simp

@[simp] theorem State.runCounterUndefine_now (body : List Byte) (s : State) :
    (State.runCounterUndefine body s).now = s.now := by
  unfold State.runCounterUndefine
  dsimp only
  repeat' split
  all_goals simp

@[simp] theorem State.runCounterClearReturns_now (body : List Byte) (s : State) :
    (State.runCounterClearReturns body s).now = s.now := by
  unfold State.runCounterClearReturns
  dsimp only
  repeat' split
  all_goals simp

@[simp] theorem State.runCounterRead_now (body : List Byte) (s : State) :
    (State.runCounterRead body s).now = s.now := by
  unfold State.runCounterRead
  split <;> simp

@[simp] theorem State.setLatch_now (s : State) : (State.setLatch s).now = s.now := by
  unfold State.setLatch
  split <;> simp

@[simp] theorem State.cancelTags_now (tags : List Nat) (s : State) : (cancelTags tags s).1.now = s.now := by
  induction tags generalizing s with
  | nil => rfl
  | cons t ts ih => simp [cancelTags, ih]

@[simp] theorem State.cancelAll_now (s : State) : (State.cancelAll s).now = s.now := by simp [State.cancelAll]

@[simp] theorem State.cancelOne_now (tag : Nat) (s : State) : (State.cancelOne tag s).now = s.now := by simp [State.cancelOne]

@[simp] theorem State.runJobCancel_now (body : List Byte) (s : State) : (State.runJobCancel body s).now = s.now := by
  unfold State.runJobCancel
  dsimp only
  repeat' split
  all_goals simp

@[simp] theorem State.runJobHold_now (body : List Byte) (s : State) : (State.runJobHold body s).now = s.now := by
  unfold State.runJobHold
  dsimp only
  repeat' split
  all_goals simp

@[simp] theorem State.runJobRelease_now (body : List Byte) (s : State) : (State.runJobRelease body s).now = s.now := by
  unfold State.runJobRelease
  dsimp only
  repeat' split
  all_goals simp

@[simp] theorem State.runJobQuery_now (body : List Byte) (s : State) : (State.runJobQuery body s).now = s.now := by
  unfold State.runJobQuery
  dsimp only
  repeat' split
  all_goals simp

@[simp] theorem State.runQueueList_now (s : State) : (State.runQueueList s).now = s.now := by simp [State.runQueueList]

@[simp] theorem State.runReprint_now (s : State) : (State.runReprint s).now = s.now := by
  unfold State.runReprint
  repeat' split
  all_goals simp

@[simp] theorem State.clearLast_now (s : State) : (State.clearLast s).now = s.now := by
  unfold State.clearLast
  split <;> simp

@[simp] theorem State.runReprintClear_now (s : State) : (State.runReprintClear s).now = s.now := by
  unfold State.runReprintClear
  split <;> simp

@[simp] theorem State.bandReport_now (t : Ticket) (band : Nat) (s : State) :
    (State.bandReport t band s).now = s.now := by
  unfold State.bandReport
  repeat' split
  all_goals simp

@[simp] theorem State.finishBand_now (s : State) : (State.finishBand s).now = s.now := by
  unfold State.finishBand
  dsimp only
  repeat' split
  all_goals simp

@[simp] theorem State.judgeSensor_now (theta : Int) (s : State) : (State.judgeSensor theta s).now = s.now := by
  unfold State.judgeSensor
  dsimp only
  repeat' split
  all_goals simp

@[simp] theorem State.judgeHeat_now (theta : Int) (s : State) : (State.judgeHeat theta s).now = s.now := by
  unfold State.judgeHeat
  split <;> simp

@[simp] theorem State.countSupply_now (supply : Nat) (s : State) : (State.countSupply supply s).now = s.now := by
  unfold State.countSupply
  split <;> simp

@[simp] theorem State.seeHead_now (isOpen : Bool) (s : State) : (State.seeHead isOpen s).now = s.now := by
  unfold State.seeHead
  repeat' split
  all_goals simp

@[simp] theorem State.seeMedia_now (gap : Bool) (s : State) : (State.seeMedia gap s).now = s.now := by
  unfold State.seeMedia
  split <;> simp

@[simp] theorem State.seeTaken_now (noLabel : Bool) (s : State) : (State.seeTaken noLabel s).now = s.now := by
  unfold State.seeTaken
  dsimp only
  repeat' split
  all_goals simp

@[simp] theorem State.takePause_now (s : State) : (State.takePause s).now = s.now := by
  unfold State.takePause
  repeat' split
  all_goals simp

@[simp] theorem State.runPause_now (s : State) : (State.runPause s).now = s.now := by simp [State.runPause]

@[simp] theorem State.takeResume_now (s : State) : (State.takeResume s).now = s.now := by
  unfold State.takeResume
  repeat' split
  all_goals simp

@[simp] theorem State.runResume_now (s : State) : (State.runResume s).now = s.now := by
  unfold State.runResume
  split <;> simp

@[simp] theorem State.runFeed_now (s : State) : (State.runFeed s).now = s.now := by
  unfold State.runFeed
  repeat' split
  all_goals simp

@[simp] theorem State.runCalibrate_now (s : State) : (State.runCalibrate s).now = s.now := by
  unfold State.runCalibrate
  repeat' split
  all_goals simp

@[simp] theorem State.compareIdle_now (s : State) : (State.compareIdle s).now = s.now := by
  unfold State.compareIdle
  split <;> simp

@[simp] theorem State.applySettings_now (new : Settings) (s : State) : (State.applySettings new s).now = s.now := by
  unfold State.applySettings
  dsimp only
  repeat' split
  all_goals simp

@[simp] theorem State.runSettingsSet_now (body : List Byte) (s : State) :
    (State.runSettingsSet body s).now = s.now := by
  unfold State.runSettingsSet
  repeat' split
  all_goals simp

@[simp] theorem State.runSettingsGet_now (service : Bool) (s : State) :
    (State.runSettingsGet service s).now = s.now := by simp [State.runSettingsGet]

@[simp] theorem State.receiveByte_now (b : Byte) (stopBit : Bool) (s : State) :
    (State.receiveByte b stopBit s).now = s.now := by
  unfold State.receiveByte
  split <;> simp

@[simp] theorem State.seeRts_now (high : Bool) (s : State) : (State.seeRts high s).now = s.now := by
  unfold State.seeRts
  split <;> simp

@[simp] theorem State.refuseUnknown_now (s : State) : (State.refuseUnknown s).now = s.now := by
  unfold State.refuseUnknown
  repeat' split
  all_goals simp

@[simp] theorem State.runStatus_now (s : State) : (State.runStatus s).now = s.now := by simp [State.runStatus]

@[simp] theorem State.runStatusClear_now (body : List Byte) (s : State) :
    (State.runStatusClear body s).now = s.now := by
  unfold State.runStatusClear
  dsimp only
  repeat' split
  all_goals simp

@[simp] theorem State.runRestart_now (s : State) : (State.runRestart s).now = s.now := by simp [State.runRestart]

@[simp] theorem State.powerUp_now (straps : BaudStraps) (s : State) : (State.powerUp straps s).now = s.now := by
  unfold State.powerUp
  repeat' split
  all_goals simp

@[simp] theorem State.releaseReset_now (straps : BaudStraps) (s : State) :
    (State.releaseReset straps s).now = s.now := by
  unfold State.releaseReset
  repeat' split
  all_goals simp

@[simp] theorem State.assertReset_now (s : State) : (State.assertReset s).now = s.now := by
  unfold State.assertReset
  split <;> simp

@[simp] theorem State.losePower_now (s : State) : (State.losePower s).now = s.now := by
  unfold State.losePower
  split <;> simp

end Sys2Proof.Machine
end

