-- ==== Sys2Proof/Laws/DecoderFrame.lean ====
section
/-! SUPPORT. The operations that leave the Request Decoder alone. -/

set_option Elab.async false

namespace Sys2Proof.Machine

@[simp] theorem State.beginSending_dec (s : State) : (State.beginSending s).dec = s.dec := by
  unfold State.beginSending
  split <;> simp

@[simp] theorem State.place_dec (frame : List Byte) (s : State) : (State.place frame s).dec = s.dec := by simp [State.place]

@[simp] theorem State.cutArray_dec (s : State) : (State.cutArray s).dec = s.dec := by
  unfold State.cutArray
  repeat' split
  all_goals simp

@[simp] theorem State.abandonDrawing_dec (keys : List TicketKey) (s : State) :
    (State.abandonDrawing keys s).dec = s.dec := by
  unfold State.abandonDrawing
  repeat' split
  all_goals simp

@[simp] theorem State.freeTickets_dec (keys : List TicketKey) (s : State) :
    (State.freeTickets keys s).dec = s.dec := by simp [State.freeTickets]

@[simp] theorem State.readHand_dec (s : State) : (State.readHand s).dec = s.dec := by
  unfold State.readHand
  repeat' split
  all_goals simp

@[simp] theorem State.takeBuffer_dec (i : Nat) (t : Ticket) (s : State) : (State.takeBuffer i t s).dec = s.dec := by simp [State.takeBuffer]

@[simp] theorem State.renderNext_dec (s : State) : (State.renderNext s).dec = s.dec := by
  unfold State.renderNext
  repeat' split
  all_goals simp

@[simp] theorem State.printableChanged_dec (s : State) : (State.printableChanged s).dec = s.dec := by simp [State.printableChanged]

@[simp] theorem State.appendTicket_dec (t : Ticket) (s : State) : (State.appendTicket t s).dec = s.dec := by simp [State.appendTicket]

@[simp] theorem State.createCopy_dec (tag label copy copies : Nat) (values : List Drawn) (s : State) :
    (State.createCopy tag label copy copies values s).dec = s.dec := by simp [State.createCopy]

@[simp] theorem State.createReprint_dec (l : LastLabel) (s : State) : (State.createReprint l s).dec = s.dec := by simp [State.createReprint]

@[simp] theorem State.createGroup_dec (j : Job) (values : List Drawn) (cs : List Counter) (s : State) :
    (State.createGroup j values cs s).dec = s.dec := by simp [State.createGroup]

@[simp] theorem State.choose_dec (n : Nat) (s : State) : (State.choose n s).dec = s.dec := by
  induction n generalizing s with
  | zero => simp [State.choose]
  | succ n ih =>
    unfold State.choose
    repeat' split
    all_goals simp [ih]

@[simp] theorem State.boundary_dec (s : State) : (State.boundary s).dec = s.dec := by
  unfold State.boundary
  split <;> simp

@[simp] theorem State.reportAble_dec (ids : List Nat) (s : State) : (State.reportAble ids s).dec = s.dec := by
  unfold State.reportAble
  split <;> simp

@[simp] theorem State.settleGroup_dec (j : Job) (t : Ticket) (s : State) : (State.settleGroup j t s).dec = s.dec := by
  unfold State.settleGroup
  repeat' split
  all_goals simp

@[simp] theorem State.endIfDone_dec (tag : Nat) (s : State) : (State.endIfDone tag s).dec = s.dec := by
  unfold State.endIfDone
  repeat' split
  all_goals simp

@[simp] theorem State.completeTicket_dec (t : Ticket) (s : State) : (State.completeTicket t s).dec = s.dec := by
  unfold State.completeTicket
  repeat' split
  all_goals simp

@[simp] theorem State.voidTicket_dec (t : Ticket) (s : State) : (State.voidTicket t s).dec = s.dec := by simp [State.voidTicket]

@[simp] theorem State.cancelJob_dec (tag : Nat) (s : State) : (State.cancelJob tag s).1.dec = s.dec := by
  unfold State.cancelJob
  dsimp only
  split <;> simp

@[simp] theorem State.afterCancel_dec (discarded : Nat) (able : List Nat) (s : State) :
    (State.afterCancel discarded able s).dec = s.dec := by
  unfold State.afterCancel
  dsimp only
  repeat' split
  all_goals simp

@[simp] theorem State.lineStart_dec (n : Nat) (s : State) : (State.lineStart n s).dec = s.dec := by
  unfold State.lineStart
  repeat' split
  all_goals simp

@[simp] theorem State.freeBand_dec (n : Nat) (s : State) : (State.freeBand n s).dec = s.dec := by
  unfold State.freeBand
  repeat' split
  all_goals simp

@[simp] theorem State.cutLine_dec (s : State) : (State.cutLine s).dec = s.dec := by
  unfold State.cutLine
  split <;> simp

@[simp] theorem State.freeCut_dec (line : Option LineInHand) (s : State) : (State.freeCut line s).dec = s.dec := by
  unfold State.freeCut
  repeat' split
  all_goals simp

@[simp] theorem State.startLabel_dec (s : State) : (State.startLabel s).dec = s.dec := by
  unfold State.startLabel
  split <;> simp

@[simp] theorem State.settleStart_dec (s : State) : (State.settleStart s).dec = s.dec := by
  unfold State.settleStart
  repeat' split
  all_goals simp

@[simp] theorem State.prelimResync_dec (s : State) : (State.prelimResync s).dec = s.dec := by
  unfold State.prelimResync
  repeat' split
  all_goals simp

@[simp] theorem State.prelimCalibrate_dec (s : State) : (State.prelimCalibrate s).dec = s.dec := by
  unfold State.prelimCalibrate
  split <;> simp

@[simp] theorem State.attempt_dec (s : State) : (State.attempt s).dec = s.dec := by
  unfold State.attempt
  split <;> simp

@[simp] theorem State.takeLabel_dec (s : State) : (State.takeLabel s).dec = s.dec := by
  unfold State.takeLabel
  dsimp only
  repeat' split
  all_goals simp

@[simp] theorem State.restPresented_dec (s : State) : (State.restPresented s).dec = s.dec := by
  unfold State.restPresented
  dsimp only
  repeat' split
  all_goals simp

@[simp] theorem State.beginOrRest_dec (s : State) : (State.beginOrRest s).dec = s.dec := by
  unfold State.beginOrRest
  repeat' split
  all_goals simp

@[simp] theorem State.tryStart_dec (s : State) : (State.tryStart s).dec = s.dec := by
  unfold State.tryStart
  split <;> simp

@[simp] theorem State.present_dec (distance : Nat) (under : Presentation) (s : State) :
    (State.present distance under s).dec = s.dec := by
  unfold State.present
  split <;> simp

@[simp] theorem State.afterCompletion_dec (distance : Nat) (s : State) :
    (State.afterCompletion distance s).dec = s.dec := by
  unfold State.afterCompletion
  repeat' split
  all_goals simp

@[simp] theorem State.completeLabel_dec (s : State) : (State.completeLabel s).dec = s.dec := by
  unfold State.completeLabel
  split <;> simp

@[simp] theorem State.dropPrinting_dec (s : State) : (State.dropPrinting s).dec = s.dec := by
  unfold State.dropPrinting
  repeat' split
  all_goals simp

@[simp] theorem State.addCause_dec (causes : Causes) (s : State) : (State.addCause causes s).dec = s.dec := by
  unfold State.addCause
  dsimp only
  repeat' split
  all_goals simp

@[simp] theorem State.loseMedia_dec (s : State) : (State.loseMedia s).dec = s.dec := by simp [State.loseMedia]

@[simp] theorem State.placeEngine_dec (s : State) : (State.placeEngine s).dec = s.dec := by
  unfold State.placeEngine
  repeat' split
  all_goals simp

@[simp] theorem State.resumePrinting_dec (s : State) : (State.resumePrinting s).dec = s.dec := by
  unfold State.resumePrinting
  dsimp only
  repeat' split
  all_goals simp

@[simp] theorem State.faultPath_dec (s : State) : (State.faultPath s).dec = s.dec := by
  unfold State.faultPath
  repeat' split
  all_goals simp

@[simp] theorem State.clearCause_dec (f : Causes → Causes) (s : State) : (State.clearCause f s).dec = s.dec := by
  unfold State.clearCause
  dsimp only
  repeat' split
  all_goals simp

@[simp] theorem State.clearHold_dec (f : Holds → Holds) (s : State) : (State.clearHold f s).dec = s.dec := by
  unfold State.clearHold
  repeat' split
  all_goals simp

@[simp] theorem State.endMotion_dec (m : Motion) (s : State) : (State.endMotion m s).dec = s.dec := by
  unfold State.endMotion
  repeat' split
  all_goals simp

@[simp] theorem State.arriveLabel_dec (s : State) : (State.arriveLabel s).dec = s.dec := by
  unfold State.arriveLabel
  dsimp only
  repeat' split
  all_goals simp

@[simp] theorem State.arrive_dec (s : State) : (State.arrive s).dec = s.dec := by
  unfold State.arrive
  repeat' split
  all_goals simp

@[simp] theorem State.checkMediaOut_dec (s : State) : (State.checkMediaOut s).dec = s.dec := by
  unfold State.checkMediaOut
  split <;> simp

@[simp] theorem State.checkLimit_dec (s : State) : (State.checkLimit s).dec = s.dec := by
  unfold State.checkLimit
  repeat' split
  all_goals simp

@[simp] theorem State.raiseCount_dec (s : State) : (State.raiseCount s).dec = s.dec := by
  unfold State.raiseCount
  dsimp only
  repeat' split
  all_goals simp

@[simp] theorem State.goodGap_dec (s : State) : (State.goodGap s).dec = s.dec := by
  unfold State.goodGap
  repeat' split
  all_goals simp

@[simp] theorem State.earlyGap_dec (s : State) : (State.earlyGap s).dec = s.dec := by
  unfold State.earlyGap
  split <;> simp

@[simp] theorem State.missGap_dec (s : State) : (State.missGap s).dec = s.dec := by
  unfold State.missGap
  split <;> simp

@[simp] theorem State.endCalibration_dec (pitch gap : Nat) (forRecovery : Bool) (s : State) :
    (State.endCalibration pitch gap forRecovery s).dec = s.dec := by
  unfold State.endCalibration
  split <;> simp

@[simp] theorem State.judgeEdge_dec (missed : Bool) (s : State) : (State.judgeEdge missed s).dec = s.dec := by
  unfold State.judgeEdge
  dsimp only
  repeat' split
  all_goals simp

@[simp] theorem State.takeEdge_dec (missed fresh edge fell : Bool) (s : State) :
    (State.takeEdge missed fresh edge fell s).dec = s.dec := by
  unfold State.takeEdge
  repeat' split
  all_goals simp

@[simp] theorem State.afterMiss_dec (missed fresh edge fell : Bool) (s : State) :
    (State.afterMiss missed fresh edge fell s).dec = s.dec := by simp [State.afterMiss]

@[simp] theorem State.stepMotor_dec (gap : Bool) (s : State) : (State.stepMotor gap s).dec = s.dec := by
  unfold State.stepMotor
  dsimp only
  repeat' split
  all_goals simp

@[simp] theorem State.takeMiss_dec (s : State) : (State.takeMiss s).dec = s.dec := by
  unfold State.takeMiss
  split <;> simp

@[simp] theorem State.takeResyncLimit_dec (s : State) : (State.takeResyncLimit s).dec = s.dec := by
  unfold State.takeResyncLimit
  split <;> simp

@[simp] theorem State.takeRecoveryLimit_dec (s : State) : (State.takeRecoveryLimit s).dec = s.dec := by
  unfold State.takeRecoveryLimit
  split <;> simp

@[simp] theorem State.takeCalibrationLimit_dec (s : State) : (State.takeCalibrationLimit s).dec = s.dec := by
  unfold State.takeCalibrationLimit
  split <;> simp

@[simp] theorem State.takeMediaOut_dec (s : State) : (State.takeMediaOut s).dec = s.dec := by
  unfold State.takeMediaOut
  split <;> simp

@[simp] theorem State.beginEngineStep_dec (damaged duplicates : Nat) (s : State) :
    (State.beginEngineStep damaged duplicates s).dec = s.dec := by
  unfold State.beginEngineStep
  dsimp only
  repeat' split
  all_goals simp

@[simp] theorem State.checkEngineStep_dec (s : State) : (State.checkEngineStep s).dec = s.dec := by
  unfold State.checkEngineStep
  repeat' split
  all_goals simp

@[simp] theorem State.verifyFrom_dec (from_ : Nat) (c : Scan) (s : State) : (State.verifyFrom from_ c s).dec = s.dec := by
  unfold State.verifyFrom
  split
  · simp only [State.scanIssue_dec, State.setScan_dec]
  · simp only [State.beginEngineStep_dec]

@[simp] theorem State.staleNext_dec (losers : List Extent) (c : Scan) (s : State) : (State.staleNext losers c s).dec = s.dec := by
  unfold State.staleNext
  split
  · simp only [State.scanIssue_dec, State.setScan_dec]
  · simp only [State.verifyFrom_dec]

@[simp] theorem State.walkTo_dec (sector : Nat) (c : Scan) (s : State) : (State.walkTo sector c s).dec = s.dec := by
  unfold State.walkTo
  split
  · simp only [State.scanIssue_dec, State.setScan_dec]
  · simp only [State.staleNext_dec]

@[simp] theorem State.classLive_dec (e : Extent) (c : Scan) (s : State) : (State.classLive e c s).dec = s.dec := by
  unfold State.classLive
  split <;> simp only [State.walkTo_dec]

@[simp] theorem State.readBody_dec (e : Extent) (left : List Nat) (c : Scan) (s : State) : (State.readBody e left c s).dec = s.dec := by
  unfold State.readBody
  split
  · simp only [State.scanIssue_dec, State.setScan_dec]
  · simp only [State.classLive_dec]

@[simp] theorem State.judgeHeader_dec (sector : Nat) (c : Scan) (s : State) : (State.judgeHeader sector c s).dec = s.dec := by
  unfold State.judgeHeader
  dsimp only
  split <;> simp only [State.readBody_dec, State.walkTo_dec]

@[simp] theorem State.scanRead_dec (c : Scan) (s : State) : (State.scanRead c s).dec = s.dec := by
  unfold State.scanRead
  split <;> simp only [State.judgeHeader_dec, State.readBody_dec, State.verifyFrom_dec, State.scanIssue_dec, State.setScan_dec]

@[simp] theorem State.scanProgram_dec (failed : Bool) (c : Scan) (s : State) : (State.scanProgram failed c s).dec = s.dec := by
  unfold State.scanProgram
  split <;> simp only [State.staleNext_dec]

@[simp] theorem State.placeReady_dec (s : State) : (State.placeReady s).dec = s.dec := by
  unfold State.placeReady
  split <;> simp

@[simp] theorem State.takeSupplyCleared_dec (s : State) : (State.takeSupplyCleared s).dec = s.dec := by
  unfold State.takeSupplyCleared
  split <;> simp

@[simp] theorem State.placeJobEnd_dec (s : State) : (State.placeJobEnd s).dec = s.dec := by
  unfold State.placeJobEnd
  repeat' split
  all_goals simp

@[simp] theorem State.placeJobEnds_dec (n : Nat) (s : State) : (placeJobEnds n s).dec = s.dec := by
  induction n generalizing s with
  | zero => rfl
  | succ n ih => simp [placeJobEnds, ih]

@[simp] theorem State.noteStale_dec (failed : Bool) (r : RecRef) (s : State) :
    (State.noteStale failed r s).dec = s.dec := by
  unfold State.noteStale
  split <;> simp

@[simp] theorem State.startErase_dec (s : State) : (State.startErase s).dec = s.dec := by
  unfold State.startErase
  repeat' split
  all_goals simp

@[simp] theorem State.takeEffect_dec (s : State) : (State.takeEffect s).dec = s.dec := by
  unfold State.takeEffect
  split <;> simp

@[simp] theorem State.endWindow_dec (s : State) : (State.endWindow s).dec = s.dec := by
  unfold State.endWindow
  split <;> simp

@[simp] theorem State.completeErase_dec (residue : List (Nat × Byte)) (s : State) :
    (State.completeErase residue s).dec = s.dec := by
  unfold State.completeErase
  dsimp only
  repeat' split
  all_goals simp

@[simp] theorem State.reachGiveUp_dec (s : State) : (State.reachGiveUp s).dec = s.dec := by
  unfold State.reachGiveUp
  split <;> simp

@[simp] theorem State.timeOutUpload_dec (s : State) : (State.timeOutUpload s).dec = s.dec := by
  unfold State.timeOutUpload
  repeat' split
  all_goals simp

@[simp] theorem State.reportIfAble_dec (id : Nat) (before : Counter) (s : State) :
    (State.reportIfAble id before s).dec = s.dec := by
  unfold State.reportIfAble
  split <;> simp

@[simp] theorem State.setLatch_dec (s : State) : (State.setLatch s).dec = s.dec := by
  unfold State.setLatch
  split <;> simp

@[simp] theorem State.cancelTags_dec (tags : List Nat) (s : State) : (cancelTags tags s).1.dec = s.dec := by
  induction tags generalizing s with
  | nil => rfl
  | cons t ts ih => simp [cancelTags, ih]

@[simp] theorem State.clearLast_dec (s : State) : (State.clearLast s).dec = s.dec := by
  unfold State.clearLast
  split <;> simp

@[simp] theorem State.bandReport_dec (t : Ticket) (band : Nat) (s : State) :
    (State.bandReport t band s).dec = s.dec := by
  unfold State.bandReport
  repeat' split
  all_goals simp

@[simp] theorem State.finishBand_dec (s : State) : (State.finishBand s).dec = s.dec := by
  unfold State.finishBand
  dsimp only
  repeat' split
  all_goals simp

@[simp] theorem State.judgeSensor_dec (theta : Int) (s : State) : (State.judgeSensor theta s).dec = s.dec := by
  unfold State.judgeSensor
  dsimp only
  repeat' split
  all_goals simp

@[simp] theorem State.judgeHeat_dec (theta : Int) (s : State) : (State.judgeHeat theta s).dec = s.dec := by
  unfold State.judgeHeat
  split <;> simp

@[simp] theorem State.countSupply_dec (supply : Nat) (s : State) : (State.countSupply supply s).dec = s.dec := by
  unfold State.countSupply
  split <;> simp

@[simp] theorem State.sampleHead_dec (theta : Int) (supply : Nat) (s : State) :
    (State.sampleHead theta supply s).dec = s.dec := by
  unfold State.sampleHead
  split <;> simp

@[simp] theorem State.endLoading_dec (s : State) : (State.endLoading s).dec = s.dec := by
  unfold State.endLoading
  repeat' split
  all_goals simp

@[simp] theorem State.endPhase_dec (s : State) : (State.endPhase s).dec = s.dec := by
  unfold State.endPhase
  repeat' split
  all_goals simp

@[simp] theorem State.endLine_dec (s : State) : (State.endLine s).dec = s.dec := by
  unfold State.endLine
  repeat' split
  all_goals simp

@[simp] theorem State.tryStep_dec (gap : Bool) (s : State) : (State.tryStep gap s).dec = s.dec := by
  unfold State.tryStep
  split <;> simp

@[simp] theorem State.seeHead_dec (isOpen : Bool) (s : State) : (State.seeHead isOpen s).dec = s.dec := by
  unfold State.seeHead
  repeat' split
  all_goals simp

@[simp] theorem State.seeMedia_dec (gap : Bool) (s : State) : (State.seeMedia gap s).dec = s.dec := by
  unfold State.seeMedia
  split <;> simp

@[simp] theorem State.seeTaken_dec (noLabel : Bool) (s : State) : (State.seeTaken noLabel s).dec = s.dec := by
  unfold State.seeTaken
  dsimp only
  repeat' split
  all_goals simp

@[simp] theorem State.takePause_dec (s : State) : (State.takePause s).dec = s.dec := by
  unfold State.takePause
  repeat' split
  all_goals simp

@[simp] theorem State.takeResume_dec (s : State) : (State.takeResume s).dec = s.dec := by
  unfold State.takeResume
  repeat' split
  all_goals simp

@[simp] theorem State.compareIdle_dec (s : State) : (State.compareIdle s).dec = s.dec := by
  unfold State.compareIdle
  split <;> simp

@[simp] theorem State.applySettings_dec (new : Settings) (s : State) : (State.applySettings new s).dec = s.dec := by
  unfold State.applySettings
  dsimp only
  repeat' split
  all_goals simp

@[simp] theorem State.expireIdle_dec (s : State) : (State.expireIdle s).dec = s.dec := by
  unfold State.expireIdle
  split <;> simp

@[simp] theorem State.endWake_dec (s : State) : (State.endWake s).dec = s.dec := by
  unfold State.endWake
  repeat' split
  all_goals simp

@[simp] theorem State.seeRts_dec (high : Bool) (s : State) : (State.seeRts high s).dec = s.dec := by
  unfold State.seeRts
  split <;> simp

end Sys2Proof.Machine
end

