-- ==== Sys2Proof/Laws/FlashFrame.lean ====
section
/-! SUPPORT. The operations that leave the flash contents alone. -/

set_option Elab.async false

namespace Sys2Proof.Machine

@[simp] theorem State.beginSending_flash (s : State) : (State.beginSending s).flash = s.flash := by
  unfold State.beginSending
  split <;> simp

@[simp] theorem State.place_flash (frame : List Byte) (s : State) : (State.place frame s).flash = s.flash := by simp [State.place]

@[simp] theorem State.wakeDecoder_flash (s : State) : (State.wakeDecoder s).flash = s.flash := by
  unfold State.wakeDecoder
  split <;> simp

@[simp] theorem State.reply_flash (kind : Byte) (body : List Byte) (s : State) :
    (State.reply kind body s).flash = s.flash := by
  unfold State.reply
  split <;> simp

@[simp] theorem State.ok_flash (payload : List Byte) (s : State) : (State.ok payload s).flash = s.flash := by simp [State.ok]

@[simp] theorem State.refuse_flash (reason : Reason) (detail : Nat) (s : State) :
    (State.refuse reason detail s).flash = s.flash := by simp [State.refuse]

@[simp] theorem State.begun_flash (kind : Byte) (s : State) : (State.begun kind s).flash = s.flash := by
  unfold State.begun
  split <;> simp

theorem State.onRequest_flash (code : Nat) (run : List Byte → State → State) (s : State) (h : ∀ b x, (run b x).flash = x.flash) :
    (State.onRequest code run s).flash = s.flash := by
  unfold State.onRequest
  repeat' split
  all_goals simp [h]

@[simp] theorem State.abandonDrawing_flash (keys : List TicketKey) (s : State) :
    (State.abandonDrawing keys s).flash = s.flash := by
  unfold State.abandonDrawing
  repeat' split
  all_goals simp

@[simp] theorem State.freeTickets_flash (keys : List TicketKey) (s : State) :
    (State.freeTickets keys s).flash = s.flash := by simp [State.freeTickets]

@[simp] theorem State.readHand_flash (s : State) : (State.readHand s).flash = s.flash := by
  unfold State.readHand
  repeat' split
  all_goals simp

@[simp] theorem State.takeBuffer_flash (i : Nat) (t : Ticket) (s : State) :
    (State.takeBuffer i t s).flash = s.flash := by simp [State.takeBuffer]

@[simp] theorem State.readTable_flash (items : JobItems) (field page : Nat) (left : List Nat) (s : State) :
    (State.readTable items field page left s).flash = s.flash := rfl

@[simp] theorem State.askGeometry_flash (items : JobItems) (field page : Nat) (left : List Nat) (s : State) :
    (State.askGeometry items field page left s).flash = s.flash := by
  unfold State.askGeometry
  split <;> rfl

@[simp] theorem State.takeGeometry_flash (s : State) : (State.takeGeometry s).flash = s.flash := by
  unfold State.takeGeometry
  repeat' split
  all_goals simp

@[simp] theorem State.renderNext_flash (s : State) : (State.renderNext s).flash = s.flash := by
  unfold State.renderNext
  repeat' split
  all_goals simp

@[simp] theorem State.printableChanged_flash (s : State) : (State.printableChanged s).flash = s.flash := by simp [State.printableChanged]

@[simp] theorem State.appendTicket_flash (t : Ticket) (s : State) : (State.appendTicket t s).flash = s.flash := by simp [State.appendTicket]

@[simp] theorem State.createCopy_flash (tag label copy copies : Nat) (values : List Drawn) (s : State) :
    (State.createCopy tag label copy copies values s).flash = s.flash := by simp [State.createCopy]

@[simp] theorem State.createReprint_flash (l : LastLabel) (s : State) : (State.createReprint l s).flash = s.flash := by simp [State.createReprint]

@[simp] theorem State.createGroup_flash (j : Job) (values : List Drawn) (cs : List Counter) (s : State) :
    (State.createGroup j values cs s).flash = s.flash := by simp [State.createGroup]

@[simp] theorem State.choose_flash (n : Nat) (s : State) : (State.choose n s).flash = s.flash := by
  induction n generalizing s with
  | zero => simp [State.choose]
  | succ n ih =>
    unfold State.choose
    repeat' split
    all_goals simp [ih]

@[simp] theorem State.boundary_flash (s : State) : (State.boundary s).flash = s.flash := by
  unfold State.boundary
  split <;> simp

@[simp] theorem State.reportAble_flash (ids : List Nat) (s : State) : (State.reportAble ids s).flash = s.flash := by
  unfold State.reportAble
  split <;> simp

@[simp] theorem State.settleGroup_flash (j : Job) (t : Ticket) (s : State) :
    (State.settleGroup j t s).flash = s.flash := by
  unfold State.settleGroup
  repeat' split
  all_goals simp

@[simp] theorem State.endIfDone_flash (tag : Nat) (s : State) : (State.endIfDone tag s).flash = s.flash := by
  unfold State.endIfDone
  repeat' split
  all_goals simp

@[simp] theorem State.completeTicket_flash (t : Ticket) (s : State) : (State.completeTicket t s).flash = s.flash := by
  unfold State.completeTicket
  repeat' split
  all_goals simp

@[simp] theorem State.voidTicket_flash (t : Ticket) (s : State) : (State.voidTicket t s).flash = s.flash := by simp [State.voidTicket]

@[simp] theorem State.cancelJob_flash (tag : Nat) (s : State) : (State.cancelJob tag s).1.flash = s.flash := by
  unfold State.cancelJob
  dsimp only
  split <;> simp

@[simp] theorem State.afterCancel_flash (discarded : Nat) (able : List Nat) (s : State) :
    (State.afterCancel discarded able s).flash = s.flash := by
  unfold State.afterCancel
  dsimp only
  repeat' split
  all_goals simp

@[simp] theorem State.lineStart_flash (n : Nat) (s : State) : (State.lineStart n s).flash = s.flash := by
  unfold State.lineStart
  repeat' split
  all_goals simp

@[simp] theorem State.freeBand_flash (n : Nat) (s : State) : (State.freeBand n s).flash = s.flash := by
  unfold State.freeBand
  repeat' split
  all_goals simp

@[simp] theorem State.cutLine_flash (s : State) : (State.cutLine s).flash = s.flash := by
  unfold State.cutLine
  split <;> simp

@[simp] theorem State.freeCut_flash (line : Option LineInHand) (s : State) :
    (State.freeCut line s).flash = s.flash := by
  unfold State.freeCut
  repeat' split
  all_goals simp

@[simp] theorem State.startLabel_flash (s : State) : (State.startLabel s).flash = s.flash := by
  unfold State.startLabel
  split <;> simp

@[simp] theorem State.settleStart_flash (s : State) : (State.settleStart s).flash = s.flash := by
  unfold State.settleStart
  repeat' split
  all_goals simp

@[simp] theorem State.prelimResync_flash (s : State) : (State.prelimResync s).flash = s.flash := by
  unfold State.prelimResync
  repeat' split
  all_goals simp

@[simp] theorem State.prelimCalibrate_flash (s : State) : (State.prelimCalibrate s).flash = s.flash := by
  unfold State.prelimCalibrate
  split <;> simp

@[simp] theorem State.attempt_flash (s : State) : (State.attempt s).flash = s.flash := by
  unfold State.attempt
  split <;> simp

@[simp] theorem State.takeLabel_flash (s : State) : (State.takeLabel s).flash = s.flash := by
  unfold State.takeLabel
  dsimp only
  repeat' split
  all_goals simp

@[simp] theorem State.restPresented_flash (s : State) : (State.restPresented s).flash = s.flash := by
  unfold State.restPresented
  dsimp only
  repeat' split
  all_goals simp

@[simp] theorem State.beginOrRest_flash (s : State) : (State.beginOrRest s).flash = s.flash := by
  unfold State.beginOrRest
  repeat' split
  all_goals simp

@[simp] theorem State.tryStart_flash (s : State) : (State.tryStart s).flash = s.flash := by
  unfold State.tryStart
  split <;> simp

@[simp] theorem State.present_flash (distance : Nat) (under : Presentation) (s : State) :
    (State.present distance under s).flash = s.flash := by
  unfold State.present
  split <;> simp

@[simp] theorem State.afterCompletion_flash (distance : Nat) (s : State) :
    (State.afterCompletion distance s).flash = s.flash := by
  unfold State.afterCompletion
  repeat' split
  all_goals simp

@[simp] theorem State.completeLabel_flash (s : State) : (State.completeLabel s).flash = s.flash := by
  unfold State.completeLabel
  split <;> simp

@[simp] theorem State.dropPrinting_flash (s : State) : (State.dropPrinting s).flash = s.flash := by
  unfold State.dropPrinting
  repeat' split
  all_goals simp

@[simp] theorem State.addCause_flash (causes : Causes) (s : State) : (State.addCause causes s).flash = s.flash := by
  unfold State.addCause
  dsimp only
  repeat' split
  all_goals simp

@[simp] theorem State.loseMedia_flash (s : State) : (State.loseMedia s).flash = s.flash := by simp [State.loseMedia]

@[simp] theorem State.placeEngine_flash (s : State) : (State.placeEngine s).flash = s.flash := by
  unfold State.placeEngine
  repeat' split
  all_goals simp

@[simp] theorem State.resumePrinting_flash (s : State) : (State.resumePrinting s).flash = s.flash := by
  unfold State.resumePrinting
  dsimp only
  repeat' split
  all_goals simp

@[simp] theorem State.faultPath_flash (s : State) : (State.faultPath s).flash = s.flash := by
  unfold State.faultPath
  repeat' split
  all_goals simp

@[simp] theorem State.clearCause_flash (f : Causes → Causes) (s : State) : (State.clearCause f s).flash = s.flash := by
  unfold State.clearCause
  dsimp only
  repeat' split
  all_goals simp

@[simp] theorem State.clearHold_flash (f : Holds → Holds) (s : State) : (State.clearHold f s).flash = s.flash := by
  unfold State.clearHold
  repeat' split
  all_goals simp

@[simp] theorem State.endMotion_flash (m : Motion) (s : State) : (State.endMotion m s).flash = s.flash := by
  unfold State.endMotion
  repeat' split
  all_goals simp

@[simp] theorem State.arriveLabel_flash (s : State) : (State.arriveLabel s).flash = s.flash := by
  unfold State.arriveLabel
  dsimp only
  repeat' split
  all_goals simp

@[simp] theorem State.arrive_flash (s : State) : (State.arrive s).flash = s.flash := by
  unfold State.arrive
  repeat' split
  all_goals simp

@[simp] theorem State.checkMediaOut_flash (s : State) : (State.checkMediaOut s).flash = s.flash := by
  unfold State.checkMediaOut
  split <;> simp

@[simp] theorem State.checkLimit_flash (s : State) : (State.checkLimit s).flash = s.flash := by
  unfold State.checkLimit
  repeat' split
  all_goals simp

@[simp] theorem State.raiseCount_flash (s : State) : (State.raiseCount s).flash = s.flash := by
  unfold State.raiseCount
  dsimp only
  repeat' split
  all_goals simp

@[simp] theorem State.goodGap_flash (s : State) : (State.goodGap s).flash = s.flash := by
  unfold State.goodGap
  repeat' split
  all_goals simp

@[simp] theorem State.earlyGap_flash (s : State) : (State.earlyGap s).flash = s.flash := by
  unfold State.earlyGap
  split <;> simp

@[simp] theorem State.missGap_flash (s : State) : (State.missGap s).flash = s.flash := by
  unfold State.missGap
  split <;> simp

@[simp] theorem State.endCalibration_flash (pitch gap : Nat) (forRecovery : Bool) (s : State) :
    (State.endCalibration pitch gap forRecovery s).flash = s.flash := by
  unfold State.endCalibration
  split <;> simp

@[simp] theorem State.judgeEdge_flash (missed : Bool) (s : State) : (State.judgeEdge missed s).flash = s.flash := by
  unfold State.judgeEdge
  dsimp only
  repeat' split
  all_goals simp

@[simp] theorem State.takeEdge_flash (missed fresh edge fell : Bool) (s : State) :
    (State.takeEdge missed fresh edge fell s).flash = s.flash := by
  unfold State.takeEdge
  repeat' split
  all_goals simp

@[simp] theorem State.afterMiss_flash (missed fresh edge fell : Bool) (s : State) :
    (State.afterMiss missed fresh edge fell s).flash = s.flash := by simp [State.afterMiss]

@[simp] theorem State.stepMotor_flash (gap : Bool) (s : State) : (State.stepMotor gap s).flash = s.flash := by
  unfold State.stepMotor
  dsimp only
  repeat' split
  all_goals simp

@[simp] theorem State.takeMiss_flash (s : State) : (State.takeMiss s).flash = s.flash := by
  unfold State.takeMiss
  split <;> simp

@[simp] theorem State.takeResyncLimit_flash (s : State) : (State.takeResyncLimit s).flash = s.flash := by
  unfold State.takeResyncLimit
  split <;> simp

@[simp] theorem State.takeRecoveryLimit_flash (s : State) : (State.takeRecoveryLimit s).flash = s.flash := by
  unfold State.takeRecoveryLimit
  split <;> simp

@[simp] theorem State.takeCalibrationLimit_flash (s : State) : (State.takeCalibrationLimit s).flash = s.flash := by
  unfold State.takeCalibrationLimit
  split <;> simp

@[simp] theorem State.takeMediaOut_flash (s : State) : (State.takeMediaOut s).flash = s.flash := by
  unfold State.takeMediaOut
  split <;> simp

@[simp] theorem State.beginEngineStep_flash (damaged duplicates : Nat) (s : State) :
    (State.beginEngineStep damaged duplicates s).flash = s.flash := by
  unfold State.beginEngineStep
  dsimp only
  repeat' split
  all_goals simp

@[simp] theorem State.checkEngineStep_flash (s : State) : (State.checkEngineStep s).flash = s.flash := by
  unfold State.checkEngineStep
  repeat' split
  all_goals simp

@[simp] theorem State.verifyFrom_flash (from_ : Nat) (c : Scan) (s : State) : (State.verifyFrom from_ c s).flash = s.flash := by
  unfold State.verifyFrom
  split
  · simp only [State.scanIssue_flash, State.setScan_flash]
  · simp only [State.beginEngineStep_flash]

@[simp] theorem State.staleNext_flash (losers : List Extent) (c : Scan) (s : State) : (State.staleNext losers c s).flash = s.flash := by
  unfold State.staleNext
  split
  · simp only [State.scanIssue_flash, State.setScan_flash]
  · simp only [State.verifyFrom_flash]

@[simp] theorem State.walkTo_flash (sector : Nat) (c : Scan) (s : State) : (State.walkTo sector c s).flash = s.flash := by
  unfold State.walkTo
  split
  · simp only [State.scanIssue_flash, State.setScan_flash]
  · simp only [State.staleNext_flash]

@[simp] theorem State.classLive_flash (e : Extent) (c : Scan) (s : State) : (State.classLive e c s).flash = s.flash := by
  unfold State.classLive
  split <;> simp only [State.walkTo_flash]

@[simp] theorem State.readBody_flash (e : Extent) (left : List Nat) (c : Scan) (s : State) : (State.readBody e left c s).flash = s.flash := by
  unfold State.readBody
  split
  · simp only [State.scanIssue_flash, State.setScan_flash]
  · simp only [State.classLive_flash]

@[simp] theorem State.judgeHeader_flash (sector : Nat) (c : Scan) (s : State) : (State.judgeHeader sector c s).flash = s.flash := by
  unfold State.judgeHeader
  dsimp only
  split <;> simp only [State.readBody_flash, State.walkTo_flash]

@[simp] theorem State.scanRead_flash (c : Scan) (s : State) : (State.scanRead c s).flash = s.flash := by
  unfold State.scanRead
  split <;> simp only [State.judgeHeader_flash, State.readBody_flash, State.verifyFrom_flash, State.scanIssue_flash, State.setScan_flash]

@[simp] theorem State.scanProgram_flash (failed : Bool) (c : Scan) (s : State) : (State.scanProgram failed c s).flash = s.flash := by
  unfold State.scanProgram
  split <;> simp only [State.staleNext_flash]

@[simp] theorem State.placeReady_flash (s : State) : (State.placeReady s).flash = s.flash := by
  unfold State.placeReady
  split <;> simp

@[simp] theorem State.takeSupplyCleared_flash (s : State) : (State.takeSupplyCleared s).flash = s.flash := by
  unfold State.takeSupplyCleared
  split <;> simp

@[simp] theorem State.placeJobEnd_flash (s : State) : (State.placeJobEnd s).flash = s.flash := by
  unfold State.placeJobEnd
  repeat' split
  all_goals simp

@[simp] theorem State.placeJobEnds_flash (n : Nat) (s : State) : (placeJobEnds n s).flash = s.flash := by
  induction n generalizing s with
  | zero => rfl
  | succ n ih => simp [placeJobEnds, ih]

@[simp] theorem State.placeNotices_flash (s : State) : (State.placeNotices s).flash = s.flash := by simp [State.placeNotices]

@[simp] theorem State.answerMark_flash (s : State) : (State.answerMark s).flash = s.flash := by
  unfold State.answerMark
  split <;> simp

@[simp] theorem State.grantHead_flash (s : State) : (State.grantHead s).flash = s.flash := by
  unfold State.grantHead
  split <;> simp

@[simp] theorem State.grantHeads_flash (n : Nat) (s : State) : (grantHeads n s).flash = s.flash := by
  induction n generalizing s with
  | zero => rfl
  | succ n ih => simp [grantHeads, ih]

@[simp] theorem State.grantRoom_flash (s : State) : (State.grantRoom s).flash = s.flash := by simp [State.grantRoom]

@[simp] theorem State.settle_flash (s : State) : (State.settle s).flash = s.flash := by simp [State.settle, dueEvents]

theorem State.after_flash (f : State → State) (s : State) (h : ∀ x, (f x).flash = x.flash) :
    (State.after f s).flash = s.flash := by
  unfold State.after
  simp [h]

@[simp] theorem State.failUpload_flash (reason : Reason) (detail : Nat) (s : State) :
    (State.failUpload reason detail s).flash = s.flash := by simp [State.failUpload]

@[simp] theorem State.runRecordBegin_flash (body : List Byte) (s : State) :
    (State.runRecordBegin body s).flash = s.flash := by
  unfold State.runRecordBegin
  split <;> simp

@[simp] theorem State.headerEnd_flash (failed : Bool) (s : State) : (State.headerEnd failed s).flash = s.flash := by
  unfold State.headerEnd
  repeat' split
  all_goals simp

@[simp] theorem State.runRecordData_flash (body : List Byte) (s : State) :
    (State.runRecordData body s).flash = s.flash := by
  unfold State.runRecordData
  dsimp only
  repeat' split
  all_goals simp

@[simp] theorem State.dataEnd_flash (failed : Bool) (len : Nat) (left : List (Nat × List Byte)) (s : State) :
    (State.dataEnd failed len left s).flash = s.flash := by
  unfold State.dataEnd
  repeat' split
  all_goals simp

@[simp] theorem State.runRecordEnd_flash (body : List Byte) (s : State) :
    (State.runRecordEnd body s).flash = s.flash := by
  unfold State.runRecordEnd
  repeat' split
  all_goals simp

@[simp] theorem State.readForValidation_flash (check : Nat) (pages : List Nat) (pass : Pass) (u : Upload) (s : State) :
    (State.readForValidation check pages pass u s).flash = s.flash := by
  unfold State.readForValidation
  split <;> simp

@[simp] theorem State.bodyCheckEnd_flash (check : Nat) (left : List Nat) (s : State) :
    (State.bodyCheckEnd check left s).flash = s.flash := by
  unfold State.bodyCheckEnd
  dsimp only
  repeat' split
  all_goals simp

@[simp] theorem State.validateEnd_flash (check : Nat) (left : List Nat) (read : Nat) (pass : Pass) (s : State) :
    (State.validateEnd check left read pass s).flash = s.flash := by
  unfold State.validateEnd
  repeat' split
  all_goals simp

@[simp] theorem State.finishCommit_flash (previous : Option RecRef) (staleFailed : Bool) (s : State) :
    (State.finishCommit previous staleFailed s).flash = s.flash := by
  unfold State.finishCommit
  split <;> simp

@[simp] theorem State.issueStale_flash (r : RecRef) (work : Work) (s : State) :
    (State.issueStale r work s).flash = s.flash := by
  unfold State.issueStale
  split <;> simp

@[simp] theorem State.commitEnd_flash (failed : Bool) (previous : Option RecRef) (s : State) :
    (State.commitEnd failed previous s).flash = s.flash := by
  unfold State.commitEnd
  repeat' split
  all_goals simp

@[simp] theorem State.noteStale_flash (failed : Bool) (r : RecRef) (s : State) :
    (State.noteStale failed r s).flash = s.flash := by
  unfold State.noteStale
  split <;> simp

@[simp] theorem State.staleOldEnd_flash (failed : Bool) (r : RecRef) (s : State) :
    (State.staleOldEnd failed r s).flash = s.flash := by simp [State.staleOldEnd]

@[simp] theorem State.runRecordAbandon_flash (s : State) : (State.runRecordAbandon s).flash = s.flash := by
  unfold State.runRecordAbandon
  split <;> simp

@[simp] theorem State.runRecordRetire_flash (body : List Byte) (s : State) :
    (State.runRecordRetire body s).flash = s.flash := by
  unfold State.runRecordRetire
  repeat' split
  all_goals simp

@[simp] theorem State.retireEnd_flash (failed : Bool) (r : RecRef) (s : State) :
    (State.retireEnd failed r s).flash = s.flash := by
  unfold State.retireEnd
  repeat' split
  all_goals simp

@[simp] theorem State.finishWipe_flash (failed : Nat) (s : State) : (State.finishWipe failed s).flash = s.flash := by simp [State.finishWipe]

@[simp] theorem State.wipeNext_flash (left : List RecRef) (failed : Nat) (s : State) :
    (State.wipeNext left failed s).flash = s.flash := by
  unfold State.wipeNext
  split <;> simp

@[simp] theorem State.runStoreWipe_flash (service : Bool) (s : State) :
    (State.runStoreWipe service s).flash = s.flash := by
  unfold State.runStoreWipe
  repeat' split
  all_goals simp

@[simp] theorem State.wipeEnd_flash (failed : Bool) (r : RecRef) (left : List RecRef) (failures : Nat) (s : State) :
    (State.wipeEnd failed r left failures s).flash = s.flash := by simp [State.wipeEnd]

@[simp] theorem State.decoderProgram_flash (failed : Bool) (s : State) :
    (State.decoderProgram failed s).flash = s.flash := by
  unfold State.decoderProgram
  split <;> simp

@[simp] theorem State.bindJob_flash (items : JobItems) (s : State) : (State.bindJob items s).flash = s.flash := by
  unfold State.bindJob
  dsimp only
  repeat' split
  all_goals simp

@[simp] theorem State.submitFields_flash (items : JobItems) (fs : List Field) (i : Nat) (s : State) :
    (State.submitFields items fs i s).flash = s.flash := by
  induction fs generalizing i s with
  | nil => simp [State.submitFields]
  | cons f fs ih =>
    unfold State.submitFields
    try dsimp only
    repeat' split
    all_goals simp [ih]

@[simp] theorem State.submitFormatEnd_flash (items : JobItems) (left : List Nat) (s : State) :
    (State.submitFormatEnd items left s).flash = s.flash := by
  unfold State.submitFormatEnd
  split <;> simp

@[simp] theorem State.geometryDone_flash (items : JobItems) (field : Nat) (s : State) :
    (State.geometryDone items field s).flash = s.flash := by
  unfold State.geometryDone
  repeat' split
  all_goals simp

@[simp] theorem State.submitTableEnd_flash (items : JobItems) (field : Nat) (left : List Nat) (s : State) :
    (State.submitTableEnd items field left s).flash = s.flash := by
  unfold State.submitTableEnd
  repeat' split
  all_goals simp

@[simp] theorem State.runJobSubmit_flash (body : List Byte) (s : State) :
    (State.runJobSubmit body s).flash = s.flash := by
  unfold State.runJobSubmit
  repeat' split
  all_goals simp

@[simp] theorem State.decoderRead_flash (s : State) : (State.decoderRead s).flash = s.flash := by
  unfold State.decoderRead
  split <;> simp

@[simp] theorem State.afterProgram_flash (client : Client) (failed : Bool) (s : State) :
    (State.afterProgram client failed s).flash = s.flash := by
  unfold State.afterProgram
  repeat' split
  all_goals simp

@[simp] theorem State.afterRead_flash (client : Client) (s : State) : (State.afterRead client s).flash = s.flash := by
  unfold State.afterRead
  repeat' split
  all_goals simp

@[simp] theorem State.startErase_flash (s : State) : (State.startErase s).flash = s.flash := by
  unfold State.startErase
  repeat' split
  all_goals simp

@[simp] theorem State.takeEffect_flash (s : State) : (State.takeEffect s).flash = s.flash := by
  unfold State.takeEffect
  split <;> simp

@[simp] theorem State.endWindow_flash (s : State) : (State.endWindow s).flash = s.flash := by
  unfold State.endWindow
  split <;> simp

@[simp] theorem State.timeOutUpload_flash (s : State) : (State.timeOutUpload s).flash = s.flash := by
  unfold State.timeOutUpload
  repeat' split
  all_goals simp

@[simp] theorem State.runRecordQuery_flash (body : List Byte) (s : State) :
    (State.runRecordQuery body s).flash = s.flash := by
  unfold State.runRecordQuery
  dsimp only
  repeat' split
  all_goals simp

@[simp] theorem State.runDirectoryList_flash (body : List Byte) (s : State) :
    (State.runDirectoryList body s).flash = s.flash := by
  unfold State.runDirectoryList
  split <;> simp

@[simp] theorem State.runStoreUsage_flash (s : State) : (State.runStoreUsage s).flash = s.flash := by simp [State.runStoreUsage]

@[simp] theorem State.reportIfAble_flash (id : Nat) (before : Counter) (s : State) :
    (State.reportIfAble id before s).flash = s.flash := by
  unfold State.reportIfAble
  split <;> simp

@[simp] theorem State.runCounterDefine_flash (body : List Byte) (s : State) :
    (State.runCounterDefine body s).flash = s.flash := by
  unfold State.runCounterDefine
  dsimp only
  repeat' split
  all_goals simp

@[simp] theorem State.runCounterSet_flash (body : List Byte) (s : State) :
    (State.runCounterSet body s).flash = s.flash := by
  unfold State.runCounterSet
  dsimp only
  repeat' split
  all_goals simp

@[simp] theorem State.runCounterUndefine_flash (body : List Byte) (s : State) :
    (State.runCounterUndefine body s).flash = s.flash := by
  unfold State.runCounterUndefine
  dsimp only
  repeat' split
  all_goals simp

@[simp] theorem State.runCounterClearReturns_flash (body : List Byte) (s : State) :
    (State.runCounterClearReturns body s).flash = s.flash := by
  unfold State.runCounterClearReturns
  dsimp only
  repeat' split
  all_goals simp

@[simp] theorem State.runCounterRead_flash (body : List Byte) (s : State) :
    (State.runCounterRead body s).flash = s.flash := by
  unfold State.runCounterRead
  split <;> simp

@[simp] theorem State.setLatch_flash (s : State) : (State.setLatch s).flash = s.flash := by
  unfold State.setLatch
  split <;> simp

@[simp] theorem State.cancelTags_flash (tags : List Nat) (s : State) : (cancelTags tags s).1.flash = s.flash := by
  induction tags generalizing s with
  | nil => rfl
  | cons t ts ih => simp [cancelTags, ih]

@[simp] theorem State.cancelAll_flash (s : State) : (State.cancelAll s).flash = s.flash := by simp [State.cancelAll]

@[simp] theorem State.cancelOne_flash (tag : Nat) (s : State) : (State.cancelOne tag s).flash = s.flash := by simp [State.cancelOne]

@[simp] theorem State.runJobCancel_flash (body : List Byte) (s : State) :
    (State.runJobCancel body s).flash = s.flash := by
  unfold State.runJobCancel
  dsimp only
  repeat' split
  all_goals simp

@[simp] theorem State.runJobHold_flash (body : List Byte) (s : State) : (State.runJobHold body s).flash = s.flash := by
  unfold State.runJobHold
  dsimp only
  repeat' split
  all_goals simp

@[simp] theorem State.runJobRelease_flash (body : List Byte) (s : State) :
    (State.runJobRelease body s).flash = s.flash := by
  unfold State.runJobRelease
  dsimp only
  repeat' split
  all_goals simp

@[simp] theorem State.runJobQuery_flash (body : List Byte) (s : State) :
    (State.runJobQuery body s).flash = s.flash := by
  unfold State.runJobQuery
  dsimp only
  repeat' split
  all_goals simp

@[simp] theorem State.runQueueList_flash (s : State) : (State.runQueueList s).flash = s.flash := by simp [State.runQueueList]

@[simp] theorem State.runReprint_flash (s : State) : (State.runReprint s).flash = s.flash := by
  unfold State.runReprint
  repeat' split
  all_goals simp

@[simp] theorem State.clearLast_flash (s : State) : (State.clearLast s).flash = s.flash := by
  unfold State.clearLast
  split <;> simp

@[simp] theorem State.runReprintClear_flash (s : State) : (State.runReprintClear s).flash = s.flash := by
  unfold State.runReprintClear
  split <;> simp

@[simp] theorem State.bandReport_flash (t : Ticket) (band : Nat) (s : State) :
    (State.bandReport t band s).flash = s.flash := by
  unfold State.bandReport
  repeat' split
  all_goals simp

@[simp] theorem State.finishBand_flash (s : State) : (State.finishBand s).flash = s.flash := by
  unfold State.finishBand
  dsimp only
  repeat' split
  all_goals simp

@[simp] theorem State.judgeSensor_flash (theta : Int) (s : State) : (State.judgeSensor theta s).flash = s.flash := by
  unfold State.judgeSensor
  dsimp only
  repeat' split
  all_goals simp

@[simp] theorem State.judgeHeat_flash (theta : Int) (s : State) : (State.judgeHeat theta s).flash = s.flash := by
  unfold State.judgeHeat
  split <;> simp

@[simp] theorem State.countSupply_flash (supply : Nat) (s : State) : (State.countSupply supply s).flash = s.flash := by
  unfold State.countSupply
  split <;> simp

@[simp] theorem State.sampleHead_flash (theta : Int) (supply : Nat) (s : State) :
    (State.sampleHead theta supply s).flash = s.flash := by
  unfold State.sampleHead
  split <;> simp

@[simp] theorem State.endLoading_flash (s : State) : (State.endLoading s).flash = s.flash := by
  unfold State.endLoading
  repeat' split
  all_goals simp

@[simp] theorem State.endPhase_flash (s : State) : (State.endPhase s).flash = s.flash := by
  unfold State.endPhase
  repeat' split
  all_goals simp

@[simp] theorem State.endLine_flash (s : State) : (State.endLine s).flash = s.flash := by
  unfold State.endLine
  repeat' split
  all_goals simp

@[simp] theorem State.tryStep_flash (gap : Bool) (s : State) : (State.tryStep gap s).flash = s.flash := by
  unfold State.tryStep
  split <;> simp

@[simp] theorem State.seeHead_flash (isOpen : Bool) (s : State) : (State.seeHead isOpen s).flash = s.flash := by
  unfold State.seeHead
  repeat' split
  all_goals simp

@[simp] theorem State.seeMedia_flash (gap : Bool) (s : State) : (State.seeMedia gap s).flash = s.flash := by
  unfold State.seeMedia
  split <;> simp

@[simp] theorem State.seeTaken_flash (noLabel : Bool) (s : State) : (State.seeTaken noLabel s).flash = s.flash := by
  unfold State.seeTaken
  dsimp only
  repeat' split
  all_goals simp

@[simp] theorem State.takePause_flash (s : State) : (State.takePause s).flash = s.flash := by
  unfold State.takePause
  repeat' split
  all_goals simp

@[simp] theorem State.runPause_flash (s : State) : (State.runPause s).flash = s.flash := by simp [State.runPause]

@[simp] theorem State.takeResume_flash (s : State) : (State.takeResume s).flash = s.flash := by
  unfold State.takeResume
  repeat' split
  all_goals simp

@[simp] theorem State.runResume_flash (s : State) : (State.runResume s).flash = s.flash := by
  unfold State.runResume
  split <;> simp

@[simp] theorem State.runFeed_flash (s : State) : (State.runFeed s).flash = s.flash := by
  unfold State.runFeed
  repeat' split
  all_goals simp

@[simp] theorem State.runCalibrate_flash (s : State) : (State.runCalibrate s).flash = s.flash := by
  unfold State.runCalibrate
  repeat' split
  all_goals simp

@[simp] theorem State.compareIdle_flash (s : State) : (State.compareIdle s).flash = s.flash := by
  unfold State.compareIdle
  split <;> simp

@[simp] theorem State.applySettings_flash (new : Settings) (s : State) :
    (State.applySettings new s).flash = s.flash := by
  unfold State.applySettings
  dsimp only
  repeat' split
  all_goals simp

@[simp] theorem State.runSettingsSet_flash (body : List Byte) (s : State) :
    (State.runSettingsSet body s).flash = s.flash := by
  unfold State.runSettingsSet
  repeat' split
  all_goals simp

@[simp] theorem State.runSettingsGet_flash (service : Bool) (s : State) :
    (State.runSettingsGet service s).flash = s.flash := by simp [State.runSettingsGet]

@[simp] theorem State.expireIdle_flash (s : State) : (State.expireIdle s).flash = s.flash := by
  unfold State.expireIdle
  split <;> simp

@[simp] theorem State.endWake_flash (s : State) : (State.endWake s).flash = s.flash := by
  unfold State.endWake
  repeat' split
  all_goals simp

@[simp] theorem State.receiveByte_flash (b : Byte) (stopBit : Bool) (s : State) :
    (State.receiveByte b stopBit s).flash = s.flash := by
  unfold State.receiveByte
  split <;> simp

@[simp] theorem State.expireByte_flash (s : State) : (State.expireByte s).flash = s.flash := by
  unfold State.expireByte
  split <;> simp

@[simp] theorem State.seeRts_flash (high : Bool) (s : State) : (State.seeRts high s).flash = s.flash := by
  unfold State.seeRts
  split <;> simp

@[simp] theorem State.refuseUnknown_flash (s : State) : (State.refuseUnknown s).flash = s.flash := by
  unfold State.refuseUnknown
  repeat' split
  all_goals simp

@[simp] theorem State.runStatus_flash (s : State) : (State.runStatus s).flash = s.flash := by simp [State.runStatus]

@[simp] theorem State.runStatusClear_flash (body : List Byte) (s : State) :
    (State.runStatusClear body s).flash = s.flash := by
  unfold State.runStatusClear
  dsimp only
  repeat' split
  all_goals simp

@[simp] theorem State.runRestart_flash (s : State) : (State.runRestart s).flash = s.flash := by simp [State.runRestart]

end Sys2Proof.Machine
end

