-- ==== Sys2Proof/Laws/Flash.lean ====
section
/-! SUPPORT. The laws of the flash contents: what a byte reads as after a write, a run of writes and an erase, and
that each of them keeps the canonical form. -/

set_option Elab.async false

namespace Sys2Proof.Machine

/-! ## Canonical form -/

/-- A list with nothing listed below a bound has nothing listed below a lower one. -/
theorem canonicalFrom_mono {lo lo' : Nat} {m : Memory} (hle : lo' ≤ lo) (h : canonicalFrom lo m = true) :
    canonicalFrom lo' m = true := by
  cases m with
  | nil => rfl
  | cons c rest =>
    obtain ⟨k, v⟩ := c
    simp only [canonicalFrom, Bool.and_eq_true, decide_eq_true_eq] at h ⊢
    exact ⟨⟨by omega, h.1.2⟩, h.2⟩

/-- Nothing listed below a bound: an address below it reads as erased. -/
theorem flashRead_below {lo a : Nat} {m : Memory} (h : canonicalFrom lo m = true) (ha : a < lo) :
    flashRead m a = erasedByte := by
  induction m generalizing lo with
  | nil => rfl
  | cons c rest ih =>
    obtain ⟨k, v⟩ := c
    simp only [canonicalFrom, Bool.and_eq_true, decide_eq_true_eq] at h
    rw [flashRead, if_neg (by omega)]
    exact ih h.2 (by omega)

/-- A write keeps the canonical form. -/
theorem canonicalFrom_flashWrite {lo a : Nat} {v : Byte} {m : Memory} (h : canonicalFrom lo m = true)
    (ha : lo ≤ a) : canonicalFrom lo (flashWrite m a v) = true := by
  induction m generalizing lo with
  | nil =>
    simp only [flashWrite]
    split <;> simp_all [canonicalFrom]
  | cons c rest ih =>
    obtain ⟨k, w⟩ := c
    simp only [canonicalFrom, Bool.and_eq_true, decide_eq_true_eq] at h
    obtain ⟨⟨hk, hw⟩, hr⟩ := h
    simp only [flashWrite]
    split
    · split
      · simp_all [canonicalFrom]
      · simp_all [canonicalFrom]
    · split
      · split
        · exact canonicalFrom_mono (by omega) hr
        · subst_vars
          simp_all [canonicalFrom]
      · simp only [canonicalFrom, Bool.and_eq_true, decide_eq_true_eq]
        exact ⟨⟨hk, hw⟩, ih hr (by omega)⟩

theorem Memory.wf_flashWrite {a : Nat} {v : Byte} {m : Memory} (h : Memory.wf m = true) :
    Memory.wf (flashWrite m a v) = true := canonicalFrom_flashWrite h (Nat.zero_le a)

/-- A run of writes keeps the canonical form. -/
theorem Memory.wf_flashWriteAll {a : Nat} {vs : List Byte} {m : Memory} (h : Memory.wf m = true) :
    Memory.wf (flashWriteAll m a vs) = true := by
  induction vs generalizing a m with
  | nil => exact h
  | cons v vs ih => exact ih (Memory.wf_flashWrite h)

/-- A sublist keeps the canonical form. -/
theorem canonicalFrom_filter {lo : Nat} {m : Memory} (p : Host.Cell → Bool) (h : canonicalFrom lo m = true) :
    canonicalFrom lo (m.filter p) = true := by
  induction m generalizing lo with
  | nil => rfl
  | cons c rest ih =>
    obtain ⟨k, v⟩ := c
    simp only [canonicalFrom, Bool.and_eq_true, decide_eq_true_eq] at h
    obtain ⟨⟨hk, hv⟩, hr⟩ := h
    rw [List.filter_cons]
    split
    · simp only [canonicalFrom, Bool.and_eq_true, decide_eq_true_eq]
      exact ⟨⟨hk, hv⟩, ih hr⟩
    · exact canonicalFrom_mono (by omega) (ih hr)

/-- An erase keeps the canonical form. -/
theorem Memory.wf_flashErase {sector : Nat} {m : Memory} (h : Memory.wf m = true) :
    Memory.wf (flashErase m sector) = true := canonicalFrom_filter _ h

/-- An erase that leaves some bytes keeps the canonical form. -/
theorem Memory.wf_erasedBut {sector : Nat} {residue : List (Nat × Byte)} {m : Memory} (h : Memory.wf m = true) :
    Memory.wf (erasedBut m sector residue) = true := by
  unfold erasedBut
  have key : ∀ acc : Memory, Memory.wf acc = true →
      Memory.wf (residue.foldl (fun acc p =>
        if p.1 < Config.sectorSize then
          flashWrite acc (sectorBase sector + p.1) (flashRead m (sectorBase sector + p.1) ||| p.2)
        else acc) acc) = true := by
    induction residue with
    | nil => exact fun _ h => h
    | cons p ps ih =>
      intro acc hacc
      refine ih _ ?_
      dsimp only
      split
      · exact Memory.wf_flashWrite hacc
      · exact hacc
  exact key _ (Memory.wf_flashErase h)

/-! ## What a byte reads as -/

/-- A write leaves every other address as it was, whatever the list. -/
theorem flashRead_flashWrite_other {m : Memory} {a b : Nat} {v : Byte} (hne : b ≠ a) :
    flashRead (flashWrite m a v) b = flashRead m b := by
  induction m with
  | nil =>
    simp only [flashWrite]
    split
    · rfl
    · simp [flashRead, Ne.symm hne]
  | cons c rest ih =>
    obtain ⟨k, w⟩ := c
    simp only [flashWrite]
    split
    · split
      · rfl
      · simp [flashRead, Ne.symm hne]
    · split
      · subst_vars
        split <;> simp [flashRead, Ne.symm hne]
      · simp only [flashRead, ih]

/-- A write to canonical contents reads back. -/
theorem flashRead_flashWrite_same {lo a : Nat} {m : Memory} {v : Byte} (h : canonicalFrom lo m = true) :
    flashRead (flashWrite m a v) a = v := by
  induction m generalizing lo with
  | nil =>
    simp only [flashWrite]
    split <;> simp_all [flashRead]
  | cons c rest ih =>
    obtain ⟨k, w⟩ := c
    simp only [canonicalFrom, Bool.and_eq_true, decide_eq_true_eq] at h
    simp only [flashWrite]
    split
    · rename_i hlt
      split
      · subst_vars
        rw [flashRead, if_neg (by omega)]
        exact flashRead_below h.2 (by omega)
      · simp [flashRead]
    · split
      · split
        · subst_vars
          exact flashRead_below h.2 (by omega)
        · simp [flashRead]
      · rename_i h1 h2
        rw [flashRead, if_neg (fun hk => h2 hk.symm)]
        exact ih h.2

/-- A byte after a run of writes to canonical contents: the byte written there, or as before. -/
theorem flashRead_flashWriteAll {m : Memory} {a b : Nat} {vs : List Byte} (h : Memory.wf m = true) :
    flashRead (flashWriteAll m a vs) b =
      if a ≤ b then vs.getD (b - a) (flashRead m b) else flashRead m b := by
  induction vs generalizing a m with
  | nil => simp [flashWriteAll]
  | cons v vs ih =>
    rw [flashWriteAll, ih (Memory.wf_flashWrite h)]
    rcases Nat.lt_trichotomy a b with hlt | heq | hgt
    · rw [if_pos (by omega), if_pos (by omega), flashRead_flashWrite_other (by omega)]
      have : b - a = (b - (a + 1)) + 1 := by omega
      rw [this]
      simp
    · subst heq
      rw [if_neg (by omega), if_pos (le_refl a), flashRead_flashWrite_same h]
      simp
    · rw [if_neg (by omega), if_neg (by omega), flashRead_flashWrite_other (by omega)]

/-- A run of writes leaves every address outside it as it was, whatever the list. -/
theorem flashRead_flashWriteAll_outside {m : Memory} {a b : Nat} {vs : List Byte}
    (hb : b < a ∨ a + vs.length ≤ b) : flashRead (flashWriteAll m a vs) b = flashRead m b := by
  induction vs generalizing a m with
  | nil => rfl
  | cons v vs ih =>
    simp only [List.length_cons] at hb
    rw [flashWriteAll, ih (by omega), flashRead_flashWrite_other (by omega)]

/-- A byte after an erase: erased in the sector, as before outside it. -/
theorem flashRead_flashErase (m : Memory) (sector a : Nat) :
    flashRead (flashErase m sector) a = if inSector sector a = true then erasedByte else flashRead m a := by
  induction m with
  | nil => simp [flashErase, flashRead]
  | cons c rest ih =>
    obtain ⟨k, v⟩ := c
    unfold flashErase at ih ⊢
    rw [List.filter_cons]
    by_cases hk : k = a
    · subst hk
      by_cases hs : inSector sector k = true
      · simp_all
      · simp_all [flashRead]
    · by_cases hs : inSector sector k = true
      · simp_all [flashRead]
      · simp_all [flashRead]

/-- An erase that leaves some bytes leaves every address outside the sector as it was. -/
theorem flashRead_erasedBut_outside {m : Memory} {sector a : Nat} {residue : List (Nat × Byte)}
    (ha : inSector sector a = false) : flashRead (erasedBut m sector residue) a = flashRead m a := by
  unfold erasedBut
  have key : ∀ acc : Memory, flashRead acc a = flashRead m a →
      flashRead (residue.foldl (fun acc p =>
        if p.1 < Config.sectorSize then
          flashWrite acc (sectorBase sector + p.1) (flashRead m (sectorBase sector + p.1) ||| p.2)
        else acc) acc) a = flashRead m a := by
    induction residue with
    | nil => exact fun _ h => h
    | cons p ps ih =>
      intro acc hacc
      refine ih _ ?_
      dsimp only
      split
      · rename_i hp
        rw [flashRead_flashWrite_other, hacc]
        intro he
        subst he
        simp only [inSector, decide_eq_false_iff_not] at ha
        omega
      · exact hacc
  exact key _ (by rw [flashRead_flashErase]; simp [ha])

end Sys2Proof.Machine
end

