-- ==== Sys2Proof/Laws/LineFrame.lean ====
section
/-! SUPPORT. The operations that leave the Line Interface alone. -/

set_option Elab.async false

namespace Sys2Proof.Machine

@[simp] theorem State.wakeDecoder_line (s : State) : (State.wakeDecoder s).line = s.line := by
  unfold State.wakeDecoder
  split <;> simp

@[simp] theorem State.cutArray_line (s : State) : (State.cutArray s).line = s.line := by
  unfold State.cutArray
  repeat' split
  all_goals simp

@[simp] theorem State.abandonDrawing_line (keys : List TicketKey) (s : State) :
    (State.abandonDrawing keys s).line = s.line := by
  unfold State.abandonDrawing
  repeat' split
  all_goals simp

@[simp] theorem State.freeTickets_line (keys : List TicketKey) (s : State) :
    (State.freeTickets keys s).line = s.line := by simp [State.freeTickets]

@[simp] theorem State.readHand_line (s : State) : (State.readHand s).line = s.line := by
  unfold State.readHand
  repeat' split
  all_goals simp

@[simp] theorem State.takeBuffer_line (i : Nat) (t : Ticket) (s : State) : (State.takeBuffer i t s).line = s.line := by simp [State.takeBuffer]

@[simp] theorem State.readTable_line (items : JobItems) (field page : Nat) (left : List Nat) (s : State) :
    (State.readTable items field page left s).line = s.line := rfl

@[simp] theorem State.askGeometry_line (items : JobItems) (field page : Nat) (left : List Nat) (s : State) :
    (State.askGeometry items field page left s).line = s.line := by
  unfold State.askGeometry
  split <;> rfl

@[simp] theorem State.takeGeometry_line (s : State) : (State.takeGeometry s).line = s.line := by
  unfold State.takeGeometry
  repeat' split
  all_goals simp

@[simp] theorem State.renderNext_line (s : State) : (State.renderNext s).line = s.line := by
  unfold State.renderNext
  repeat' split
  all_goals simp

@[simp] theorem State.printableChanged_line (s : State) : (State.printableChanged s).line = s.line := by simp [State.printableChanged]

@[simp] theorem State.appendTicket_line (t : Ticket) (s : State) : (State.appendTicket t s).line = s.line := by simp [State.appendTicket]

@[simp] theorem State.createCopy_line (tag label copy copies : Nat) (values : List Drawn) (s : State) :
    (State.createCopy tag label copy copies values s).line = s.line := by simp [State.createCopy]

@[simp] theorem State.createReprint_line (l : LastLabel) (s : State) : (State.createReprint l s).line = s.line := by simp [State.createReprint]

@[simp] theorem State.createGroup_line (j : Job) (values : List Drawn) (cs : List Counter) (s : State) :
    (State.createGroup j values cs s).line = s.line := by simp [State.createGroup]

@[simp] theorem State.choose_line (n : Nat) (s : State) : (State.choose n s).line = s.line := by
  induction n generalizing s with
  | zero => simp [State.choose]
  | succ n ih =>
    unfold State.choose
    repeat' split
    all_goals simp [ih]

@[simp] theorem State.boundary_line (s : State) : (State.boundary s).line = s.line := by
  unfold State.boundary
  split <;> simp

@[simp] theorem State.reportAble_line (ids : List Nat) (s : State) : (State.reportAble ids s).line = s.line := by
  unfold State.reportAble
  split <;> simp

@[simp] theorem State.settleGroup_line (j : Job) (t : Ticket) (s : State) :
    (State.settleGroup j t s).line = s.line := by
  unfold State.settleGroup
  repeat' split
  all_goals simp

@[simp] theorem State.endIfDone_line (tag : Nat) (s : State) : (State.endIfDone tag s).line = s.line := by
  unfold State.endIfDone
  repeat' split
  all_goals simp

@[simp] theorem State.completeTicket_line (t : Ticket) (s : State) : (State.completeTicket t s).line = s.line := by
  unfold State.completeTicket
  repeat' split
  all_goals simp

@[simp] theorem State.voidTicket_line (t : Ticket) (s : State) : (State.voidTicket t s).line = s.line := by simp [State.voidTicket]

@[simp] theorem State.cancelJob_line (tag : Nat) (s : State) : (State.cancelJob tag s).1.line = s.line := by
  unfold State.cancelJob
  dsimp only
  split <;> simp

@[simp] theorem State.afterCancel_line (discarded : Nat) (able : List Nat) (s : State) :
    (State.afterCancel discarded able s).line = s.line := by
  unfold State.afterCancel
  dsimp only
  repeat' split
  all_goals simp

@[simp] theorem State.lineStart_line (n : Nat) (s : State) : (State.lineStart n s).line = s.line := by
  unfold State.lineStart
  repeat' split
  all_goals simp

@[simp] theorem State.freeBand_line (n : Nat) (s : State) : (State.freeBand n s).line = s.line := by
  unfold State.freeBand
  repeat' split
  all_goals simp

@[simp] theorem State.cutLine_line (s : State) : (State.cutLine s).line = s.line := by
  unfold State.cutLine
  split <;> simp

@[simp] theorem State.freeCut_line (line : Option LineInHand) (s : State) : (State.freeCut line s).line = s.line := by
  unfold State.freeCut
  repeat' split
  all_goals simp

@[simp] theorem State.startLabel_line (s : State) : (State.startLabel s).line = s.line := by
  unfold State.startLabel
  split <;> simp

@[simp] theorem State.settleStart_line (s : State) : (State.settleStart s).line = s.line := by
  unfold State.settleStart
  repeat' split
  all_goals simp

@[simp] theorem State.prelimResync_line (s : State) : (State.prelimResync s).line = s.line := by
  unfold State.prelimResync
  repeat' split
  all_goals simp

@[simp] theorem State.prelimCalibrate_line (s : State) : (State.prelimCalibrate s).line = s.line := by
  unfold State.prelimCalibrate
  split <;> simp

@[simp] theorem State.attempt_line (s : State) : (State.attempt s).line = s.line := by
  unfold State.attempt
  split <;> simp

@[simp] theorem State.takeLabel_line (s : State) : (State.takeLabel s).line = s.line := by
  unfold State.takeLabel
  dsimp only
  repeat' split
  all_goals simp

@[simp] theorem State.restPresented_line (s : State) : (State.restPresented s).line = s.line := by
  unfold State.restPresented
  dsimp only
  repeat' split
  all_goals simp

@[simp] theorem State.beginOrRest_line (s : State) : (State.beginOrRest s).line = s.line := by
  unfold State.beginOrRest
  repeat' split
  all_goals simp

@[simp] theorem State.tryStart_line (s : State) : (State.tryStart s).line = s.line := by
  unfold State.tryStart
  split <;> simp

@[simp] theorem State.present_line (distance : Nat) (under : Presentation) (s : State) :
    (State.present distance under s).line = s.line := by
  unfold State.present
  split <;> simp

@[simp] theorem State.afterCompletion_line (distance : Nat) (s : State) :
    (State.afterCompletion distance s).line = s.line := by
  unfold State.afterCompletion
  repeat' split
  all_goals simp

@[simp] theorem State.completeLabel_line (s : State) : (State.completeLabel s).line = s.line := by
  unfold State.completeLabel
  split <;> simp

@[simp] theorem State.dropPrinting_line (s : State) : (State.dropPrinting s).line = s.line := by
  unfold State.dropPrinting
  repeat' split
  all_goals simp

@[simp] theorem State.addCause_line (causes : Causes) (s : State) : (State.addCause causes s).line = s.line := by
  unfold State.addCause
  dsimp only
  repeat' split
  all_goals simp

@[simp] theorem State.loseMedia_line (s : State) : (State.loseMedia s).line = s.line := by simp [State.loseMedia]

@[simp] theorem State.endMotion_line (m : Motion) (s : State) : (State.endMotion m s).line = s.line := by
  unfold State.endMotion
  repeat' split
  all_goals simp

@[simp] theorem State.arriveLabel_line (s : State) : (State.arriveLabel s).line = s.line := by
  unfold State.arriveLabel
  dsimp only
  repeat' split
  all_goals simp

@[simp] theorem State.arrive_line (s : State) : (State.arrive s).line = s.line := by
  unfold State.arrive
  repeat' split
  all_goals simp

@[simp] theorem State.checkMediaOut_line (s : State) : (State.checkMediaOut s).line = s.line := by
  unfold State.checkMediaOut
  split <;> simp

@[simp] theorem State.checkLimit_line (s : State) : (State.checkLimit s).line = s.line := by
  unfold State.checkLimit
  repeat' split
  all_goals simp

@[simp] theorem State.raiseCount_line (s : State) : (State.raiseCount s).line = s.line := by
  unfold State.raiseCount
  dsimp only
  repeat' split
  all_goals simp

@[simp] theorem State.goodGap_line (s : State) : (State.goodGap s).line = s.line := by
  unfold State.goodGap
  repeat' split
  all_goals simp

@[simp] theorem State.earlyGap_line (s : State) : (State.earlyGap s).line = s.line := by
  unfold State.earlyGap
  split <;> simp

@[simp] theorem State.missGap_line (s : State) : (State.missGap s).line = s.line := by
  unfold State.missGap
  split <;> simp

@[simp] theorem State.endCalibration_line (pitch gap : Nat) (forRecovery : Bool) (s : State) :
    (State.endCalibration pitch gap forRecovery s).line = s.line := by
  unfold State.endCalibration
  split <;> simp

@[simp] theorem State.judgeEdge_line (missed : Bool) (s : State) : (State.judgeEdge missed s).line = s.line := by
  unfold State.judgeEdge
  dsimp only
  repeat' split
  all_goals simp

@[simp] theorem State.takeEdge_line (missed fresh edge fell : Bool) (s : State) :
    (State.takeEdge missed fresh edge fell s).line = s.line := by
  unfold State.takeEdge
  repeat' split
  all_goals simp

@[simp] theorem State.afterMiss_line (missed fresh edge fell : Bool) (s : State) :
    (State.afterMiss missed fresh edge fell s).line = s.line := by simp [State.afterMiss]

@[simp] theorem State.stepMotor_line (gap : Bool) (s : State) : (State.stepMotor gap s).line = s.line := by
  unfold State.stepMotor
  dsimp only
  repeat' split
  all_goals simp

@[simp] theorem State.takeMiss_line (s : State) : (State.takeMiss s).line = s.line := by
  unfold State.takeMiss
  split <;> simp

@[simp] theorem State.takeResyncLimit_line (s : State) : (State.takeResyncLimit s).line = s.line := by
  unfold State.takeResyncLimit
  split <;> simp

@[simp] theorem State.takeRecoveryLimit_line (s : State) : (State.takeRecoveryLimit s).line = s.line := by
  unfold State.takeRecoveryLimit
  split <;> simp

@[simp] theorem State.takeCalibrationLimit_line (s : State) : (State.takeCalibrationLimit s).line = s.line := by
  unfold State.takeCalibrationLimit
  split <;> simp

@[simp] theorem State.takeMediaOut_line (s : State) : (State.takeMediaOut s).line = s.line := by
  unfold State.takeMediaOut
  split <;> simp

@[simp] theorem State.beginEngineStep_line (damaged duplicates : Nat) (s : State) :
    (State.beginEngineStep damaged duplicates s).line = s.line := by
  unfold State.beginEngineStep
  dsimp only
  repeat' split
  all_goals simp

@[simp] theorem State.checkEngineStep_line (s : State) : (State.checkEngineStep s).line = s.line := by
  unfold State.checkEngineStep
  repeat' split
  all_goals simp

@[simp] theorem State.verifyFrom_line (from_ : Nat) (c : Scan) (s : State) : (State.verifyFrom from_ c s).line = s.line := by
  unfold State.verifyFrom
  split
  · simp only [State.scanIssue_line, State.setScan_line]
  · simp only [State.beginEngineStep_line]

@[simp] theorem State.staleNext_line (losers : List Extent) (c : Scan) (s : State) : (State.staleNext losers c s).line = s.line := by
  unfold State.staleNext
  split
  · simp only [State.scanIssue_line, State.setScan_line]
  · simp only [State.verifyFrom_line]

@[simp] theorem State.walkTo_line (sector : Nat) (c : Scan) (s : State) : (State.walkTo sector c s).line = s.line := by
  unfold State.walkTo
  split
  · simp only [State.scanIssue_line, State.setScan_line]
  · simp only [State.staleNext_line]

@[simp] theorem State.classLive_line (e : Extent) (c : Scan) (s : State) : (State.classLive e c s).line = s.line := by
  unfold State.classLive
  split <;> simp only [State.walkTo_line]

@[simp] theorem State.readBody_line (e : Extent) (left : List Nat) (c : Scan) (s : State) : (State.readBody e left c s).line = s.line := by
  unfold State.readBody
  split
  · simp only [State.scanIssue_line, State.setScan_line]
  · simp only [State.classLive_line]

@[simp] theorem State.judgeHeader_line (sector : Nat) (c : Scan) (s : State) : (State.judgeHeader sector c s).line = s.line := by
  unfold State.judgeHeader
  dsimp only
  split <;> simp only [State.readBody_line, State.walkTo_line]

@[simp] theorem State.scanRead_line (c : Scan) (s : State) : (State.scanRead c s).line = s.line := by
  unfold State.scanRead
  split <;> simp only [State.judgeHeader_line, State.readBody_line, State.verifyFrom_line, State.scanIssue_line, State.setScan_line]

@[simp] theorem State.scanProgram_line (failed : Bool) (c : Scan) (s : State) : (State.scanProgram failed c s).line = s.line := by
  unfold State.scanProgram
  split <;> simp only [State.staleNext_line]

@[simp] theorem State.issueStale_line (r : RecRef) (work : Work) (s : State) :
    (State.issueStale r work s).line = s.line := by
  unfold State.issueStale
  split <;> simp

@[simp] theorem State.noteStale_line (failed : Bool) (r : RecRef) (s : State) :
    (State.noteStale failed r s).line = s.line := by
  unfold State.noteStale
  split <;> simp

@[simp] theorem State.startErase_line (s : State) : (State.startErase s).line = s.line := by
  unfold State.startErase
  repeat' split
  all_goals simp

@[simp] theorem State.takeEffect_line (s : State) : (State.takeEffect s).line = s.line := by
  unfold State.takeEffect
  split <;> simp

@[simp] theorem State.endWindow_line (s : State) : (State.endWindow s).line = s.line := by
  unfold State.endWindow
  split <;> simp

@[simp] theorem State.completeErase_line (residue : List (Nat × Byte)) (s : State) :
    (State.completeErase residue s).line = s.line := by
  unfold State.completeErase
  dsimp only
  repeat' split
  all_goals simp

@[simp] theorem State.reachGiveUp_line (s : State) : (State.reachGiveUp s).line = s.line := by
  unfold State.reachGiveUp
  split <;> simp

@[simp] theorem State.timeOutUpload_line (s : State) : (State.timeOutUpload s).line = s.line := by
  unfold State.timeOutUpload
  repeat' split
  all_goals simp

@[simp] theorem State.reportIfAble_line (id : Nat) (before : Counter) (s : State) :
    (State.reportIfAble id before s).line = s.line := by
  unfold State.reportIfAble
  split <;> simp

@[simp] theorem State.setLatch_line (s : State) : (State.setLatch s).line = s.line := by
  unfold State.setLatch
  split <;> simp

@[simp] theorem State.cancelTags_line (tags : List Nat) (s : State) : (cancelTags tags s).1.line = s.line := by
  induction tags generalizing s with
  | nil => rfl
  | cons t ts ih => simp [cancelTags, ih]

@[simp] theorem State.clearLast_line (s : State) : (State.clearLast s).line = s.line := by
  unfold State.clearLast
  split <;> simp

@[simp] theorem State.countSupply_line (supply : Nat) (s : State) : (State.countSupply supply s).line = s.line := by
  unfold State.countSupply
  split <;> simp

@[simp] theorem State.endLoading_line (s : State) : (State.endLoading s).line = s.line := by
  unfold State.endLoading
  repeat' split
  all_goals simp

@[simp] theorem State.endPhase_line (s : State) : (State.endPhase s).line = s.line := by
  unfold State.endPhase
  repeat' split
  all_goals simp

@[simp] theorem State.endLine_line (s : State) : (State.endLine s).line = s.line := by
  unfold State.endLine
  repeat' split
  all_goals simp

@[simp] theorem State.tryStep_line (gap : Bool) (s : State) : (State.tryStep gap s).line = s.line := by
  unfold State.tryStep
  split <;> simp

@[simp] theorem State.seeTaken_line (noLabel : Bool) (s : State) : (State.seeTaken noLabel s).line = s.line := by
  unfold State.seeTaken
  dsimp only
  repeat' split
  all_goals simp

@[simp] theorem State.takePause_line (s : State) : (State.takePause s).line = s.line := by
  unfold State.takePause
  repeat' split
  all_goals simp

@[simp] theorem State.compareIdle_line (s : State) : (State.compareIdle s).line = s.line := by
  unfold State.compareIdle
  split <;> simp

@[simp] theorem State.applySettings_line (new : Settings) (s : State) : (State.applySettings new s).line = s.line := by
  unfold State.applySettings
  dsimp only
  repeat' split
  all_goals simp

@[simp] theorem State.expireIdle_line (s : State) : (State.expireIdle s).line = s.line := by
  unfold State.expireIdle
  split <;> simp

@[simp] theorem State.endWake_line (s : State) : (State.endWake s).line = s.line := by
  unfold State.endWake
  repeat' split
  all_goals simp

end Sys2Proof.Machine
end

