-- ==== Sys2Proof/Laws/ModeFrame.lean ====
section
/-! SUPPORT. The operations that leave the mode of the part alone. -/

set_option Elab.async false

namespace Sys2Proof.Machine

@[simp] theorem State.beginSending_mode (s : State) : (State.beginSending s).mode = s.mode := by
  unfold State.beginSending
  split <;> simp

@[simp] theorem State.place_mode (frame : List Byte) (s : State) : (State.place frame s).mode = s.mode := by simp [State.place]

@[simp] theorem State.wakeDecoder_mode (s : State) : (State.wakeDecoder s).mode = s.mode := by
  unfold State.wakeDecoder
  split <;> simp

@[simp] theorem State.reply_mode (kind : Byte) (body : List Byte) (s : State) :
    (State.reply kind body s).mode = s.mode := by
  unfold State.reply
  split <;> simp

@[simp] theorem State.ok_mode (payload : List Byte) (s : State) : (State.ok payload s).mode = s.mode := by simp [State.ok]

@[simp] theorem State.refuse_mode (reason : Reason) (detail : Nat) (s : State) :
    (State.refuse reason detail s).mode = s.mode := by simp [State.refuse]

@[simp] theorem State.begun_mode (kind : Byte) (s : State) : (State.begun kind s).mode = s.mode := by
  unfold State.begun
  split <;> simp

theorem State.onRequest_mode (code : Nat) (run : List Byte → State → State) (s : State) (h : ∀ b x, (run b x).mode = x.mode) :
    (State.onRequest code run s).mode = s.mode := by
  unfold State.onRequest
  repeat' split
  all_goals simp [h]

@[simp] theorem State.cutArray_mode (s : State) : (State.cutArray s).mode = s.mode := by
  unfold State.cutArray
  repeat' split
  all_goals simp

@[simp] theorem State.abandonDrawing_mode (keys : List TicketKey) (s : State) :
    (State.abandonDrawing keys s).mode = s.mode := by
  unfold State.abandonDrawing
  repeat' split
  all_goals simp

@[simp] theorem State.freeTickets_mode (keys : List TicketKey) (s : State) :
    (State.freeTickets keys s).mode = s.mode := by simp [State.freeTickets]

@[simp] theorem State.readHand_mode (s : State) : (State.readHand s).mode = s.mode := by
  unfold State.readHand
  repeat' split
  all_goals simp

@[simp] theorem State.takeBuffer_mode (i : Nat) (t : Ticket) (s : State) : (State.takeBuffer i t s).mode = s.mode := by simp [State.takeBuffer]

@[simp] theorem State.readTable_mode (items : JobItems) (field page : Nat) (left : List Nat) (s : State) :
    (State.readTable items field page left s).mode = s.mode := rfl

@[simp] theorem State.askGeometry_mode (items : JobItems) (field page : Nat) (left : List Nat) (s : State) :
    (State.askGeometry items field page left s).mode = s.mode := by
  unfold State.askGeometry
  split <;> rfl

@[simp] theorem State.takeGeometry_mode (s : State) : (State.takeGeometry s).mode = s.mode := by
  unfold State.takeGeometry
  repeat' split
  all_goals simp

@[simp] theorem State.renderNext_mode (s : State) : (State.renderNext s).mode = s.mode := by
  unfold State.renderNext
  repeat' split
  all_goals simp

@[simp] theorem State.printableChanged_mode (s : State) : (State.printableChanged s).mode = s.mode := by simp [State.printableChanged]

@[simp] theorem State.appendTicket_mode (t : Ticket) (s : State) : (State.appendTicket t s).mode = s.mode := by simp [State.appendTicket]

@[simp] theorem State.createCopy_mode (tag label copy copies : Nat) (values : List Drawn) (s : State) :
    (State.createCopy tag label copy copies values s).mode = s.mode := by simp [State.createCopy]

@[simp] theorem State.createReprint_mode (l : LastLabel) (s : State) : (State.createReprint l s).mode = s.mode := by simp [State.createReprint]

@[simp] theorem State.createGroup_mode (j : Job) (values : List Drawn) (cs : List Counter) (s : State) :
    (State.createGroup j values cs s).mode = s.mode := by simp [State.createGroup]

@[simp] theorem State.choose_mode (n : Nat) (s : State) : (State.choose n s).mode = s.mode := by
  induction n generalizing s with
  | zero => simp [State.choose]
  | succ n ih =>
    unfold State.choose
    repeat' split
    all_goals simp [ih]

@[simp] theorem State.boundary_mode (s : State) : (State.boundary s).mode = s.mode := by
  unfold State.boundary
  split <;> simp

@[simp] theorem State.reportAble_mode (ids : List Nat) (s : State) : (State.reportAble ids s).mode = s.mode := by
  unfold State.reportAble
  split <;> simp

@[simp] theorem State.settleGroup_mode (j : Job) (t : Ticket) (s : State) :
    (State.settleGroup j t s).mode = s.mode := by
  unfold State.settleGroup
  repeat' split
  all_goals simp

@[simp] theorem State.endIfDone_mode (tag : Nat) (s : State) : (State.endIfDone tag s).mode = s.mode := by
  unfold State.endIfDone
  repeat' split
  all_goals simp

@[simp] theorem State.completeTicket_mode (t : Ticket) (s : State) : (State.completeTicket t s).mode = s.mode := by
  unfold State.completeTicket
  repeat' split
  all_goals simp

@[simp] theorem State.voidTicket_mode (t : Ticket) (s : State) : (State.voidTicket t s).mode = s.mode := by simp [State.voidTicket]

@[simp] theorem State.cancelJob_mode (tag : Nat) (s : State) : (State.cancelJob tag s).1.mode = s.mode := by
  unfold State.cancelJob
  dsimp only
  split <;> simp

@[simp] theorem State.afterCancel_mode (discarded : Nat) (able : List Nat) (s : State) :
    (State.afterCancel discarded able s).mode = s.mode := by
  unfold State.afterCancel
  dsimp only
  repeat' split
  all_goals simp

@[simp] theorem State.lineStart_mode (n : Nat) (s : State) : (State.lineStart n s).mode = s.mode := by
  unfold State.lineStart
  repeat' split
  all_goals simp

@[simp] theorem State.freeBand_mode (n : Nat) (s : State) : (State.freeBand n s).mode = s.mode := by
  unfold State.freeBand
  repeat' split
  all_goals simp

@[simp] theorem State.cutLine_mode (s : State) : (State.cutLine s).mode = s.mode := by
  unfold State.cutLine
  split <;> simp

@[simp] theorem State.freeCut_mode (line : Option LineInHand) (s : State) : (State.freeCut line s).mode = s.mode := by
  unfold State.freeCut
  repeat' split
  all_goals simp

@[simp] theorem State.startLabel_mode (s : State) : (State.startLabel s).mode = s.mode := by
  unfold State.startLabel
  split <;> simp

@[simp] theorem State.settleStart_mode (s : State) : (State.settleStart s).mode = s.mode := by
  unfold State.settleStart
  repeat' split
  all_goals simp

@[simp] theorem State.prelimResync_mode (s : State) : (State.prelimResync s).mode = s.mode := by
  unfold State.prelimResync
  repeat' split
  all_goals simp

@[simp] theorem State.prelimCalibrate_mode (s : State) : (State.prelimCalibrate s).mode = s.mode := by
  unfold State.prelimCalibrate
  split <;> simp

@[simp] theorem State.attempt_mode (s : State) : (State.attempt s).mode = s.mode := by
  unfold State.attempt
  split <;> simp

@[simp] theorem State.takeLabel_mode (s : State) : (State.takeLabel s).mode = s.mode := by
  unfold State.takeLabel
  dsimp only
  repeat' split
  all_goals simp

@[simp] theorem State.restPresented_mode (s : State) : (State.restPresented s).mode = s.mode := by
  unfold State.restPresented
  dsimp only
  repeat' split
  all_goals simp

@[simp] theorem State.beginOrRest_mode (s : State) : (State.beginOrRest s).mode = s.mode := by
  unfold State.beginOrRest
  repeat' split
  all_goals simp

@[simp] theorem State.tryStart_mode (s : State) : (State.tryStart s).mode = s.mode := by
  unfold State.tryStart
  split <;> simp

@[simp] theorem State.present_mode (distance : Nat) (under : Presentation) (s : State) :
    (State.present distance under s).mode = s.mode := by
  unfold State.present
  split <;> simp

@[simp] theorem State.afterCompletion_mode (distance : Nat) (s : State) :
    (State.afterCompletion distance s).mode = s.mode := by
  unfold State.afterCompletion
  repeat' split
  all_goals simp

@[simp] theorem State.completeLabel_mode (s : State) : (State.completeLabel s).mode = s.mode := by
  unfold State.completeLabel
  split <;> simp

@[simp] theorem State.dropPrinting_mode (s : State) : (State.dropPrinting s).mode = s.mode := by
  unfold State.dropPrinting
  repeat' split
  all_goals simp

@[simp] theorem State.addCause_mode (causes : Causes) (s : State) : (State.addCause causes s).mode = s.mode := by
  unfold State.addCause
  dsimp only
  repeat' split
  all_goals simp

@[simp] theorem State.loseMedia_mode (s : State) : (State.loseMedia s).mode = s.mode := by simp [State.loseMedia]

@[simp] theorem State.placeEngine_mode (s : State) : (State.placeEngine s).mode = s.mode := by
  unfold State.placeEngine
  repeat' split
  all_goals simp

@[simp] theorem State.resumePrinting_mode (s : State) : (State.resumePrinting s).mode = s.mode := by
  unfold State.resumePrinting
  dsimp only
  repeat' split
  all_goals simp

@[simp] theorem State.faultPath_mode (s : State) : (State.faultPath s).mode = s.mode := by
  unfold State.faultPath
  repeat' split
  all_goals simp

@[simp] theorem State.clearCause_mode (f : Causes → Causes) (s : State) : (State.clearCause f s).mode = s.mode := by
  unfold State.clearCause
  dsimp only
  repeat' split
  all_goals simp

@[simp] theorem State.clearHold_mode (f : Holds → Holds) (s : State) : (State.clearHold f s).mode = s.mode := by
  unfold State.clearHold
  repeat' split
  all_goals simp

@[simp] theorem State.endMotion_mode (m : Motion) (s : State) : (State.endMotion m s).mode = s.mode := by
  unfold State.endMotion
  repeat' split
  all_goals simp

@[simp] theorem State.arriveLabel_mode (s : State) : (State.arriveLabel s).mode = s.mode := by
  unfold State.arriveLabel
  dsimp only
  repeat' split
  all_goals simp

@[simp] theorem State.arrive_mode (s : State) : (State.arrive s).mode = s.mode := by
  unfold State.arrive
  repeat' split
  all_goals simp

@[simp] theorem State.checkMediaOut_mode (s : State) : (State.checkMediaOut s).mode = s.mode := by
  unfold State.checkMediaOut
  split <;> simp

@[simp] theorem State.checkLimit_mode (s : State) : (State.checkLimit s).mode = s.mode := by
  unfold State.checkLimit
  repeat' split
  all_goals simp

@[simp] theorem State.raiseCount_mode (s : State) : (State.raiseCount s).mode = s.mode := by
  unfold State.raiseCount
  dsimp only
  repeat' split
  all_goals simp

@[simp] theorem State.goodGap_mode (s : State) : (State.goodGap s).mode = s.mode := by
  unfold State.goodGap
  repeat' split
  all_goals simp

@[simp] theorem State.earlyGap_mode (s : State) : (State.earlyGap s).mode = s.mode := by
  unfold State.earlyGap
  split <;> simp

@[simp] theorem State.missGap_mode (s : State) : (State.missGap s).mode = s.mode := by
  unfold State.missGap
  split <;> simp

@[simp] theorem State.endCalibration_mode (pitch gap : Nat) (forRecovery : Bool) (s : State) :
    (State.endCalibration pitch gap forRecovery s).mode = s.mode := by
  unfold State.endCalibration
  split <;> simp

@[simp] theorem State.judgeEdge_mode (missed : Bool) (s : State) : (State.judgeEdge missed s).mode = s.mode := by
  unfold State.judgeEdge
  dsimp only
  repeat' split
  all_goals simp

@[simp] theorem State.takeEdge_mode (missed fresh edge fell : Bool) (s : State) :
    (State.takeEdge missed fresh edge fell s).mode = s.mode := by
  unfold State.takeEdge
  repeat' split
  all_goals simp

@[simp] theorem State.afterMiss_mode (missed fresh edge fell : Bool) (s : State) :
    (State.afterMiss missed fresh edge fell s).mode = s.mode := by simp [State.afterMiss]

@[simp] theorem State.stepMotor_mode (gap : Bool) (s : State) : (State.stepMotor gap s).mode = s.mode := by
  unfold State.stepMotor
  dsimp only
  repeat' split
  all_goals simp

@[simp] theorem State.takeMiss_mode (s : State) : (State.takeMiss s).mode = s.mode := by
  unfold State.takeMiss
  split <;> simp

@[simp] theorem State.takeResyncLimit_mode (s : State) : (State.takeResyncLimit s).mode = s.mode := by
  unfold State.takeResyncLimit
  split <;> simp

@[simp] theorem State.takeRecoveryLimit_mode (s : State) : (State.takeRecoveryLimit s).mode = s.mode := by
  unfold State.takeRecoveryLimit
  split <;> simp

@[simp] theorem State.takeCalibrationLimit_mode (s : State) : (State.takeCalibrationLimit s).mode = s.mode := by
  unfold State.takeCalibrationLimit
  split <;> simp

@[simp] theorem State.takeMediaOut_mode (s : State) : (State.takeMediaOut s).mode = s.mode := by
  unfold State.takeMediaOut
  split <;> simp

@[simp] theorem State.takeSupplyCleared_mode (s : State) : (State.takeSupplyCleared s).mode = s.mode := by
  unfold State.takeSupplyCleared
  split <;> simp

@[simp] theorem State.placeJobEnd_mode (s : State) : (State.placeJobEnd s).mode = s.mode := by
  unfold State.placeJobEnd
  repeat' split
  all_goals simp

@[simp] theorem State.placeJobEnds_mode (n : Nat) (s : State) : (placeJobEnds n s).mode = s.mode := by
  induction n generalizing s with
  | zero => rfl
  | succ n ih => simp [placeJobEnds, ih]

@[simp] theorem State.placeNotices_mode (s : State) : (State.placeNotices s).mode = s.mode := by simp [State.placeNotices]

@[simp] theorem State.answerMark_mode (s : State) : (State.answerMark s).mode = s.mode := by
  unfold State.answerMark
  split <;> simp

@[simp] theorem State.grantHead_mode (s : State) : (State.grantHead s).mode = s.mode := by
  unfold State.grantHead
  split <;> simp

@[simp] theorem State.grantHeads_mode (n : Nat) (s : State) : (grantHeads n s).mode = s.mode := by
  induction n generalizing s with
  | zero => rfl
  | succ n ih => simp [grantHeads, ih]

@[simp] theorem State.grantRoom_mode (s : State) : (State.grantRoom s).mode = s.mode := by simp [State.grantRoom]

@[simp] theorem State.failUpload_mode (reason : Reason) (detail : Nat) (s : State) :
    (State.failUpload reason detail s).mode = s.mode := by simp [State.failUpload]

@[simp] theorem State.runRecordBegin_mode (body : List Byte) (s : State) :
    (State.runRecordBegin body s).mode = s.mode := by
  unfold State.runRecordBegin
  split <;> simp

@[simp] theorem State.headerEnd_mode (failed : Bool) (s : State) : (State.headerEnd failed s).mode = s.mode := by
  unfold State.headerEnd
  repeat' split
  all_goals simp

@[simp] theorem State.runRecordData_mode (body : List Byte) (s : State) :
    (State.runRecordData body s).mode = s.mode := by
  unfold State.runRecordData
  dsimp only
  repeat' split
  all_goals simp

@[simp] theorem State.dataEnd_mode (failed : Bool) (len : Nat) (left : List (Nat × List Byte)) (s : State) :
    (State.dataEnd failed len left s).mode = s.mode := by
  unfold State.dataEnd
  repeat' split
  all_goals simp

@[simp] theorem State.runRecordEnd_mode (body : List Byte) (s : State) :
    (State.runRecordEnd body s).mode = s.mode := by
  unfold State.runRecordEnd
  repeat' split
  all_goals simp

@[simp] theorem State.readForValidation_mode (check : Nat) (pages : List Nat) (pass : Pass) (u : Upload) (s : State) :
    (State.readForValidation check pages pass u s).mode = s.mode := by
  unfold State.readForValidation
  split <;> simp

@[simp] theorem State.bodyCheckEnd_mode (check : Nat) (left : List Nat) (s : State) :
    (State.bodyCheckEnd check left s).mode = s.mode := by
  unfold State.bodyCheckEnd
  dsimp only
  repeat' split
  all_goals simp

@[simp] theorem State.validateEnd_mode (check : Nat) (left : List Nat) (read : Nat) (pass : Pass) (s : State) :
    (State.validateEnd check left read pass s).mode = s.mode := by
  unfold State.validateEnd
  repeat' split
  all_goals simp

@[simp] theorem State.finishCommit_mode (previous : Option RecRef) (staleFailed : Bool) (s : State) :
    (State.finishCommit previous staleFailed s).mode = s.mode := by
  unfold State.finishCommit
  split <;> simp

@[simp] theorem State.issueStale_mode (r : RecRef) (work : Work) (s : State) :
    (State.issueStale r work s).mode = s.mode := by
  unfold State.issueStale
  split <;> simp

@[simp] theorem State.commitEnd_mode (failed : Bool) (previous : Option RecRef) (s : State) :
    (State.commitEnd failed previous s).mode = s.mode := by
  unfold State.commitEnd
  repeat' split
  all_goals simp

@[simp] theorem State.noteStale_mode (failed : Bool) (r : RecRef) (s : State) :
    (State.noteStale failed r s).mode = s.mode := by
  unfold State.noteStale
  split <;> simp

@[simp] theorem State.staleOldEnd_mode (failed : Bool) (r : RecRef) (s : State) :
    (State.staleOldEnd failed r s).mode = s.mode := by simp [State.staleOldEnd]

@[simp] theorem State.runRecordAbandon_mode (s : State) : (State.runRecordAbandon s).mode = s.mode := by
  unfold State.runRecordAbandon
  split <;> simp

@[simp] theorem State.runRecordRetire_mode (body : List Byte) (s : State) :
    (State.runRecordRetire body s).mode = s.mode := by
  unfold State.runRecordRetire
  repeat' split
  all_goals simp

@[simp] theorem State.retireEnd_mode (failed : Bool) (r : RecRef) (s : State) :
    (State.retireEnd failed r s).mode = s.mode := by
  unfold State.retireEnd
  repeat' split
  all_goals simp

@[simp] theorem State.finishWipe_mode (failed : Nat) (s : State) : (State.finishWipe failed s).mode = s.mode := by simp [State.finishWipe]

@[simp] theorem State.wipeNext_mode (left : List RecRef) (failed : Nat) (s : State) :
    (State.wipeNext left failed s).mode = s.mode := by
  unfold State.wipeNext
  split <;> simp

@[simp] theorem State.runStoreWipe_mode (service : Bool) (s : State) :
    (State.runStoreWipe service s).mode = s.mode := by
  unfold State.runStoreWipe
  repeat' split
  all_goals simp

@[simp] theorem State.wipeEnd_mode (failed : Bool) (r : RecRef) (left : List RecRef) (failures : Nat) (s : State) :
    (State.wipeEnd failed r left failures s).mode = s.mode := by simp [State.wipeEnd]

@[simp] theorem State.decoderProgram_mode (failed : Bool) (s : State) :
    (State.decoderProgram failed s).mode = s.mode := by
  unfold State.decoderProgram
  split <;> simp

@[simp] theorem State.bindJob_mode (items : JobItems) (s : State) : (State.bindJob items s).mode = s.mode := by
  unfold State.bindJob
  dsimp only
  repeat' split
  all_goals simp

@[simp] theorem State.submitFields_mode (items : JobItems) (fs : List Field) (i : Nat) (s : State) :
    (State.submitFields items fs i s).mode = s.mode := by
  induction fs generalizing i s with
  | nil => simp [State.submitFields]
  | cons f fs ih =>
    unfold State.submitFields
    try dsimp only
    repeat' split
    all_goals simp [ih]

@[simp] theorem State.submitFormatEnd_mode (items : JobItems) (left : List Nat) (s : State) :
    (State.submitFormatEnd items left s).mode = s.mode := by
  unfold State.submitFormatEnd
  split <;> simp

@[simp] theorem State.geometryDone_mode (items : JobItems) (field : Nat) (s : State) :
    (State.geometryDone items field s).mode = s.mode := by
  unfold State.geometryDone
  repeat' split
  all_goals simp

@[simp] theorem State.submitTableEnd_mode (items : JobItems) (field : Nat) (left : List Nat) (s : State) :
    (State.submitTableEnd items field left s).mode = s.mode := by
  unfold State.submitTableEnd
  repeat' split
  all_goals simp

@[simp] theorem State.runJobSubmit_mode (body : List Byte) (s : State) :
    (State.runJobSubmit body s).mode = s.mode := by
  unfold State.runJobSubmit
  repeat' split
  all_goals simp

@[simp] theorem State.decoderRead_mode (s : State) : (State.decoderRead s).mode = s.mode := by
  unfold State.decoderRead
  split <;> simp

@[simp] theorem State.startErase_mode (s : State) : (State.startErase s).mode = s.mode := by
  unfold State.startErase
  repeat' split
  all_goals simp

@[simp] theorem State.takeEffect_mode (s : State) : (State.takeEffect s).mode = s.mode := by
  unfold State.takeEffect
  split <;> simp

@[simp] theorem State.endWindow_mode (s : State) : (State.endWindow s).mode = s.mode := by
  unfold State.endWindow
  split <;> simp

@[simp] theorem State.completeErase_mode (residue : List (Nat × Byte)) (s : State) :
    (State.completeErase residue s).mode = s.mode := by
  unfold State.completeErase
  dsimp only
  repeat' split
  all_goals simp

@[simp] theorem State.reachGiveUp_mode (s : State) : (State.reachGiveUp s).mode = s.mode := by
  unfold State.reachGiveUp
  split <;> simp

@[simp] theorem State.timeOutUpload_mode (s : State) : (State.timeOutUpload s).mode = s.mode := by
  unfold State.timeOutUpload
  repeat' split
  all_goals simp

@[simp] theorem State.runRecordQuery_mode (body : List Byte) (s : State) :
    (State.runRecordQuery body s).mode = s.mode := by
  unfold State.runRecordQuery
  dsimp only
  repeat' split
  all_goals simp

@[simp] theorem State.runDirectoryList_mode (body : List Byte) (s : State) :
    (State.runDirectoryList body s).mode = s.mode := by
  unfold State.runDirectoryList
  split <;> simp

@[simp] theorem State.runStoreUsage_mode (s : State) : (State.runStoreUsage s).mode = s.mode := by simp [State.runStoreUsage]

@[simp] theorem State.reportIfAble_mode (id : Nat) (before : Counter) (s : State) :
    (State.reportIfAble id before s).mode = s.mode := by
  unfold State.reportIfAble
  split <;> simp

@[simp] theorem State.runCounterDefine_mode (body : List Byte) (s : State) :
    (State.runCounterDefine body s).mode = s.mode := by
  unfold State.runCounterDefine
  dsimp only
  repeat' split
  all_goals simp

@[simp] theorem State.runCounterSet_mode (body : List Byte) (s : State) :
    (State.runCounterSet body s).mode = s.mode := by
  unfold State.runCounterSet
  dsimp only
  repeat' split
  all_goals simp

@[simp] theorem State.runCounterUndefine_mode (body : List Byte) (s : State) :
    (State.runCounterUndefine body s).mode = s.mode := by
  unfold State.runCounterUndefine
  dsimp only
  repeat' split
  all_goals simp

@[simp] theorem State.runCounterClearReturns_mode (body : List Byte) (s : State) :
    (State.runCounterClearReturns body s).mode = s.mode := by
  unfold State.runCounterClearReturns
  dsimp only
  repeat' split
  all_goals simp

@[simp] theorem State.runCounterRead_mode (body : List Byte) (s : State) :
    (State.runCounterRead body s).mode = s.mode := by
  unfold State.runCounterRead
  split <;> simp

@[simp] theorem State.setLatch_mode (s : State) : (State.setLatch s).mode = s.mode := by
  unfold State.setLatch
  split <;> simp

@[simp] theorem State.cancelTags_mode (tags : List Nat) (s : State) : (cancelTags tags s).1.mode = s.mode := by
  induction tags generalizing s with
  | nil => rfl
  | cons t ts ih => simp [cancelTags, ih]

@[simp] theorem State.cancelAll_mode (s : State) : (State.cancelAll s).mode = s.mode := by simp [State.cancelAll]

@[simp] theorem State.cancelOne_mode (tag : Nat) (s : State) : (State.cancelOne tag s).mode = s.mode := by simp [State.cancelOne]

@[simp] theorem State.runJobCancel_mode (body : List Byte) (s : State) :
    (State.runJobCancel body s).mode = s.mode := by
  unfold State.runJobCancel
  dsimp only
  repeat' split
  all_goals simp

@[simp] theorem State.runJobHold_mode (body : List Byte) (s : State) : (State.runJobHold body s).mode = s.mode := by
  unfold State.runJobHold
  dsimp only
  repeat' split
  all_goals simp

@[simp] theorem State.runJobRelease_mode (body : List Byte) (s : State) :
    (State.runJobRelease body s).mode = s.mode := by
  unfold State.runJobRelease
  dsimp only
  repeat' split
  all_goals simp

@[simp] theorem State.runJobQuery_mode (body : List Byte) (s : State) : (State.runJobQuery body s).mode = s.mode := by
  unfold State.runJobQuery
  dsimp only
  repeat' split
  all_goals simp

@[simp] theorem State.runQueueList_mode (s : State) : (State.runQueueList s).mode = s.mode := by simp [State.runQueueList]

@[simp] theorem State.runReprint_mode (s : State) : (State.runReprint s).mode = s.mode := by
  unfold State.runReprint
  repeat' split
  all_goals simp

@[simp] theorem State.clearLast_mode (s : State) : (State.clearLast s).mode = s.mode := by
  unfold State.clearLast
  split <;> simp

@[simp] theorem State.runReprintClear_mode (s : State) : (State.runReprintClear s).mode = s.mode := by
  unfold State.runReprintClear
  split <;> simp

@[simp] theorem State.bandReport_mode (t : Ticket) (band : Nat) (s : State) :
    (State.bandReport t band s).mode = s.mode := by
  unfold State.bandReport
  repeat' split
  all_goals simp

@[simp] theorem State.finishBand_mode (s : State) : (State.finishBand s).mode = s.mode := by
  unfold State.finishBand
  dsimp only
  repeat' split
  all_goals simp

@[simp] theorem State.judgeSensor_mode (theta : Int) (s : State) : (State.judgeSensor theta s).mode = s.mode := by
  unfold State.judgeSensor
  dsimp only
  repeat' split
  all_goals simp

@[simp] theorem State.judgeHeat_mode (theta : Int) (s : State) : (State.judgeHeat theta s).mode = s.mode := by
  unfold State.judgeHeat
  split <;> simp

@[simp] theorem State.countSupply_mode (supply : Nat) (s : State) : (State.countSupply supply s).mode = s.mode := by
  unfold State.countSupply
  split <;> simp

@[simp] theorem State.sampleHead_mode (theta : Int) (supply : Nat) (s : State) :
    (State.sampleHead theta supply s).mode = s.mode := by
  unfold State.sampleHead
  split <;> simp

@[simp] theorem State.endLoading_mode (s : State) : (State.endLoading s).mode = s.mode := by
  unfold State.endLoading
  repeat' split
  all_goals simp

@[simp] theorem State.endPhase_mode (s : State) : (State.endPhase s).mode = s.mode := by
  unfold State.endPhase
  repeat' split
  all_goals simp

@[simp] theorem State.endLine_mode (s : State) : (State.endLine s).mode = s.mode := by
  unfold State.endLine
  repeat' split
  all_goals simp

@[simp] theorem State.tryStep_mode (gap : Bool) (s : State) : (State.tryStep gap s).mode = s.mode := by
  unfold State.tryStep
  split <;> simp

@[simp] theorem State.seeHead_mode (isOpen : Bool) (s : State) : (State.seeHead isOpen s).mode = s.mode := by
  unfold State.seeHead
  repeat' split
  all_goals simp

@[simp] theorem State.seeMedia_mode (gap : Bool) (s : State) : (State.seeMedia gap s).mode = s.mode := by
  unfold State.seeMedia
  split <;> simp

@[simp] theorem State.seeTaken_mode (noLabel : Bool) (s : State) : (State.seeTaken noLabel s).mode = s.mode := by
  unfold State.seeTaken
  dsimp only
  repeat' split
  all_goals simp

@[simp] theorem State.takePause_mode (s : State) : (State.takePause s).mode = s.mode := by
  unfold State.takePause
  repeat' split
  all_goals simp

@[simp] theorem State.runPause_mode (s : State) : (State.runPause s).mode = s.mode := by simp [State.runPause]

@[simp] theorem State.takeResume_mode (s : State) : (State.takeResume s).mode = s.mode := by
  unfold State.takeResume
  repeat' split
  all_goals simp

@[simp] theorem State.runResume_mode (s : State) : (State.runResume s).mode = s.mode := by
  unfold State.runResume
  split <;> simp

@[simp] theorem State.runFeed_mode (s : State) : (State.runFeed s).mode = s.mode := by
  unfold State.runFeed
  repeat' split
  all_goals simp

@[simp] theorem State.runCalibrate_mode (s : State) : (State.runCalibrate s).mode = s.mode := by
  unfold State.runCalibrate
  repeat' split
  all_goals simp

@[simp] theorem State.compareIdle_mode (s : State) : (State.compareIdle s).mode = s.mode := by
  unfold State.compareIdle
  split <;> simp

@[simp] theorem State.applySettings_mode (new : Settings) (s : State) : (State.applySettings new s).mode = s.mode := by
  unfold State.applySettings
  dsimp only
  repeat' split
  all_goals simp

@[simp] theorem State.runSettingsSet_mode (body : List Byte) (s : State) :
    (State.runSettingsSet body s).mode = s.mode := by
  unfold State.runSettingsSet
  repeat' split
  all_goals simp

@[simp] theorem State.runSettingsGet_mode (service : Bool) (s : State) :
    (State.runSettingsGet service s).mode = s.mode := by simp [State.runSettingsGet]

@[simp] theorem State.expireIdle_mode (s : State) : (State.expireIdle s).mode = s.mode := by
  unfold State.expireIdle
  split <;> simp

@[simp] theorem State.endWake_mode (s : State) : (State.endWake s).mode = s.mode := by
  unfold State.endWake
  repeat' split
  all_goals simp

@[simp] theorem State.receiveByte_mode (b : Byte) (stopBit : Bool) (s : State) :
    (State.receiveByte b stopBit s).mode = s.mode := by
  unfold State.receiveByte
  split <;> simp

@[simp] theorem State.expireByte_mode (s : State) : (State.expireByte s).mode = s.mode := by
  unfold State.expireByte
  split <;> simp

@[simp] theorem State.seeRts_mode (high : Bool) (s : State) : (State.seeRts high s).mode = s.mode := by
  unfold State.seeRts
  split <;> simp

@[simp] theorem State.refuseUnknown_mode (s : State) : (State.refuseUnknown s).mode = s.mode := by
  unfold State.refuseUnknown
  repeat' split
  all_goals simp

@[simp] theorem State.runStatus_mode (s : State) : (State.runStatus s).mode = s.mode := by simp [State.runStatus]

@[simp] theorem State.runStatusClear_mode (body : List Byte) (s : State) :
    (State.runStatusClear body s).mode = s.mode := by
  unfold State.runStatusClear
  dsimp only
  repeat' split
  all_goals simp

@[simp] theorem State.runRestart_mode (s : State) : (State.runRestart s).mode = s.mode := by simp [State.runRestart]

end Sys2Proof.Machine
end

