-- ==== Sys2Proof/Laws/Pending.lean ====
section
/-! SUPPORT. What every operation of the machine leaves in the queue of waiting commands: all of it. -/

set_option Elab.async false

namespace Sys2Proof.Machine

@[simp] theorem State.beginSending_pending (s : State) : (State.beginSending s).pending = s.pending := by
  unfold State.beginSending
  split <;> simp

@[simp] theorem State.place_pending (frame : List Byte) (s : State) : (State.place frame s).pending = s.pending := by simp [State.place]

@[simp] theorem State.wakeDecoder_pending (s : State) : (State.wakeDecoder s).pending = s.pending := by
  unfold State.wakeDecoder
  split <;> simp

@[simp] theorem State.reply_pending (kind : Byte) (body : List Byte) (s : State) :
    (State.reply kind body s).pending = s.pending := by
  unfold State.reply
  split <;> simp

@[simp] theorem State.ok_pending (payload : List Byte) (s : State) : (State.ok payload s).pending = s.pending := by simp [State.ok]

@[simp] theorem State.refuse_pending (reason : Reason) (detail : Nat) (s : State) :
    (State.refuse reason detail s).pending = s.pending := by simp [State.refuse]

@[simp] theorem State.begun_pending (kind : Byte) (s : State) : (State.begun kind s).pending = s.pending := by
  unfold State.begun
  split <;> simp

theorem State.onRequest_pending (code : Nat) (run : List Byte → State → State) (s : State) (h : ∀ b x, (run b x).pending = x.pending) :
    (State.onRequest code run s).pending = s.pending := by
  unfold State.onRequest
  repeat' split
  all_goals simp [h]

@[simp] theorem State.cutArray_pending (s : State) : (State.cutArray s).pending = s.pending := by
  unfold State.cutArray
  repeat' split
  all_goals simp

@[simp] theorem State.abandonDrawing_pending (keys : List TicketKey) (s : State) :
    (State.abandonDrawing keys s).pending = s.pending := by
  unfold State.abandonDrawing
  repeat' split
  all_goals simp

@[simp] theorem State.freeTickets_pending (keys : List TicketKey) (s : State) :
    (State.freeTickets keys s).pending = s.pending := by simp [State.freeTickets]

@[simp] theorem State.readHand_pending (s : State) : (State.readHand s).pending = s.pending := by
  unfold State.readHand
  repeat' split
  all_goals simp

@[simp] theorem State.takeBuffer_pending (i : Nat) (t : Ticket) (s : State) :
    (State.takeBuffer i t s).pending = s.pending := by simp [State.takeBuffer]

@[simp] theorem State.readTable_pending (items : JobItems) (field page : Nat) (left : List Nat) (s : State) :
    (State.readTable items field page left s).pending = s.pending := rfl

@[simp] theorem State.askGeometry_pending (items : JobItems) (field page : Nat) (left : List Nat) (s : State) :
    (State.askGeometry items field page left s).pending = s.pending := by
  unfold State.askGeometry
  split <;> rfl

@[simp] theorem State.takeGeometry_pending (s : State) : (State.takeGeometry s).pending = s.pending := by
  unfold State.takeGeometry
  repeat' split
  all_goals simp

@[simp] theorem State.renderNext_pending (s : State) : (State.renderNext s).pending = s.pending := by
  unfold State.renderNext
  repeat' split
  all_goals simp

@[simp] theorem State.printableChanged_pending (s : State) : (State.printableChanged s).pending = s.pending := by simp [State.printableChanged]

@[simp] theorem State.appendTicket_pending (t : Ticket) (s : State) :
    (State.appendTicket t s).pending = s.pending := by simp [State.appendTicket]

@[simp] theorem State.createCopy_pending (tag label copy copies : Nat) (values : List Drawn) (s : State) :
    (State.createCopy tag label copy copies values s).pending = s.pending := by simp [State.createCopy]

@[simp] theorem State.createReprint_pending (l : LastLabel) (s : State) :
    (State.createReprint l s).pending = s.pending := by simp [State.createReprint]

@[simp] theorem State.createGroup_pending (j : Job) (values : List Drawn) (cs : List Counter) (s : State) :
    (State.createGroup j values cs s).pending = s.pending := by simp [State.createGroup]

@[simp] theorem State.choose_pending (n : Nat) (s : State) : (State.choose n s).pending = s.pending := by
  induction n generalizing s with
  | zero => simp [State.choose]
  | succ n ih =>
    unfold State.choose
    repeat' split
    all_goals simp [ih]

@[simp] theorem State.boundary_pending (s : State) : (State.boundary s).pending = s.pending := by
  unfold State.boundary
  split <;> simp

@[simp] theorem State.reportAble_pending (ids : List Nat) (s : State) :
    (State.reportAble ids s).pending = s.pending := by
  unfold State.reportAble
  split <;> simp

@[simp] theorem State.settleGroup_pending (j : Job) (t : Ticket) (s : State) :
    (State.settleGroup j t s).pending = s.pending := by
  unfold State.settleGroup
  repeat' split
  all_goals simp

@[simp] theorem State.endIfDone_pending (tag : Nat) (s : State) : (State.endIfDone tag s).pending = s.pending := by
  unfold State.endIfDone
  repeat' split
  all_goals simp

@[simp] theorem State.completeTicket_pending (t : Ticket) (s : State) :
    (State.completeTicket t s).pending = s.pending := by
  unfold State.completeTicket
  repeat' split
  all_goals simp

@[simp] theorem State.voidTicket_pending (t : Ticket) (s : State) : (State.voidTicket t s).pending = s.pending := by simp [State.voidTicket]

@[simp] theorem State.cancelJob_pending (tag : Nat) (s : State) : (State.cancelJob tag s).1.pending = s.pending := by
  unfold State.cancelJob
  dsimp only
  split <;> simp

@[simp] theorem State.afterCancel_pending (discarded : Nat) (able : List Nat) (s : State) :
    (State.afterCancel discarded able s).pending = s.pending := by
  unfold State.afterCancel
  dsimp only
  repeat' split
  all_goals simp

@[simp] theorem State.lineStart_pending (n : Nat) (s : State) : (State.lineStart n s).pending = s.pending := by
  unfold State.lineStart
  repeat' split
  all_goals simp

@[simp] theorem State.freeBand_pending (n : Nat) (s : State) : (State.freeBand n s).pending = s.pending := by
  unfold State.freeBand
  repeat' split
  all_goals simp

@[simp] theorem State.cutLine_pending (s : State) : (State.cutLine s).pending = s.pending := by
  unfold State.cutLine
  split <;> simp

@[simp] theorem State.freeCut_pending (line : Option LineInHand) (s : State) :
    (State.freeCut line s).pending = s.pending := by
  unfold State.freeCut
  repeat' split
  all_goals simp

@[simp] theorem State.startLabel_pending (s : State) : (State.startLabel s).pending = s.pending := by
  unfold State.startLabel
  split <;> simp

@[simp] theorem State.settleStart_pending (s : State) : (State.settleStart s).pending = s.pending := by
  unfold State.settleStart
  repeat' split
  all_goals simp

@[simp] theorem State.prelimResync_pending (s : State) : (State.prelimResync s).pending = s.pending := by
  unfold State.prelimResync
  repeat' split
  all_goals simp

@[simp] theorem State.prelimCalibrate_pending (s : State) : (State.prelimCalibrate s).pending = s.pending := by
  unfold State.prelimCalibrate
  split <;> simp

@[simp] theorem State.attempt_pending (s : State) : (State.attempt s).pending = s.pending := by
  unfold State.attempt
  split <;> simp

@[simp] theorem State.takeLabel_pending (s : State) : (State.takeLabel s).pending = s.pending := by
  unfold State.takeLabel
  dsimp only
  repeat' split
  all_goals simp

@[simp] theorem State.restPresented_pending (s : State) : (State.restPresented s).pending = s.pending := by
  unfold State.restPresented
  dsimp only
  repeat' split
  all_goals simp

@[simp] theorem State.beginOrRest_pending (s : State) : (State.beginOrRest s).pending = s.pending := by
  unfold State.beginOrRest
  repeat' split
  all_goals simp

@[simp] theorem State.tryStart_pending (s : State) : (State.tryStart s).pending = s.pending := by
  unfold State.tryStart
  split <;> simp

@[simp] theorem State.present_pending (distance : Nat) (under : Presentation) (s : State) :
    (State.present distance under s).pending = s.pending := by
  unfold State.present
  split <;> simp

@[simp] theorem State.afterCompletion_pending (distance : Nat) (s : State) :
    (State.afterCompletion distance s).pending = s.pending := by
  unfold State.afterCompletion
  repeat' split
  all_goals simp

@[simp] theorem State.completeLabel_pending (s : State) : (State.completeLabel s).pending = s.pending := by
  unfold State.completeLabel
  split <;> simp

@[simp] theorem State.dropPrinting_pending (s : State) : (State.dropPrinting s).pending = s.pending := by
  unfold State.dropPrinting
  repeat' split
  all_goals simp

@[simp] theorem State.addCause_pending (causes : Causes) (s : State) :
    (State.addCause causes s).pending = s.pending := by
  unfold State.addCause
  dsimp only
  repeat' split
  all_goals simp

@[simp] theorem State.loseMedia_pending (s : State) : (State.loseMedia s).pending = s.pending := by simp [State.loseMedia]

@[simp] theorem State.placeEngine_pending (s : State) : (State.placeEngine s).pending = s.pending := by
  unfold State.placeEngine
  repeat' split
  all_goals simp

@[simp] theorem State.resumePrinting_pending (s : State) : (State.resumePrinting s).pending = s.pending := by
  unfold State.resumePrinting
  dsimp only
  repeat' split
  all_goals simp

@[simp] theorem State.faultPath_pending (s : State) : (State.faultPath s).pending = s.pending := by
  unfold State.faultPath
  repeat' split
  all_goals simp

@[simp] theorem State.clearCause_pending (f : Causes → Causes) (s : State) :
    (State.clearCause f s).pending = s.pending := by
  unfold State.clearCause
  dsimp only
  repeat' split
  all_goals simp

@[simp] theorem State.clearHold_pending (f : Holds → Holds) (s : State) :
    (State.clearHold f s).pending = s.pending := by
  unfold State.clearHold
  repeat' split
  all_goals simp

@[simp] theorem State.endMotion_pending (m : Motion) (s : State) : (State.endMotion m s).pending = s.pending := by
  unfold State.endMotion
  repeat' split
  all_goals simp

@[simp] theorem State.arriveLabel_pending (s : State) : (State.arriveLabel s).pending = s.pending := by
  unfold State.arriveLabel
  dsimp only
  repeat' split
  all_goals simp

@[simp] theorem State.arrive_pending (s : State) : (State.arrive s).pending = s.pending := by
  unfold State.arrive
  repeat' split
  all_goals simp

@[simp] theorem State.checkMediaOut_pending (s : State) : (State.checkMediaOut s).pending = s.pending := by
  unfold State.checkMediaOut
  split <;> simp

@[simp] theorem State.checkLimit_pending (s : State) : (State.checkLimit s).pending = s.pending := by
  unfold State.checkLimit
  repeat' split
  all_goals simp

@[simp] theorem State.raiseCount_pending (s : State) : (State.raiseCount s).pending = s.pending := by
  unfold State.raiseCount
  dsimp only
  repeat' split
  all_goals simp

@[simp] theorem State.goodGap_pending (s : State) : (State.goodGap s).pending = s.pending := by
  unfold State.goodGap
  repeat' split
  all_goals simp

@[simp] theorem State.earlyGap_pending (s : State) : (State.earlyGap s).pending = s.pending := by
  unfold State.earlyGap
  split <;> simp

@[simp] theorem State.missGap_pending (s : State) : (State.missGap s).pending = s.pending := by
  unfold State.missGap
  split <;> simp

@[simp] theorem State.endCalibration_pending (pitch gap : Nat) (forRecovery : Bool) (s : State) :
    (State.endCalibration pitch gap forRecovery s).pending = s.pending := by
  unfold State.endCalibration
  split <;> simp

@[simp] theorem State.judgeEdge_pending (missed : Bool) (s : State) :
    (State.judgeEdge missed s).pending = s.pending := by
  unfold State.judgeEdge
  dsimp only
  repeat' split
  all_goals simp

@[simp] theorem State.takeEdge_pending (missed fresh edge fell : Bool) (s : State) :
    (State.takeEdge missed fresh edge fell s).pending = s.pending := by
  unfold State.takeEdge
  repeat' split
  all_goals simp

@[simp] theorem State.afterMiss_pending (missed fresh edge fell : Bool) (s : State) :
    (State.afterMiss missed fresh edge fell s).pending = s.pending := by simp [State.afterMiss]

@[simp] theorem State.stepMotor_pending (gap : Bool) (s : State) : (State.stepMotor gap s).pending = s.pending := by
  unfold State.stepMotor
  dsimp only
  repeat' split
  all_goals simp

@[simp] theorem State.takeMiss_pending (s : State) : (State.takeMiss s).pending = s.pending := by
  unfold State.takeMiss
  split <;> simp

@[simp] theorem State.takeResyncLimit_pending (s : State) : (State.takeResyncLimit s).pending = s.pending := by
  unfold State.takeResyncLimit
  split <;> simp

@[simp] theorem State.takeRecoveryLimit_pending (s : State) : (State.takeRecoveryLimit s).pending = s.pending := by
  unfold State.takeRecoveryLimit
  split <;> simp

@[simp] theorem State.takeCalibrationLimit_pending (s : State) :
    (State.takeCalibrationLimit s).pending = s.pending := by
  unfold State.takeCalibrationLimit
  split <;> simp

@[simp] theorem State.takeMediaOut_pending (s : State) : (State.takeMediaOut s).pending = s.pending := by
  unfold State.takeMediaOut
  split <;> simp

@[simp] theorem State.resetBlocks_pending (mode : Mode) (rate : Nat) (s : State) :
    (State.resetBlocks mode rate s).pending = s.pending := by simp [State.resetBlocks]

@[simp] theorem State.beginEngineStep_pending (damaged duplicates : Nat) (s : State) :
    (State.beginEngineStep damaged duplicates s).pending = s.pending := by
  unfold State.beginEngineStep
  dsimp only
  repeat' split
  all_goals simp

@[simp] theorem State.checkEngineStep_pending (s : State) : (State.checkEngineStep s).pending = s.pending := by
  unfold State.checkEngineStep
  repeat' split
  all_goals simp

@[simp] theorem State.verifyFrom_pending (from_ : Nat) (c : Scan) (s : State) : (State.verifyFrom from_ c s).pending = s.pending := by
  unfold State.verifyFrom
  split
  · simp only [State.scanIssue_pending, State.setScan_pending]
  · simp only [State.beginEngineStep_pending]

@[simp] theorem State.staleNext_pending (losers : List Extent) (c : Scan) (s : State) : (State.staleNext losers c s).pending = s.pending := by
  unfold State.staleNext
  split
  · simp only [State.scanIssue_pending, State.setScan_pending]
  · simp only [State.verifyFrom_pending]

@[simp] theorem State.walkTo_pending (sector : Nat) (c : Scan) (s : State) : (State.walkTo sector c s).pending = s.pending := by
  unfold State.walkTo
  split
  · simp only [State.scanIssue_pending, State.setScan_pending]
  · simp only [State.staleNext_pending]

@[simp] theorem State.classLive_pending (e : Extent) (c : Scan) (s : State) : (State.classLive e c s).pending = s.pending := by
  unfold State.classLive
  split <;> simp only [State.walkTo_pending]

@[simp] theorem State.readBody_pending (e : Extent) (left : List Nat) (c : Scan) (s : State) : (State.readBody e left c s).pending = s.pending := by
  unfold State.readBody
  split
  · simp only [State.scanIssue_pending, State.setScan_pending]
  · simp only [State.classLive_pending]

@[simp] theorem State.judgeHeader_pending (sector : Nat) (c : Scan) (s : State) : (State.judgeHeader sector c s).pending = s.pending := by
  unfold State.judgeHeader
  dsimp only
  split <;> simp only [State.readBody_pending, State.walkTo_pending]

@[simp] theorem State.scanRead_pending (c : Scan) (s : State) : (State.scanRead c s).pending = s.pending := by
  unfold State.scanRead
  split <;> simp only [State.judgeHeader_pending, State.readBody_pending, State.verifyFrom_pending, State.scanIssue_pending, State.setScan_pending]

@[simp] theorem State.scanProgram_pending (failed : Bool) (c : Scan) (s : State) : (State.scanProgram failed c s).pending = s.pending := by
  unfold State.scanProgram
  split <;> simp only [State.staleNext_pending]

@[simp] theorem State.beginStartUp_pending (straps : BaudStraps) (s : State) :
    (State.beginStartUp straps s).pending = s.pending := by simp [State.beginStartUp]

@[simp] theorem State.placeReady_pending (s : State) : (State.placeReady s).pending = s.pending := by
  unfold State.placeReady
  split <;> simp

@[simp] theorem State.takeSupplyCleared_pending (s : State) : (State.takeSupplyCleared s).pending = s.pending := by
  unfold State.takeSupplyCleared
  split <;> simp

@[simp] theorem State.placeJobEnd_pending (s : State) : (State.placeJobEnd s).pending = s.pending := by
  unfold State.placeJobEnd
  repeat' split
  all_goals simp

@[simp] theorem State.placeJobEnds_pending (n : Nat) (s : State) : (placeJobEnds n s).pending = s.pending := by
  induction n generalizing s with
  | zero => rfl
  | succ n ih => simp [placeJobEnds, ih]

@[simp] theorem State.placeNotices_pending (s : State) : (State.placeNotices s).pending = s.pending := by simp [State.placeNotices]

@[simp] theorem State.answerMark_pending (s : State) : (State.answerMark s).pending = s.pending := by
  unfold State.answerMark
  split <;> simp

@[simp] theorem State.grantHead_pending (s : State) : (State.grantHead s).pending = s.pending := by
  unfold State.grantHead
  split <;> simp

@[simp] theorem State.grantHeads_pending (n : Nat) (s : State) : (grantHeads n s).pending = s.pending := by
  induction n generalizing s with
  | zero => rfl
  | succ n ih => simp [grantHeads, ih]

@[simp] theorem State.grantRoom_pending (s : State) : (State.grantRoom s).pending = s.pending := by simp [State.grantRoom]

@[simp] theorem State.settle_pending (s : State) : (State.settle s).pending = s.pending := by simp [State.settle, dueEvents]

theorem State.after_pending (f : State → State) (s : State) (h : ∀ x, (f x).pending = x.pending) :
    (State.after f s).pending = s.pending := by
  unfold State.after
  simp [h]

@[simp] theorem State.failUpload_pending (reason : Reason) (detail : Nat) (s : State) :
    (State.failUpload reason detail s).pending = s.pending := by simp [State.failUpload]

@[simp] theorem State.runRecordBegin_pending (body : List Byte) (s : State) :
    (State.runRecordBegin body s).pending = s.pending := by
  unfold State.runRecordBegin
  split <;> simp

@[simp] theorem State.headerEnd_pending (failed : Bool) (s : State) :
    (State.headerEnd failed s).pending = s.pending := by
  unfold State.headerEnd
  repeat' split
  all_goals simp

@[simp] theorem State.runRecordData_pending (body : List Byte) (s : State) :
    (State.runRecordData body s).pending = s.pending := by
  unfold State.runRecordData
  dsimp only
  repeat' split
  all_goals simp

@[simp] theorem State.dataEnd_pending (failed : Bool) (len : Nat) (left : List (Nat × List Byte)) (s : State) :
    (State.dataEnd failed len left s).pending = s.pending := by
  unfold State.dataEnd
  repeat' split
  all_goals simp

@[simp] theorem State.runRecordEnd_pending (body : List Byte) (s : State) :
    (State.runRecordEnd body s).pending = s.pending := by
  unfold State.runRecordEnd
  repeat' split
  all_goals simp

@[simp] theorem State.readForValidation_pending (check : Nat) (pages : List Nat) (pass : Pass) (u : Upload) (s : State) :
    (State.readForValidation check pages pass u s).pending = s.pending := by
  unfold State.readForValidation
  split <;> simp

@[simp] theorem State.bodyCheckEnd_pending (check : Nat) (left : List Nat) (s : State) :
    (State.bodyCheckEnd check left s).pending = s.pending := by
  unfold State.bodyCheckEnd
  dsimp only
  repeat' split
  all_goals simp

@[simp] theorem State.validateEnd_pending (check : Nat) (left : List Nat) (read : Nat) (pass : Pass) (s : State) :
    (State.validateEnd check left read pass s).pending = s.pending := by
  unfold State.validateEnd
  repeat' split
  all_goals simp

@[simp] theorem State.finishCommit_pending (previous : Option RecRef) (staleFailed : Bool) (s : State) :
    (State.finishCommit previous staleFailed s).pending = s.pending := by
  unfold State.finishCommit
  split <;> simp

@[simp] theorem State.issueStale_pending (r : RecRef) (work : Work) (s : State) :
    (State.issueStale r work s).pending = s.pending := by
  unfold State.issueStale
  split <;> simp

@[simp] theorem State.commitEnd_pending (failed : Bool) (previous : Option RecRef) (s : State) :
    (State.commitEnd failed previous s).pending = s.pending := by
  unfold State.commitEnd
  repeat' split
  all_goals simp

@[simp] theorem State.noteStale_pending (failed : Bool) (r : RecRef) (s : State) :
    (State.noteStale failed r s).pending = s.pending := by
  unfold State.noteStale
  split <;> simp

@[simp] theorem State.staleOldEnd_pending (failed : Bool) (r : RecRef) (s : State) :
    (State.staleOldEnd failed r s).pending = s.pending := by simp [State.staleOldEnd]

@[simp] theorem State.runRecordAbandon_pending (s : State) : (State.runRecordAbandon s).pending = s.pending := by
  unfold State.runRecordAbandon
  split <;> simp

@[simp] theorem State.runRecordRetire_pending (body : List Byte) (s : State) :
    (State.runRecordRetire body s).pending = s.pending := by
  unfold State.runRecordRetire
  repeat' split
  all_goals simp

@[simp] theorem State.retireEnd_pending (failed : Bool) (r : RecRef) (s : State) :
    (State.retireEnd failed r s).pending = s.pending := by
  unfold State.retireEnd
  repeat' split
  all_goals simp

@[simp] theorem State.finishWipe_pending (failed : Nat) (s : State) :
    (State.finishWipe failed s).pending = s.pending := by simp [State.finishWipe]

@[simp] theorem State.wipeNext_pending (left : List RecRef) (failed : Nat) (s : State) :
    (State.wipeNext left failed s).pending = s.pending := by
  unfold State.wipeNext
  split <;> simp

@[simp] theorem State.runStoreWipe_pending (service : Bool) (s : State) :
    (State.runStoreWipe service s).pending = s.pending := by
  unfold State.runStoreWipe
  repeat' split
  all_goals simp

@[simp] theorem State.wipeEnd_pending (failed : Bool) (r : RecRef) (left : List RecRef) (failures : Nat) (s : State) :
    (State.wipeEnd failed r left failures s).pending = s.pending := by simp [State.wipeEnd]

@[simp] theorem State.decoderProgram_pending (failed : Bool) (s : State) :
    (State.decoderProgram failed s).pending = s.pending := by
  unfold State.decoderProgram
  split <;> simp

@[simp] theorem State.bindJob_pending (items : JobItems) (s : State) :
    (State.bindJob items s).pending = s.pending := by
  unfold State.bindJob
  dsimp only
  repeat' split
  all_goals simp

@[simp] theorem State.submitFields_pending (items : JobItems) (fs : List Field) (i : Nat) (s : State) :
    (State.submitFields items fs i s).pending = s.pending := by
  induction fs generalizing i s with
  | nil => simp [State.submitFields]
  | cons f fs ih =>
    unfold State.submitFields
    try dsimp only
    repeat' split
    all_goals simp [ih]

@[simp] theorem State.submitFormatEnd_pending (items : JobItems) (left : List Nat) (s : State) :
    (State.submitFormatEnd items left s).pending = s.pending := by
  unfold State.submitFormatEnd
  split <;> simp

@[simp] theorem State.geometryDone_pending (items : JobItems) (field : Nat) (s : State) :
    (State.geometryDone items field s).pending = s.pending := by
  unfold State.geometryDone
  repeat' split
  all_goals simp

@[simp] theorem State.submitTableEnd_pending (items : JobItems) (field : Nat) (left : List Nat) (s : State) :
    (State.submitTableEnd items field left s).pending = s.pending := by
  unfold State.submitTableEnd
  repeat' split
  all_goals simp

@[simp] theorem State.runJobSubmit_pending (body : List Byte) (s : State) :
    (State.runJobSubmit body s).pending = s.pending := by
  unfold State.runJobSubmit
  repeat' split
  all_goals simp

@[simp] theorem State.decoderRead_pending (s : State) : (State.decoderRead s).pending = s.pending := by
  unfold State.decoderRead
  split <;> simp

@[simp] theorem State.afterProgram_pending (client : Client) (failed : Bool) (s : State) :
    (State.afterProgram client failed s).pending = s.pending := by
  unfold State.afterProgram
  repeat' split
  all_goals simp

@[simp] theorem State.afterRead_pending (client : Client) (s : State) :
    (State.afterRead client s).pending = s.pending := by
  unfold State.afterRead
  repeat' split
  all_goals simp

@[simp] theorem State.endProgram_pending (client : Client) (addr : Nat) (data : List Byte) (left : Option (List Byte)) (s : State) :
    (State.endProgram client addr data left s).pending = s.pending := by simp [State.endProgram]

@[simp] theorem State.failProgram_pending (client : Client) (addr : Nat) (data : List Byte) (s : State) :
    (State.failProgram client addr data s).pending = s.pending := by simp [State.failProgram]

@[simp] theorem State.startErase_pending (s : State) : (State.startErase s).pending = s.pending := by
  unfold State.startErase
  repeat' split
  all_goals simp

@[simp] theorem State.takeEffect_pending (s : State) : (State.takeEffect s).pending = s.pending := by
  unfold State.takeEffect
  split <;> simp

@[simp] theorem State.endWindow_pending (s : State) : (State.endWindow s).pending = s.pending := by
  unfold State.endWindow
  split <;> simp

@[simp] theorem State.completeErase_pending (residue : List (Nat × Byte)) (s : State) :
    (State.completeErase residue s).pending = s.pending := by
  unfold State.completeErase
  dsimp only
  repeat' split
  all_goals simp

@[simp] theorem State.reachGiveUp_pending (s : State) : (State.reachGiveUp s).pending = s.pending := by
  unfold State.reachGiveUp
  split <;> simp

@[simp] theorem State.timeOutUpload_pending (s : State) : (State.timeOutUpload s).pending = s.pending := by
  unfold State.timeOutUpload
  repeat' split
  all_goals simp

@[simp] theorem State.runRecordQuery_pending (body : List Byte) (s : State) :
    (State.runRecordQuery body s).pending = s.pending := by
  unfold State.runRecordQuery
  dsimp only
  repeat' split
  all_goals simp

@[simp] theorem State.runDirectoryList_pending (body : List Byte) (s : State) :
    (State.runDirectoryList body s).pending = s.pending := by
  unfold State.runDirectoryList
  split <;> simp

@[simp] theorem State.runStoreUsage_pending (s : State) : (State.runStoreUsage s).pending = s.pending := by simp [State.runStoreUsage]

@[simp] theorem State.reportIfAble_pending (id : Nat) (before : Counter) (s : State) :
    (State.reportIfAble id before s).pending = s.pending := by
  unfold State.reportIfAble
  split <;> simp

@[simp] theorem State.runCounterDefine_pending (body : List Byte) (s : State) :
    (State.runCounterDefine body s).pending = s.pending := by
  unfold State.runCounterDefine
  dsimp only
  repeat' split
  all_goals simp

@[simp] theorem State.runCounterSet_pending (body : List Byte) (s : State) :
    (State.runCounterSet body s).pending = s.pending := by
  unfold State.runCounterSet
  dsimp only
  repeat' split
  all_goals simp

@[simp] theorem State.runCounterUndefine_pending (body : List Byte) (s : State) :
    (State.runCounterUndefine body s).pending = s.pending := by
  unfold State.runCounterUndefine
  dsimp only
  repeat' split
  all_goals simp

@[simp] theorem State.runCounterClearReturns_pending (body : List Byte) (s : State) :
    (State.runCounterClearReturns body s).pending = s.pending := by
  unfold State.runCounterClearReturns
  dsimp only
  repeat' split
  all_goals simp

@[simp] theorem State.runCounterRead_pending (body : List Byte) (s : State) :
    (State.runCounterRead body s).pending = s.pending := by
  unfold State.runCounterRead
  split <;> simp

@[simp] theorem State.setLatch_pending (s : State) : (State.setLatch s).pending = s.pending := by
  unfold State.setLatch
  split <;> simp

@[simp] theorem State.cancelTags_pending (tags : List Nat) (s : State) : (cancelTags tags s).1.pending = s.pending := by
  induction tags generalizing s with
  | nil => rfl
  | cons t ts ih => simp [cancelTags, ih]

@[simp] theorem State.cancelAll_pending (s : State) : (State.cancelAll s).pending = s.pending := by simp [State.cancelAll]

@[simp] theorem State.cancelOne_pending (tag : Nat) (s : State) : (State.cancelOne tag s).pending = s.pending := by simp [State.cancelOne]

@[simp] theorem State.runJobCancel_pending (body : List Byte) (s : State) :
    (State.runJobCancel body s).pending = s.pending := by
  unfold State.runJobCancel
  dsimp only
  repeat' split
  all_goals simp

@[simp] theorem State.runJobHold_pending (body : List Byte) (s : State) :
    (State.runJobHold body s).pending = s.pending := by
  unfold State.runJobHold
  dsimp only
  repeat' split
  all_goals simp

@[simp] theorem State.runJobRelease_pending (body : List Byte) (s : State) :
    (State.runJobRelease body s).pending = s.pending := by
  unfold State.runJobRelease
  dsimp only
  repeat' split
  all_goals simp

@[simp] theorem State.runJobQuery_pending (body : List Byte) (s : State) :
    (State.runJobQuery body s).pending = s.pending := by
  unfold State.runJobQuery
  dsimp only
  repeat' split
  all_goals simp

@[simp] theorem State.runQueueList_pending (s : State) : (State.runQueueList s).pending = s.pending := by simp [State.runQueueList]

@[simp] theorem State.runReprint_pending (s : State) : (State.runReprint s).pending = s.pending := by
  unfold State.runReprint
  repeat' split
  all_goals simp

@[simp] theorem State.clearLast_pending (s : State) : (State.clearLast s).pending = s.pending := by
  unfold State.clearLast
  split <;> simp

@[simp] theorem State.runReprintClear_pending (s : State) : (State.runReprintClear s).pending = s.pending := by
  unfold State.runReprintClear
  split <;> simp

@[simp] theorem State.bandReport_pending (t : Ticket) (band : Nat) (s : State) :
    (State.bandReport t band s).pending = s.pending := by
  unfold State.bandReport
  repeat' split
  all_goals simp

@[simp] theorem State.finishBand_pending (s : State) : (State.finishBand s).pending = s.pending := by
  unfold State.finishBand
  dsimp only
  repeat' split
  all_goals simp

@[simp] theorem State.judgeSensor_pending (theta : Int) (s : State) :
    (State.judgeSensor theta s).pending = s.pending := by
  unfold State.judgeSensor
  dsimp only
  repeat' split
  all_goals simp

@[simp] theorem State.judgeHeat_pending (theta : Int) (s : State) : (State.judgeHeat theta s).pending = s.pending := by
  unfold State.judgeHeat
  split <;> simp

@[simp] theorem State.countSupply_pending (supply : Nat) (s : State) :
    (State.countSupply supply s).pending = s.pending := by
  unfold State.countSupply
  split <;> simp

@[simp] theorem State.sampleHead_pending (theta : Int) (supply : Nat) (s : State) :
    (State.sampleHead theta supply s).pending = s.pending := by
  unfold State.sampleHead
  split <;> simp

@[simp] theorem State.endLoading_pending (s : State) : (State.endLoading s).pending = s.pending := by
  unfold State.endLoading
  repeat' split
  all_goals simp

@[simp] theorem State.endPhase_pending (s : State) : (State.endPhase s).pending = s.pending := by
  unfold State.endPhase
  repeat' split
  all_goals simp

@[simp] theorem State.endLine_pending (s : State) : (State.endLine s).pending = s.pending := by
  unfold State.endLine
  repeat' split
  all_goals simp

@[simp] theorem State.tryStep_pending (gap : Bool) (s : State) : (State.tryStep gap s).pending = s.pending := by
  unfold State.tryStep
  split <;> simp

@[simp] theorem State.seeHead_pending (isOpen : Bool) (s : State) : (State.seeHead isOpen s).pending = s.pending := by
  unfold State.seeHead
  repeat' split
  all_goals simp

@[simp] theorem State.seeMedia_pending (gap : Bool) (s : State) : (State.seeMedia gap s).pending = s.pending := by
  unfold State.seeMedia
  split <;> simp

@[simp] theorem State.seeTaken_pending (noLabel : Bool) (s : State) :
    (State.seeTaken noLabel s).pending = s.pending := by
  unfold State.seeTaken
  dsimp only
  repeat' split
  all_goals simp

@[simp] theorem State.takePause_pending (s : State) : (State.takePause s).pending = s.pending := by
  unfold State.takePause
  repeat' split
  all_goals simp

@[simp] theorem State.runPause_pending (s : State) : (State.runPause s).pending = s.pending := by simp [State.runPause]

@[simp] theorem State.takeResume_pending (s : State) : (State.takeResume s).pending = s.pending := by
  unfold State.takeResume
  repeat' split
  all_goals simp

@[simp] theorem State.runResume_pending (s : State) : (State.runResume s).pending = s.pending := by
  unfold State.runResume
  split <;> simp

@[simp] theorem State.runFeed_pending (s : State) : (State.runFeed s).pending = s.pending := by
  unfold State.runFeed
  repeat' split
  all_goals simp

@[simp] theorem State.runCalibrate_pending (s : State) : (State.runCalibrate s).pending = s.pending := by
  unfold State.runCalibrate
  repeat' split
  all_goals simp

@[simp] theorem State.compareIdle_pending (s : State) : (State.compareIdle s).pending = s.pending := by
  unfold State.compareIdle
  split <;> simp

@[simp] theorem State.applySettings_pending (new : Settings) (s : State) :
    (State.applySettings new s).pending = s.pending := by
  unfold State.applySettings
  dsimp only
  repeat' split
  all_goals simp

@[simp] theorem State.runSettingsSet_pending (body : List Byte) (s : State) :
    (State.runSettingsSet body s).pending = s.pending := by
  unfold State.runSettingsSet
  repeat' split
  all_goals simp

@[simp] theorem State.runSettingsGet_pending (service : Bool) (s : State) :
    (State.runSettingsGet service s).pending = s.pending := by simp [State.runSettingsGet]

@[simp] theorem State.expireIdle_pending (s : State) : (State.expireIdle s).pending = s.pending := by
  unfold State.expireIdle
  split <;> simp

@[simp] theorem State.endWake_pending (s : State) : (State.endWake s).pending = s.pending := by
  unfold State.endWake
  repeat' split
  all_goals simp

@[simp] theorem State.receiveByte_pending (b : Byte) (stopBit : Bool) (s : State) :
    (State.receiveByte b stopBit s).pending = s.pending := by
  unfold State.receiveByte
  split <;> simp

@[simp] theorem State.expireByte_pending (s : State) : (State.expireByte s).pending = s.pending := by
  unfold State.expireByte
  split <;> simp

@[simp] theorem State.seeRts_pending (high : Bool) (s : State) : (State.seeRts high s).pending = s.pending := by
  unfold State.seeRts
  split <;> simp

@[simp] theorem State.sendByte_pending (straps : BaudStraps) (s : State) :
    (State.sendByte straps s).pending = s.pending := by
  unfold State.sendByte
  dsimp only
  repeat' split
  all_goals simp

@[simp] theorem State.refuseUnknown_pending (s : State) : (State.refuseUnknown s).pending = s.pending := by
  unfold State.refuseUnknown
  repeat' split
  all_goals simp

@[simp] theorem State.runStatus_pending (s : State) : (State.runStatus s).pending = s.pending := by simp [State.runStatus]

@[simp] theorem State.runStatusClear_pending (body : List Byte) (s : State) :
    (State.runStatusClear body s).pending = s.pending := by
  unfold State.runStatusClear
  dsimp only
  repeat' split
  all_goals simp

@[simp] theorem State.runRestart_pending (s : State) : (State.runRestart s).pending = s.pending := by simp [State.runRestart]

@[simp] theorem State.endRestart_pending (straps : BaudStraps) (s : State) :
    (State.endRestart straps s).pending = s.pending := by
  unfold State.endRestart
  split <;> simp

@[simp] theorem State.powerUp_pending (straps : BaudStraps) (s : State) :
    (State.powerUp straps s).pending = s.pending := by
  unfold State.powerUp
  repeat' split
  all_goals simp

@[simp] theorem State.releaseReset_pending (straps : BaudStraps) (s : State) :
    (State.releaseReset straps s).pending = s.pending := by
  unfold State.releaseReset
  repeat' split
  all_goals simp

@[simp] theorem State.assertReset_pending (s : State) : (State.assertReset s).pending = s.pending := by
  unfold State.assertReset
  split <;> simp

@[simp] theorem State.losePower_pending (s : State) : (State.losePower s).pending = s.pending := by
  unfold State.losePower
  split <;> simp

end Sys2Proof.Machine
end

