-- ==== Sys2Proof/WellFormed.lean ====
section
/-! DEFINITION. Which commands are well formed: what an operand can be, as the manual bounds it. -/

namespace Sys2Proof

/-- A head sample within the range a sample is read in (Table 7-1). -/
def sampleInRange (theta : Int) (supply : Nat) : Bool :=
  decide (-40 ≤ theta ∧ theta ≤ 150 ∧ supply ≤ 400)

/-- What a program left fits one page (Table 1-1). -/
def leftFitsPage (left : Option (List Byte)) : Bool :=
  match left with
  | none => true
  | some bs => decide (bs.length ≤ Config.pageSize)

/-- The bytes an erase left lie in the sector (Table 1-1). -/
def residueInSector (residue : List (Nat × Byte)) : Bool :=
  residue.all fun p => decide (p.1 < Config.sectorSize)

/-- A command whose operands are within the ranges the manual gives them. -/
def Instr.wellFormed : Instr → Bool
  | .powerOn _ => true
  | .resetLine _ => true
  | .mainPowerLoss => true
  | .batteryRetentionLoss => true
  | .batteryLow _ => true
  | .ready => true
  | .serialByteReceived _ _ => true
  | .byteTimeout => true
  | .rtsChange _ => true
  | .byteTransmitted _ => true
  | .nak => true
  | .unknownKind => true
  | .recordBegin => true
  | .recordData => true
  | .recordEnd => true
  | .recordAbandon => true
  | .uploadTimeout => true
  | .recordRetire => true
  | .recordQuery => true
  | .directoryList => true
  | .storeUsage => true
  | .storeWipe _ => true
  | .pageProgramEnd left => leftFitsPage left
  | .programTimeout => true
  | .pageReadEnd => true
  | .eraseStart => true
  | .suspensionEffect => true
  | .progressWindowEnd => true
  | .eraseComplete residue => residueInSector residue
  | .eraseGiveUp => true
  | .counterDefine => true
  | .counterSet => true
  | .counterUndefine => true
  | .counterClearReturns => true
  | .counterRead => true
  | .jobSubmit => true
  | .jobCancel => true
  | .jobHold => true
  | .jobRelease => true
  | .jobQuery => true
  | .queueList => true
  | .reprint => true
  | .reprintClear => true
  | .jobEnd => true
  | .bandDrawn => true
  | .headSample theta supply => sampleInRange theta supply
  | .supplyCleared => true
  | .loadingEnd => true
  | .strobePhaseEnd => true
  | .lineEnd => true
  | .motorStep _ => true
  | .missedGap => true
  | .mediaOut => true
  | .resyncNoEdge => true
  | .recoveryLimit => true
  | .calibrationLimit => true
  | .headSwitchChange _ => true
  | .mediaSensorChange _ => true
  | .labelTaken _ => true
  | .pause => true
  | .resume => true
  | .feed => true
  | .calibrate => true
  | .settingsSet => true
  | .settingsGet _ => true
  | .idleTimeout => true
  | .wakeDelayEnd => true
  | .engine => true
  | .status => true
  | .statusClear => true
  | .restart => true
  | .restartLimit _ => true
  | .resetLineAsserted => true

end Sys2Proof
end

