-- ==== Sys2Proof/Laws/PerInstr.lean ====
section
/-! SUPPORT. One lemma per command: a command that executes a request has its kind's row in the table of requests,
under a code of one byte, and its operands bound nothing. -/

set_option Elab.async false

/-- The family's statement: the code of the request that a command executes is that of a row of Table 11-2, fits one
byte, and the command is well formed whatever its operands. -/
def Sys2Proof.Laws.RequestRows.Statement (i : Sys2Proof.Instr) : Prop :=
  ∀ code : Nat, Sys2Proof.Machine.requestCode i = some code →
    code < 256 ∧ (Sys2Proof.Machine.requestRow (Sys2Proof.Machine.byte code)).map Prod.fst = some code
      ∧ i.wellFormed = true

theorem Sys2Proof.Laws.RequestRows.powerOn (straps : Sys2Proof.BaudStraps) :
    Sys2Proof.Laws.RequestRows.Statement (.powerOn straps) := by
  intro code h; simp [Sys2Proof.Machine.requestCode] at h

theorem Sys2Proof.Laws.RequestRows.resetLine (straps : Sys2Proof.BaudStraps) :
    Sys2Proof.Laws.RequestRows.Statement (.resetLine straps) := by
  intro code h; simp [Sys2Proof.Machine.requestCode] at h

theorem Sys2Proof.Laws.RequestRows.mainPowerLoss :
    Sys2Proof.Laws.RequestRows.Statement (.mainPowerLoss) := by
  intro code h; simp [Sys2Proof.Machine.requestCode] at h

theorem Sys2Proof.Laws.RequestRows.batteryRetentionLoss :
    Sys2Proof.Laws.RequestRows.Statement (.batteryRetentionLoss) := by
  intro code h; simp [Sys2Proof.Machine.requestCode] at h

theorem Sys2Proof.Laws.RequestRows.batteryLow (below : Bool) :
    Sys2Proof.Laws.RequestRows.Statement (.batteryLow below) := by
  intro code h; simp [Sys2Proof.Machine.requestCode] at h

theorem Sys2Proof.Laws.RequestRows.ready :
    Sys2Proof.Laws.RequestRows.Statement (.ready) := by
  intro code h; simp [Sys2Proof.Machine.requestCode] at h

theorem Sys2Proof.Laws.RequestRows.serialByteReceived (b : Sys2Proof.Byte) (stopBit : Bool) :
    Sys2Proof.Laws.RequestRows.Statement (.serialByteReceived b stopBit) := by
  intro code h; simp [Sys2Proof.Machine.requestCode] at h

theorem Sys2Proof.Laws.RequestRows.byteTimeout :
    Sys2Proof.Laws.RequestRows.Statement (.byteTimeout) := by
  intro code h; simp [Sys2Proof.Machine.requestCode] at h

theorem Sys2Proof.Laws.RequestRows.rtsChange (high : Bool) :
    Sys2Proof.Laws.RequestRows.Statement (.rtsChange high) := by
  intro code h; simp [Sys2Proof.Machine.requestCode] at h

theorem Sys2Proof.Laws.RequestRows.byteTransmitted (straps : Sys2Proof.BaudStraps) :
    Sys2Proof.Laws.RequestRows.Statement (.byteTransmitted straps) := by
  intro code h; simp [Sys2Proof.Machine.requestCode] at h

theorem Sys2Proof.Laws.RequestRows.nak :
    Sys2Proof.Laws.RequestRows.Statement (.nak) := by
  intro code h; simp [Sys2Proof.Machine.requestCode] at h

theorem Sys2Proof.Laws.RequestRows.unknownKind :
    Sys2Proof.Laws.RequestRows.Statement (.unknownKind) := by
  intro code h; simp [Sys2Proof.Machine.requestCode] at h

theorem Sys2Proof.Laws.RequestRows.recordBegin :
    Sys2Proof.Laws.RequestRows.Statement (.recordBegin) := by
  intro code h; obtain rfl := Option.some.inj h; decide

theorem Sys2Proof.Laws.RequestRows.recordData :
    Sys2Proof.Laws.RequestRows.Statement (.recordData) := by
  intro code h; obtain rfl := Option.some.inj h; decide

theorem Sys2Proof.Laws.RequestRows.recordEnd :
    Sys2Proof.Laws.RequestRows.Statement (.recordEnd) := by
  intro code h; obtain rfl := Option.some.inj h; decide

theorem Sys2Proof.Laws.RequestRows.recordAbandon :
    Sys2Proof.Laws.RequestRows.Statement (.recordAbandon) := by
  intro code h; obtain rfl := Option.some.inj h; decide

theorem Sys2Proof.Laws.RequestRows.uploadTimeout :
    Sys2Proof.Laws.RequestRows.Statement (.uploadTimeout) := by
  intro code h; simp [Sys2Proof.Machine.requestCode] at h

theorem Sys2Proof.Laws.RequestRows.recordRetire :
    Sys2Proof.Laws.RequestRows.Statement (.recordRetire) := by
  intro code h; obtain rfl := Option.some.inj h; decide

theorem Sys2Proof.Laws.RequestRows.recordQuery :
    Sys2Proof.Laws.RequestRows.Statement (.recordQuery) := by
  intro code h; obtain rfl := Option.some.inj h; decide

theorem Sys2Proof.Laws.RequestRows.directoryList :
    Sys2Proof.Laws.RequestRows.Statement (.directoryList) := by
  intro code h; obtain rfl := Option.some.inj h; decide

theorem Sys2Proof.Laws.RequestRows.storeUsage :
    Sys2Proof.Laws.RequestRows.Statement (.storeUsage) := by
  intro code h; obtain rfl := Option.some.inj h; decide

theorem Sys2Proof.Laws.RequestRows.storeWipe (service : Bool) :
    Sys2Proof.Laws.RequestRows.Statement (.storeWipe service) := by
  intro code h; obtain rfl := Option.some.inj h; exact ⟨by decide, by decide, rfl⟩

theorem Sys2Proof.Laws.RequestRows.pageProgramEnd (left : Option (List Sys2Proof.Byte)) :
    Sys2Proof.Laws.RequestRows.Statement (.pageProgramEnd left) := by
  intro code h; simp [Sys2Proof.Machine.requestCode] at h

theorem Sys2Proof.Laws.RequestRows.programTimeout :
    Sys2Proof.Laws.RequestRows.Statement (.programTimeout) := by
  intro code h; simp [Sys2Proof.Machine.requestCode] at h

theorem Sys2Proof.Laws.RequestRows.pageReadEnd :
    Sys2Proof.Laws.RequestRows.Statement (.pageReadEnd) := by
  intro code h; simp [Sys2Proof.Machine.requestCode] at h

theorem Sys2Proof.Laws.RequestRows.eraseStart :
    Sys2Proof.Laws.RequestRows.Statement (.eraseStart) := by
  intro code h; simp [Sys2Proof.Machine.requestCode] at h

theorem Sys2Proof.Laws.RequestRows.suspensionEffect :
    Sys2Proof.Laws.RequestRows.Statement (.suspensionEffect) := by
  intro code h; simp [Sys2Proof.Machine.requestCode] at h

theorem Sys2Proof.Laws.RequestRows.progressWindowEnd :
    Sys2Proof.Laws.RequestRows.Statement (.progressWindowEnd) := by
  intro code h; simp [Sys2Proof.Machine.requestCode] at h

theorem Sys2Proof.Laws.RequestRows.eraseComplete (residue : List (Nat × Sys2Proof.Byte)) :
    Sys2Proof.Laws.RequestRows.Statement (.eraseComplete residue) := by
  intro code h; simp [Sys2Proof.Machine.requestCode] at h

theorem Sys2Proof.Laws.RequestRows.eraseGiveUp :
    Sys2Proof.Laws.RequestRows.Statement (.eraseGiveUp) := by
  intro code h; simp [Sys2Proof.Machine.requestCode] at h

theorem Sys2Proof.Laws.RequestRows.counterDefine :
    Sys2Proof.Laws.RequestRows.Statement (.counterDefine) := by
  intro code h; obtain rfl := Option.some.inj h; decide

theorem Sys2Proof.Laws.RequestRows.counterSet :
    Sys2Proof.Laws.RequestRows.Statement (.counterSet) := by
  intro code h; obtain rfl := Option.some.inj h; decide

theorem Sys2Proof.Laws.RequestRows.counterUndefine :
    Sys2Proof.Laws.RequestRows.Statement (.counterUndefine) := by
  intro code h; obtain rfl := Option.some.inj h; decide

theorem Sys2Proof.Laws.RequestRows.counterClearReturns :
    Sys2Proof.Laws.RequestRows.Statement (.counterClearReturns) := by
  intro code h; obtain rfl := Option.some.inj h; decide

theorem Sys2Proof.Laws.RequestRows.counterRead :
    Sys2Proof.Laws.RequestRows.Statement (.counterRead) := by
  intro code h; obtain rfl := Option.some.inj h; decide

theorem Sys2Proof.Laws.RequestRows.jobSubmit :
    Sys2Proof.Laws.RequestRows.Statement (.jobSubmit) := by
  intro code h; obtain rfl := Option.some.inj h; decide

theorem Sys2Proof.Laws.RequestRows.jobCancel :
    Sys2Proof.Laws.RequestRows.Statement (.jobCancel) := by
  intro code h; obtain rfl := Option.some.inj h; decide

theorem Sys2Proof.Laws.RequestRows.jobHold :
    Sys2Proof.Laws.RequestRows.Statement (.jobHold) := by
  intro code h; obtain rfl := Option.some.inj h; decide

theorem Sys2Proof.Laws.RequestRows.jobRelease :
    Sys2Proof.Laws.RequestRows.Statement (.jobRelease) := by
  intro code h; obtain rfl := Option.some.inj h; decide

theorem Sys2Proof.Laws.RequestRows.jobQuery :
    Sys2Proof.Laws.RequestRows.Statement (.jobQuery) := by
  intro code h; obtain rfl := Option.some.inj h; decide

theorem Sys2Proof.Laws.RequestRows.queueList :
    Sys2Proof.Laws.RequestRows.Statement (.queueList) := by
  intro code h; obtain rfl := Option.some.inj h; decide

theorem Sys2Proof.Laws.RequestRows.reprint :
    Sys2Proof.Laws.RequestRows.Statement (.reprint) := by
  intro code h; obtain rfl := Option.some.inj h; decide

theorem Sys2Proof.Laws.RequestRows.reprintClear :
    Sys2Proof.Laws.RequestRows.Statement (.reprintClear) := by
  intro code h; obtain rfl := Option.some.inj h; decide

theorem Sys2Proof.Laws.RequestRows.jobEnd :
    Sys2Proof.Laws.RequestRows.Statement (.jobEnd) := by
  intro code h; simp [Sys2Proof.Machine.requestCode] at h

theorem Sys2Proof.Laws.RequestRows.bandDrawn :
    Sys2Proof.Laws.RequestRows.Statement (.bandDrawn) := by
  intro code h; simp [Sys2Proof.Machine.requestCode] at h

theorem Sys2Proof.Laws.RequestRows.headSample (theta : Int) (supply : Nat) :
    Sys2Proof.Laws.RequestRows.Statement (.headSample theta supply) := by
  intro code h; simp [Sys2Proof.Machine.requestCode] at h

theorem Sys2Proof.Laws.RequestRows.supplyCleared :
    Sys2Proof.Laws.RequestRows.Statement (.supplyCleared) := by
  intro code h; simp [Sys2Proof.Machine.requestCode] at h

theorem Sys2Proof.Laws.RequestRows.loadingEnd :
    Sys2Proof.Laws.RequestRows.Statement (.loadingEnd) := by
  intro code h; simp [Sys2Proof.Machine.requestCode] at h

theorem Sys2Proof.Laws.RequestRows.strobePhaseEnd :
    Sys2Proof.Laws.RequestRows.Statement (.strobePhaseEnd) := by
  intro code h; simp [Sys2Proof.Machine.requestCode] at h

theorem Sys2Proof.Laws.RequestRows.lineEnd :
    Sys2Proof.Laws.RequestRows.Statement (.lineEnd) := by
  intro code h; simp [Sys2Proof.Machine.requestCode] at h

theorem Sys2Proof.Laws.RequestRows.motorStep (gap : Bool) :
    Sys2Proof.Laws.RequestRows.Statement (.motorStep gap) := by
  intro code h; simp [Sys2Proof.Machine.requestCode] at h

theorem Sys2Proof.Laws.RequestRows.missedGap :
    Sys2Proof.Laws.RequestRows.Statement (.missedGap) := by
  intro code h; simp [Sys2Proof.Machine.requestCode] at h

theorem Sys2Proof.Laws.RequestRows.mediaOut :
    Sys2Proof.Laws.RequestRows.Statement (.mediaOut) := by
  intro code h; simp [Sys2Proof.Machine.requestCode] at h

theorem Sys2Proof.Laws.RequestRows.resyncNoEdge :
    Sys2Proof.Laws.RequestRows.Statement (.resyncNoEdge) := by
  intro code h; simp [Sys2Proof.Machine.requestCode] at h

theorem Sys2Proof.Laws.RequestRows.recoveryLimit :
    Sys2Proof.Laws.RequestRows.Statement (.recoveryLimit) := by
  intro code h; simp [Sys2Proof.Machine.requestCode] at h

theorem Sys2Proof.Laws.RequestRows.calibrationLimit :
    Sys2Proof.Laws.RequestRows.Statement (.calibrationLimit) := by
  intro code h; simp [Sys2Proof.Machine.requestCode] at h

theorem Sys2Proof.Laws.RequestRows.headSwitchChange (isOpen : Bool) :
    Sys2Proof.Laws.RequestRows.Statement (.headSwitchChange isOpen) := by
  intro code h; simp [Sys2Proof.Machine.requestCode] at h

theorem Sys2Proof.Laws.RequestRows.mediaSensorChange (gap : Bool) :
    Sys2Proof.Laws.RequestRows.Statement (.mediaSensorChange gap) := by
  intro code h; simp [Sys2Proof.Machine.requestCode] at h

theorem Sys2Proof.Laws.RequestRows.labelTaken (noLabel : Bool) :
    Sys2Proof.Laws.RequestRows.Statement (.labelTaken noLabel) := by
  intro code h; simp [Sys2Proof.Machine.requestCode] at h

theorem Sys2Proof.Laws.RequestRows.pause :
    Sys2Proof.Laws.RequestRows.Statement (.pause) := by
  intro code h; obtain rfl := Option.some.inj h; decide

theorem Sys2Proof.Laws.RequestRows.resume :
    Sys2Proof.Laws.RequestRows.Statement (.resume) := by
  intro code h; obtain rfl := Option.some.inj h; decide

theorem Sys2Proof.Laws.RequestRows.feed :
    Sys2Proof.Laws.RequestRows.Statement (.feed) := by
  intro code h; obtain rfl := Option.some.inj h; decide

theorem Sys2Proof.Laws.RequestRows.calibrate :
    Sys2Proof.Laws.RequestRows.Statement (.calibrate) := by
  intro code h; obtain rfl := Option.some.inj h; decide

theorem Sys2Proof.Laws.RequestRows.settingsSet :
    Sys2Proof.Laws.RequestRows.Statement (.settingsSet) := by
  intro code h; obtain rfl := Option.some.inj h; decide

theorem Sys2Proof.Laws.RequestRows.settingsGet (service : Bool) :
    Sys2Proof.Laws.RequestRows.Statement (.settingsGet service) := by
  intro code h; obtain rfl := Option.some.inj h; exact ⟨by decide, by decide, rfl⟩

theorem Sys2Proof.Laws.RequestRows.idleTimeout :
    Sys2Proof.Laws.RequestRows.Statement (.idleTimeout) := by
  intro code h; simp [Sys2Proof.Machine.requestCode] at h

theorem Sys2Proof.Laws.RequestRows.wakeDelayEnd :
    Sys2Proof.Laws.RequestRows.Statement (.wakeDelayEnd) := by
  intro code h; simp [Sys2Proof.Machine.requestCode] at h

theorem Sys2Proof.Laws.RequestRows.engine :
    Sys2Proof.Laws.RequestRows.Statement (.engine) := by
  intro code h; simp [Sys2Proof.Machine.requestCode] at h

theorem Sys2Proof.Laws.RequestRows.status :
    Sys2Proof.Laws.RequestRows.Statement (.status) := by
  intro code h; obtain rfl := Option.some.inj h; decide

theorem Sys2Proof.Laws.RequestRows.statusClear :
    Sys2Proof.Laws.RequestRows.Statement (.statusClear) := by
  intro code h; obtain rfl := Option.some.inj h; decide

theorem Sys2Proof.Laws.RequestRows.restart :
    Sys2Proof.Laws.RequestRows.Statement (.restart) := by
  intro code h; obtain rfl := Option.some.inj h; decide

theorem Sys2Proof.Laws.RequestRows.restartLimit (straps : Sys2Proof.BaudStraps) :
    Sys2Proof.Laws.RequestRows.Statement (.restartLimit straps) := by
  intro code h; simp [Sys2Proof.Machine.requestCode] at h

theorem Sys2Proof.Laws.RequestRows.resetLineAsserted :
    Sys2Proof.Laws.RequestRows.Statement (.resetLineAsserted) := by
  intro code h; simp [Sys2Proof.Machine.requestCode] at h
end

