-- ==== Sys2Proof/Laws/Requests.lean ====
section
/-! SUPPORT. What the taking of a request and its reply do, said once: a proof about a request cites these and
unfolds neither. -/

set_option Elab.async false

namespace Sys2Proof.Machine

/-- A kind code that fits a byte is read back from it. -/
theorem byte_toNat {code : Nat} (h : code < 256) : (byte code).toNat = code := by
  simp [byte, Nat.mod_eq_of_lt h]

/-- A state with a frame to execute is running, and its Decoder is executing. -/
theorem State.headItem_some {s : State} {i : InItem} (h : s.headItem = some i) :
    s.mode = .running ∧ s.dec.state = .executing ∧ s.dec.taken = some i := by
  unfold State.headItem at h
  split at h
  · rename_i hc
    exact ⟨hc.1, hc.2, h⟩
  · cases h

/-- A request of the kind a command executes runs its own rule on the state with its execution begun. -/
theorem State.onRequest_asks {code : Nat} {run : List Byte → State → State} {s : State} {body : List Byte}
    (hcode : code < 256) (h : s.asks code body) : s.onRequest code run = run body (s.begun (byte code)) := by
  simp [State.onRequest, h.1, byte_toNat hcode, h.2]

@[simp] theorem LineIf.followFill_output (l : LineIf) : l.followFill.output = l.output := by
  unfold LineIf.followFill; repeat' split
  all_goals rfl
@[simp] theorem LineIf.followFill_sending (l : LineIf) : l.followFill.sending = l.sending := by
  unfold LineIf.followFill; repeat' split
  all_goals rfl
@[simp] theorem LineIf.followFill_restart (l : LineIf) : l.followFill.restart = l.restart := by
  unfold LineIf.followFill; repeat' split
  all_goals rfl
@[simp] theorem LineIf.followFill_rate (l : LineIf) : l.followFill.rate = l.rate := by
  unfold LineIf.followFill; repeat' split
  all_goals rfl
@[simp] theorem LineIf.storeOverrun_output (l : LineIf) : l.storeOverrun.output = l.output := by
  unfold LineIf.storeOverrun; repeat' split
  all_goals rfl
@[simp] theorem LineIf.storeOverrun_sending (l : LineIf) : l.storeOverrun.sending = l.sending := by
  unfold LineIf.storeOverrun; repeat' split
  all_goals rfl
@[simp] theorem LineIf.storeOverrun_restart (l : LineIf) : l.storeOverrun.restart = l.restart := by
  unfold LineIf.storeOverrun; repeat' split
  all_goals rfl
@[simp] theorem LineIf.storeOverrun_rate (l : LineIf) : l.storeOverrun.rate = l.rate := by
  unfold LineIf.storeOverrun; repeat' split
  all_goals rfl
@[simp] theorem LineIf.headTaken_output (l : LineIf) : l.headTaken.output = l.output := by simp [LineIf.headTaken]
@[simp] theorem LineIf.headTaken_sending (l : LineIf) : l.headTaken.sending = l.sending := by simp [LineIf.headTaken]
@[simp] theorem LineIf.headTaken_restart (l : LineIf) : l.headTaken.restart = l.restart := by simp [LineIf.headTaken]
@[simp] theorem LineIf.headTaken_rate (l : LineIf) : l.headTaken.rate = l.rate := by simp [LineIf.headTaken]

/-- A frame is never empty. -/
theorem frameBytes_ne_nil (kind : Byte) (body : List Byte) : frameBytes kind body ≠ [] := by simp [frameBytes]

/-- The reply that ends a request in execution: `v` is the state with the request's last effect, which touches neither
the line, the Decoder's kind, request-to-send nor the clock. The upload idle timer restarts where the request is one
that stopped it (R52). -/
theorem State.reply_eq_replied {u v : State} {code : Nat} {kind : Byte} {body : List Byte}
    (hline : v.line = u.line) (hdec : v.dec.kind = byte code) (hlines : v.lines.rts = u.lines.rts)
    (hnow : v.now = u.now) :
    v.reply kind body = u.replied code (frameBytes kind body)
      (if isUploadRequest (byte code) = true then v.startUploadTimer else v) := by
  have hne : u.line.output ++ frameBytes kind body ≠ [] := by simp [frameBytes_ne_nil]
  unfold State.reply State.place State.beginSending State.wakeDecoder State.replied State.startUploadTimer
  simp only [hline, hdec, hlines, hnow]
  repeat' split
  all_goals simp_all

/-- An OK reply that ends a request in execution (R201). -/
theorem State.ok_eq_replied (u v : State) (code : Nat) (payload : List Byte) (hline : v.line = u.line)
    (hdec : v.dec.kind = byte code) (hlines : v.lines.rts = u.lines.rts) (hnow : v.now = u.now) :
    v.ok payload = u.replied code (okReply code payload)
      (if isUploadRequest (byte code) = true then v.startUploadTimer else v) := by
  rw [State.ok, State.reply_eq_replied hline hdec hlines hnow, hdec]; rfl

/-- A REFUSED reply that ends a request in execution (R201). -/
theorem State.refuse_eq_replied (u v : State) (code : Nat) (r : Reason) (detail : Nat) (hline : v.line = u.line)
    (hdec : v.dec.kind = byte code) (hlines : v.lines.rts = u.lines.rts) (hnow : v.now = u.now) :
    v.refuse r detail = u.replied code (refusedReply code r detail)
      (if isUploadRequest (byte code) = true then v.startUploadTimer else v) := by
  rw [State.refuse, State.reply_eq_replied hline hdec hlines hnow, hdec]; rfl

/-- The reply of a request other than RECORD_DATA and RECORD_END in the command that executes it: `v` is the state with
the request's effect, which touches neither the line, the Decoder's kind, request-to-send nor the clock. -/
theorem State.reply_eq_answered {u v : State} {code : Nat} {kind : Byte} {body : List Byte}
    (hline : v.line = u.line) (hdec : v.dec.kind = byte code) (hlines : v.lines.rts = u.lines.rts)
    (hnow : v.now = u.now) (hup : isUploadRequest (byte code) = false) :
    v.reply kind body = u.answered code (frameBytes kind body) v := by
  rw [State.reply_eq_replied hline hdec hlines hnow, hup]; rfl

/-- An OK reply to a request other than RECORD_DATA and RECORD_END (R201). -/
theorem State.ok_eq_answered (u v : State) (code : Nat) (payload : List Byte) (hline : v.line = u.line)
    (hdec : v.dec.kind = byte code) (hlines : v.lines.rts = u.lines.rts) (hnow : v.now = u.now)
    (hup : isUploadRequest (byte code) = false) : v.ok payload = u.answered code (okReply code payload) v := by
  rw [State.ok, State.reply_eq_answered hline hdec hlines hnow hup, hdec]; rfl

/-- A REFUSED reply to a request other than RECORD_DATA and RECORD_END (R201). -/
theorem State.refuse_eq_answered (u v : State) (code : Nat) (r : Reason) (detail : Nat)
    (hline : v.line = u.line) (hdec : v.dec.kind = byte code) (hlines : v.lines.rts = u.lines.rts)
    (hnow : v.now = u.now) (hup : isUploadRequest (byte code) = false) :
    v.refuse r detail = u.answered code (refusedReply code r detail) v := by
  rw [State.refuse, State.reply_eq_answered hline hdec hlines hnow hup, hdec]; rfl

/-- The reply of a RECORD_DATA or RECORD_END in the command that executes it, which restarts the upload idle timer
(R52). -/
theorem State.reply_eq_answered_upload {u v : State} {code : Nat} {kind : Byte} {body : List Byte}
    (hline : v.line = u.line) (hdec : v.dec.kind = byte code) (hlines : v.lines.rts = u.lines.rts)
    (hnow : v.now = u.now) (hup : isUploadRequest (byte code) = true) :
    v.reply kind body = u.answered code (frameBytes kind body) v.startUploadTimer := by
  rw [State.reply_eq_replied hline hdec hlines hnow, hup]; rfl

/-- The code of any request but RECORD_DATA and RECORD_END leaves the upload idle timer alone. -/
theorem not_upload {code : Nat} (h : code < 256) (h2 : code ≠ 2) (h3 : code ≠ 3) :
    isUploadRequest (byte code) = false := by
  simp only [isUploadRequest, byte, Bool.or_eq_false_iff, beq_eq_false_iff_ne]
  constructor <;> intro hh <;> have := congrArg BitVec.toNat hh <;> simp at this <;> omega

/-- The input buffer does not depend on CTS. -/
@[simp] theorem LineIf.followFill_input (l : LineIf) : l.followFill.input = l.input := by
  unfold LineIf.followFill; repeat' split
  all_goals rfl

/-- The assembly, and the time of the last byte, are not touched by the taking of the head. -/
theorem LineIf.headTaken_assembly (l : LineIf) :
    l.headTaken.assembly = l.assembly ∧ l.headTaken.stored = l.stored ∧ l.headTaken.lastByteAt = l.lastByteAt := by
  simp only [LineIf.headTaken, LineIf.followFill, LineIf.storeOverrun]; repeat' split
  all_goals exact ⟨rfl, rfl, rfl⟩

/-- A reply leaves the mode, so a running part stays running, and the engine step of start-up is not ended. -/
theorem State.checkEngineStep_running {s : State} (h : s.mode = .running) : s.checkEngineStep = s := by
  simp [State.checkEngineStep, h]

/-! ## Start-up and reset -/

/-- Only a part in the engine step of its start-up can end that step. -/
theorem State.checkEngineStep_of_mode {s : State} (h : ∀ a b, s.mode ≠ .startUp (.engine a b)) :
    s.checkEngineStep = s := by
  unfold State.checkEngineStep
  split
  · rename_i a b hm; exact absurd hm (h a b)
  · rfl

/-- The end of the engine step is taken once. -/
theorem State.checkEngineStep_twice (s : State) : s.checkEngineStep.checkEngineStep = s.checkEngineStep := by
  unfold State.checkEngineStep
  repeat' split
  all_goals simp_all

/-- Without a claim that may be granted, the head is left alone. -/
theorem State.grantHeads_of_none {s : State} (h : s.grantable = none) : ∀ n, grantHeads n s = s
  | 0 => rfl
  | n + 1 => by rw [grantHeads, State.grantHead, h]; exact State.grantHeads_of_none h n

/-- Without the part running, no claim to room is granted. -/
theorem State.grantRoom_of_not_running {s : State} (h : s.mode ≠ .running) : s.grantRoom = s := by
  have hn : s.mayNotify = false := by simp [State.mayNotify, State.isRunning, h]
  have hj : s.placeJobEnd = s := by
    unfold State.placeJobEnd; repeat' split
    all_goals simp_all
  have hjs : ∀ n, placeJobEnds n s = s := by
    intro n; induction n with
    | zero => rfl
    | succ n ih => rw [placeJobEnds, hj]; exact ih
  have he : s.placeEngine = s := by
    unfold State.placeEngine; repeat' split
    all_goals simp_all
  have hr : s.grantable = none := by
    unfold State.grantable; repeat' split
    all_goals simp_all
  rw [State.grantRoom, State.placeNotices, hjs, he, State.grantHeads_of_none hr]

/-- The granting of room ends no engine step. -/
theorem State.checkEngineStep_grantRoom (s : State) :
    s.grantRoom.checkEngineStep = s.checkEngineStep.grantRoom := by
  by_cases h : s.mode = .running
  · rw [State.checkEngineStep_running h, State.checkEngineStep_running (by simpa using h)]
  · rw [State.grantRoom_of_not_running h, State.grantRoom_of_not_running]
    unfold State.checkEngineStep
    repeat' split
    all_goals simp_all

/-- A state whose engine step has ended if it could has so after READY. -/
theorem State.checkEngineStep_placeReady {s : State} (h : s.checkEngineStep = s) :
    s.placeReady.checkEngineStep = s.placeReady := by
  unfold State.placeReady
  split
  · exact State.checkEngineStep_running (by simp)
  · exact h

/-- The taking of a geometry request ends no engine step. -/
theorem State.checkEngineStep_takeGeometry {s : State} (h : s.checkEngineStep = s) :
    s.takeGeometry.checkEngineStep = s.takeGeometry := by
  unfold State.takeGeometry
  repeat' split
  · rename_i hg
    exact State.checkEngineStep_running (by simpa [State.isRunning] using hg.1)
  all_goals exact h

/-- A settled state has ended its engine step if it could. -/
theorem State.checkEngineStep_settle (s : State) : s.settle.checkEngineStep = s.settle := by
  simp only [State.settle, dueEvents, List.foldl_cons, List.foldl_nil]
  rw [State.checkEngineStep_grantRoom, State.checkEngineStep_takeGeometry]
  rw [State.checkEngineStep_grantRoom, State.checkEngineStep_placeReady]
  rw [State.checkEngineStep_grantRoom, State.checkEngineStep_twice]

/-- An operation of the array cut short leaves the clock, the lines and the battery-backed RAM. -/
theorem State.cutArray_rest (s : State) :
    s.cutArray.pending = s.pending ∧ s.cutArray.now = s.now ∧ s.cutArray.lines = s.lines
      ∧ s.cutArray.battery = s.battery := by
  unfold State.cutArray
  repeat' split
  all_goals exact ⟨rfl, rfl, rfl, rfl⟩

/-- What the cutting short of array operations leaves depends on flash, the array and the free values alone. -/
theorem State.cutArray_congr {s t : State} (hf : s.flash = t.flash) (ha : s.array = t.array)
    (hc : s.freeCount = t.freeCount) : s.cutArray.flash = t.cutArray.flash ∧ s.cutArray.freeCount = t.cutArray.freeCount := by
  unfold State.cutArray
  rw [ha]
  repeat' split
  all_goals simp [State.cutErase, State.cutProgram, hf, hc]

/-- The reset of the blocks, field by field. -/
theorem State.resetBlocks_eq (mode : Mode) (rate : Nat) (s : State) : s.resetBlocks mode rate = s.blocksReset mode rate := by
  obtain ⟨-, h2, h3, h4⟩ := s.cutArray_rest
  simp [State.resetBlocks, State.blocksReset, h2, h3, h4]

/-- Start-up begun, field by field. -/
theorem State.beginStartUp_eq (straps : BaudStraps) (s : State) : s.beginStartUp straps = s.startedUp (rateOf straps) := by
  rw [State.beginStartUp, State.resetBlocks_eq, State.walkTo, if_pos (by decide)]
  rfl

/-! ## Requests in a command -/

/-- A request command on a settled state that asks for it runs its own rule on the state with its execution begun. -/
theorem State.after_asks {code : Nat} {run : List Byte → State → State} {s u : State} {body : List Byte}
    (hcode : code < 256) (hu : s.settle = u) (h : u.asks code body) (hmode : ∀ b x, (run b x).mode = x.mode) :
    s.after (State.onRequest code run) = run body (u.begun (byte code)) := by
  have hrun := (State.headItem_some h.1).1
  rw [State.after, hu, State.onRequest_asks hcode h]
  apply State.checkEngineStep_running
  rw [hmode]
  simp [hrun]

/-- The state in which the rule of a request other than RECORD_DATA and RECORD_END runs. -/
theorem State.begun_eq {u : State} {code : Nat} (h : isUploadRequest (byte code) = false) :
    u.begun (byte code) = u.headGone code := by
  rw [State.begun, h]; rfl

end Sys2Proof.Machine
end

