-- ==== Sys2Proof/Laws/Settled.lean ====
section
/-! SUPPORT. States in which nothing has fallen due: settling leaves them as they are. -/

set_option Elab.async false

namespace Sys2Proof.Machine

/-- Nothing has fallen due: no consequence of a motor step, no cleared supply, no end of start-up, no notice and no
head that waits for room, no geometry request that could be taken. -/
def State.isQuiet (s : State) : Bool :=
  s.media.due.isNone && (match s.dec.work with
      | .awaitTable _ _ _ _ => s.render.hand.isSome || decide (s.mode ≠ .running)
      | _ => true)
    && (!s.media.standing.supply || decide (s.burn.supplyRun < 11))
    && (match s.mode with
      | .running => s.queue.ending.isEmpty && s.media.notice.isNone
          && (s.line.input.isEmpty || decide (s.dec.state ≠ .waiting))
      | .startUp (.scan _) => true
      | .startUp _ => false
      | _ => true)

/-- With no claim to room, none is granted. -/
theorem State.grantRoom_of_noClaim {s : State} (he : s.queue.ending = []) (hn : s.media.notice = none)
    (hr : s.line.input = [] ∨ s.dec.state ≠ .waiting) : s.grantRoom = s := by
  have g1 : placeJobEnds s.queue.ending.length s = s := by rw [he]; rfl
  have g2 : s.placeEngine = s := by simp [State.placeEngine, hn]
  have g3 : s.grantable = none := by
    unfold State.grantable
    split
    · rename_i item rest hin
      rw [if_neg]
      rintro ⟨-, hw, -⟩
      rcases hr with hr | hr
      · simp [hin] at hr
      · exact hr hw
    · rfl
  rw [State.grantRoom, State.placeNotices, g1, g2, State.grantHeads_of_none g3]

/-- A quiet state is settled. -/
theorem State.settle_of_isQuiet {s : State} (h : s.isQuiet = true) : s.settle = s := by
  unfold State.isQuiet at h
  simp only [Bool.and_eq_true, Bool.or_eq_true, Bool.not_eq_true', decide_eq_true_eq] at h
  obtain ⟨⟨⟨hd, hg⟩, hs⟩, hm⟩ := h
  have hdue : s.media.due = none := by simpa using hd
  have h1 : s.takeMiss = s ∧ s.takeResyncLimit = s ∧ s.takeRecoveryLimit = s ∧ s.takeCalibrationLimit = s
      ∧ s.takeMediaOut = s := by
    simp [State.takeMiss, State.takeResyncLimit, State.takeRecoveryLimit, State.takeCalibrationLimit,
      State.takeMediaOut, hdue]
  have h2 : s.takeSupplyCleared = s := by
    unfold State.takeSupplyCleared
    rw [if_neg]
    rintro ⟨ha, hb⟩
    rcases hs with hs | hs
    · simp [hs] at ha
    · omega
  have h3 : s.checkEngineStep = s := by
    unfold State.checkEngineStep; split
    · rename_i hmode; rw [hmode] at hm; simp at hm
    · rfl
  have h4 : s.placeReady = s := by
    unfold State.placeReady; split
    · rename_i hmode; rw [hmode] at hm; simp at hm
    · rfl
  have h6 : s.takeGeometry = s := by
    unfold State.takeGeometry
    repeat' split
    · rename_i hw hrun
      rw [hw] at hg
      simp_all [State.isRunning]
    all_goals rfl
  have h5 : s.grantRoom = s := by
    by_cases hrun : s.mode = .running
    · rw [hrun] at hm
      simp only [Bool.and_eq_true, Bool.or_eq_true, decide_eq_true_eq, List.isEmpty_iff,
        Option.isNone_iff_eq_none] at hm
      obtain ⟨⟨he, hn⟩, hr⟩ := hm
      exact State.grantRoom_of_noClaim he hn hr
    · exact State.grantRoom_of_not_running hrun
  simp [State.settle, dueEvents, h1, h2, h3, h4, h5, h6]

end Sys2Proof.Machine
end

