-- ==== Sys2Proof/Tests/Slice0.lean ====
section
/-! SUPPORT. Tests: the checks of WellFormed on ill-formed commands, the manual's worked examples, and for every
statement with hypotheses a state and operands that meet them. -/

namespace Sys2Proof.Tests

set_option Elab.async false

open Sys2Proof.Machine

/-! ## States -/

/-- A running part with nothing in it. -/
def base : State :=
  { State.reset with
    now := 1000000
    mode := .running
    lines := { State.reset.lines with resetAsserted := false }
    line := { State.reset.line with cts := true } }

/-- A state whose Decoder has taken a frame. -/
def asking (code : Nat) (body : List Byte) (s : State) : State :=
  { s with
    dec := { s.dec with
      state := .executing, reserved := some 778, kind := byte code, taken := some (.frame (byte code) body) } }

/-- A state whose request in execution waits for work. -/
def working (code : Nat) (work : Work) (s : State) : State :=
  { s with dec := { state := .executing, reserved := some 778, kind := byte code, taken := none, work := work } }

/-- A state with an access of the Decoder in progress since a time. -/
def accessing (op : AccessOp) (began : Nat) (s : State) : State :=
  { s with array := { s.array with busy := some { access := { client := .decoder, op := op }, started := began } } }

/-- A LIVE format in sector 5, with no pin. -/
def liveEntry : DirEntry :=
  { kind := .format, number := 7, revision := 3, firstSector := 5, extentLen := 1, bodyLen := 40, lock := false,
    state := .live, pins := 0 }

/-- A WRITING entry of the next revision in sector 9. -/
def writingEntry : DirEntry :=
  { kind := .format, number := 7, revision := 4, firstSector := 9, extentLen := 1, bodyLen := 40, lock := false,
    state := .writing, pins := 0 }

/-- An upload of that entry with some of its bytes received. -/
def upload (received : Nat) (timer : Option Nat) : Upload :=
  { kind := .format, number := 7, revision := 4, firstSector := 9, bodyLen := 40, received := received, timer := timer }

/-- A state with the LIVE format in the directory. -/
def stored (e : DirEntry) (s : State) : State :=
  { s with
    store := { s.store with
      directory := [e]
      index := [{ kind := e.kind, number := e.number, firstSector := e.firstSector }]
      sectorMap := [(e.firstSector, .held)] } }

/-- A state with the LIVE format and the open upload. -/
def uploading (received : Nat) (timer : Option Nat) (s : State) : State :=
  { s with
    store := { s.store with
      directory := [liveEntry, writingEntry]
      index := [{ kind := .format, number := 7, firstSector := 5 }]
      sectorMap := [(5, .held), (9, .held)]
      upload := some (upload received timer) } }

/-- A job of 2 labels of format 7, one copy each. -/
def job (tag : Nat) : Job :=
  Job.create
    { tag := tag, format := 7, quantity := 2, copies := 1, priority := .normal, noInterrupt := false, darkness := 0,
      speed := 0, shiftX := 0, shiftY := 0, slots := [] }
    [{ kind := .format, number := 7, revision := 3 }] []

/-- A ticket of a job's first label, with a length of 64 lines, its one band rendered or not. -/
def ticket (tag rendered : Nat) (state : TicketState) : Ticket :=
  { key := { source := some tag, label := 1, copy := 1 }, values := [], rendered := rendered, length := some 64,
    state := state, burned := false, clipped := false }

/-- A state with jobs and tickets. -/
def queued (jobs : List Job) (tickets : List Ticket) (s : State) : State :=
  { s with queue := { s.queue with jobs := jobs, tickets := tickets } }

/-- Label values at 100 mm/s. -/
def values : LabelValues :=
  { darkness := 15, speed := 100, period := 1250, leftOffset := 0, h1 := 14, h2 := 12, h3 := 10,
    presentDistance := 96 }

/-- A motion of a kind, due at a time. -/
def motion (kind : MotionKind) : Motion :=
  { kind := kind, forLabel := false, forRecovery := false, wake := none, due := 1000500 }

/-- A state whose engine is in a state with a motion. -/
def moving (engine : Engine) (kind : MotionKind) (s : State) : State :=
  { s with media := { s.media with engine := engine, motion := some (motion kind) } }

/-- A state with GAP media of a pitch of 400 lines and a gap of 24. -/
def calibrated (s : State) : State :=
  { s with battery := { s.battery with settings := { s.battery.settings with pitch := 400, gapLength := 24 } } }

/-- A state with a PRINTING label whose line n stands to be started, its band in buffer 0. -/
def printing (n : Nat) (s : State) : State :=
  { s with
    queue := { s.queue with jobs := [job 3], tickets := [ticket 3 1 .printing] }
    render := { s.render with
      buffers := { state := .complete, ticket := some (ticket 3 1 .printing).key, band := 0, lines := 64,
                   dots := List.replicate 64 (List.replicate 832 true) } :: List.replicate 5 Buffer.empty }
    burn := { s.burn with values := some values, theta := 25, supply := 240 }
    media := { s.media with
      engine := .printing, labelLine := .standing n, motion := some (motion .label) } }

/-- A line in hand of 2 phases. -/
def lineInHand (number : Nat) (stage : LineStage) : LineInHand :=
  { number := number, p0 := 300, phases := 2, duration := 1250, started := 1000000,
    dots := [{ dot := 0, pulse := 300 }], stage := stage }

/-- A state in FAULT with a set of causes and the auto-resume setting, the head open. -/
def faulted (auto : Bool) (causes : Causes) : State :=
  { base with
    lines := { base.lines with headOpen := true }
    battery := { base.battery with settings := { base.battery.settings with autoResume := auto } }
    media := { base.media with engine := .fault, causes := causes, attention := true } }

/-- A state with CONTINUOUS media. -/
def continuous : State :=
  { base with battery := { base.battery with settings := { base.battery.settings with mediaType := .continuous } } }


/-! ## What WellFormed refuses -/

/-- A temperature above and below the range a sample is read in, and a supply above it (Table 7-1). -/
theorem test_wellFormed_headSample :
    (Instr.headSample 151 240).wellFormed = false ∧ (Instr.headSample (-41) 240).wellFormed = false
      ∧ (Instr.headSample 25 401).wellFormed = false ∧ (Instr.headSample 150 400).wellFormed = true := by decide

/-- A program that left more bytes than a page has (Table 1-1). -/
theorem test_wellFormed_pageProgramEnd :
    (Instr.pageProgramEnd (some (List.replicate 257 0))).wellFormed = false
      ∧ (Instr.pageProgramEnd (some (List.replicate 256 0))).wellFormed = true := by decide +kernel

/-- An erase that left a byte beyond its sector (Table 1-1). -/
theorem test_wellFormed_eraseComplete :
    (Instr.eraseComplete [(4096, 0)]).wellFormed = false ∧ (Instr.eraseComplete [(4095, 0)]).wellFormed = true := by
  decide

/-- The table of the commands gives no bits: no word spells a command. -/
theorem test_decodeTableWord : decodeTableWord 8 0x5A = none := by decide

/-! ## The manual's worked examples -/

/-- The frame of kind 20h and body 01h, 02h (section 9.2). -/
theorem test_frame_example : frameBytes 0x20 [1, 2] = [0xA5, 0, 2, 0x20, 1, 2, 0, 0x25] := by decide

/-- Counter values as text (section 4.1). -/
theorem test_counterText :
    counterText 42 6 .decimal = "000042".toList.map Char.toNat
      ∧ counterText 1295 4 .base36 = "00ZZ".toList.map Char.toNat := by decide

/-- The counter of section 4.4: UP, low 0, high 99, start 50, step 10, WRAP. -/
def wrapping (current : Nat) : Counter :=
  { state := .active, current := current, returns := [], outstanding := [], bound := 0
    defn := { width := 2, alphabet := .decimal, low := 0, high := 99, start := 50, step := 10, direction := .up,
              endAction := .wrap, policy := .gap } }

/-- It issues 50, 60, 70, 80, 90, 50: the advance from 90 returns to the start value (section 4.4). -/
theorem test_counter_wraps :
    [50, 60, 70, 80, 90].map (fun v => (wrapping v).advance.current) = [60, 70, 80, 90, 50] := by decide

/-- Counter 7 of the example of chapter 4: REUSE, HALT, UP, 500 to 520 by 5. -/
def seven (current : Nat) (returns : List Nat) (outstanding : List Outstanding) : Counter :=
  { state := .active, current := current, returns := returns, outstanding := outstanding, bound := 2
    defn := { width := 4, alphabet := .decimal, low := 500, high := 520, start := 500, step := 5, direction := .up,
              endAction := .halt, policy := .reuse } }

/-- Steps 1, 5, 8 and 11 of Table 4-2: a draw of the current value, a return of an unburned group, a draw of the value
returned, and the draw that exhausts the counter. -/
theorem test_counter_table_4_2 :
    (seven 500 [] []).issue = some (500, seven 505 [] [])
      ∧ (seven 515 [] [⟨505, 201, 2⟩, ⟨510, 201, 3⟩]).returned [(201, 3)] = seven 515 [510] [⟨505, 201, 2⟩]
      ∧ (seven 515 [510] []).issue = some (510, seven 515 [] [])
      ∧ (seven 520 [] []).issue = some (520, { seven 520 [] [] with state := .exhausted }) := by decide

/-- The speed override is clamped and rounded down to a multiple of 25 (section 5.1). -/
theorem test_speedOverride :
    [0, 60, 240, 300].map speedOverride = [0, 50, 225, 250] := by decide

/-- The pulses of the example of chapter 7: D 15, 35 °C, 23.0 V, and the four classes. -/
theorem test_pulse_example :
    pulseZero 15 35 230 = 342 ∧ [16, 14, 12, 10].map (dotPulse 342) = [342, 299, 256, 213]
      ∧ strobeTime (phaseCount 600) 342 = 1086 ∧ strobeTime (phaseCount 200) 342 = 402 := by decide

/-- The extremes of the class-0 pulse (Table 7-2). -/
theorem test_pulse_extremes :
    pulseZero 0 60 260 = 110 ∧ pulseZero 30 0 200 = 900 ∧ pulseZero 15 25 240 = 350
      ∧ pulseZero 0 99 300 = 110 ∧ pulseZero 30 (-20) 180 = 900 := by decide

/-- The line period of each speed (Table 7-3). -/
theorem test_line_period :
    [250, 225, 200, 175, 150, 125, 100, 75, 50].map linePeriod
      = [500, 555, 625, 714, 833, 1000, 1250, 1666, 2500] := by decide

/-- The clamp of the darkness (section 7.3). -/
theorem test_darkness : darknessOf 25 10 = 30 ∧ darknessOf 4 (-10) = 0 ∧ darknessOf 15 0 = 15 := by decide

/-- Symbol table S3 (Table 2-9); 1 is a narrow element and 2 a wide one. -/
def tableS3 : SymbolTable :=
  { model := 1, perChar := 5, gap := 1, minLen := 1, maxLen := 20, rule := .rightWeighted, modulus := 10, weightA := 3, weightB := 1
    startConstant := 0, shown := true, start := [1, 1, 1], stop := [2, 1, 1]
    entries := [⟨48, 0, [2, 2, 1, 1, 1]⟩, ⟨49, 1, [2, 1, 2, 1, 1]⟩, ⟨50, 2, [2, 1, 1, 2, 1]⟩, ⟨51, 3, [2, 1, 1, 1, 2]⟩,
      ⟨52, 4, [1, 2, 2, 1, 1]⟩, ⟨53, 5, [1, 2, 1, 2, 1]⟩, ⟨54, 6, [1, 2, 1, 1, 2]⟩, ⟨55, 7, [1, 1, 2, 2, 1]⟩,
      ⟨56, 8, [1, 1, 2, 1, 2]⟩, ⟨57, 9, [1, 1, 1, 2, 2]⟩] }

/-- The example of chapter 6: the data 407 have the check value 7; the symbol is 89 dots wide; the start pattern's bars
are drawn at columns 20 and 24 only, the 4's at 28, 35 to 38 and 42, the stop's at 100 to 103 and 107. -/
theorem test_barcode_example :
    tableS3.checkValue [52, 48, 55] = some 7
      ∧ symbolWidth 2 ((tableS3.patterns [52, 48, 55]).map (patternWidth 1 2 25)) = 89
      ∧ (symbolBars 1 2 25 1 2 20 (tableS3.patterns [52, 48, 55])).take 5 = [(20, 1), (24, 1), (28, 1), (35, 4), (42, 1)]
      ∧ (symbolBars 1 2 25 1 2 20 (tableS3.patterns [52, 48, 55])).drop 14 = [(100, 4), (107, 1)]
      ∧ tableS3.readableText [52, 48, 55] = "4077".toList.map Char.toNat := by decide

/-- An image body of one row too few bytes, one right and one byte too long (Table 2-11). -/
theorem test_image_validation :
    validateBody .image [0, 8, 0, 2, 0xFF] = some 5 ∧ validateBody .image [0, 8, 0, 2, 0xFF, 0] = none
      ∧ validateBody .image [0, 8, 0, 2, 0xFF, 0, 0] = some 6 ∧ validateBody .image [0, 0, 0, 2] = some 0
      ∧ validateBody .image [0, 8, 0x0F, 0xA1] = some 2 := by decide

/-! ## Witnesses: for every clause of a statement with hypotheses, a state and operands that meet them all. A
variable that an equation of the statement defines stands as that equation's right side; `u` is `s`, in which
nothing has fallen due. -/

theorem settled {s : State} (h : s.isQuiet = true) : s.settle = s := State.settle_of_isQuiet h

/-- A state in which nothing has fallen due and a request of a code is about to execute. -/
structure Takes (code : Nat) (body : List Byte) (s : State) : Prop where
  settled : s.settle = s
  asks : s.asks code body

theorem takes {code : Nat} {body : List Byte} {s : State}
    (h : (s.isQuiet && decide (s.headItem = some (.frame (byte code) body)) && bodyLengthOk (byte code) body) = true) :
    Takes code body s := by
  simp only [Bool.and_eq_true, decide_eq_true_eq] at h
  exact ⟨settled h.1.1, h.1.2, h.2⟩

/-- Whether an outcome is a next state. -/
def answersNext : Host.Outcome State Fault Refusal → Bool
  | .next _ => true
  | _ => false

theorem exists_next {o : Host.Outcome State Fault Refusal} (h : answersNext o = true) : ∃ t, o = .next t := by
  cases o with
  | next t => exact ⟨t, rfl⟩
  | fault r => cases h
  | refused r => cases h

theorem all_some {α : Type} {o : Option α} {P : α → Prop} [DecidablePred P] (h : o.all (fun a => decide (P a)) = true) :
    ∀ a, o = some a → P a := by
  rintro a rfl; simpa using h

/-- A state with commands waiting. -/
def waiting (cs : List Instr) (s : State) : State := { s with pending := cs }

theorem witness_StepRunsFrontCommand :
    (waiting [.ready, .status] base).pending = .ready :: [.status] ∧ base.pending = [] := by decide

theorem witness_CommandsAnswerAndLeaveTheQueueAlone :
    ∃ t, exec (.rtsChange false) (waiting [.status] base) = .next t := exists_next (by decide +kernel)

/-! ### Invariants -/

/-- A page program of the last byte of the array ends on a flash with a byte listed beside it. -/
theorem witness_FlashStaysCanonical :
    let s := waiting [.pageProgramEnd none]
      { accessing (.program 8388607 [0x12]) 999900 base with flash := [(8388606, 3)] }
    s.flashSound ∧ ∃ t, step s = .next t :=
  ⟨by unfold State.flashSound; decide +kernel, exists_next (by decide +kernel)⟩

/-- The head opens on a running part, and closes on one in FAULT with a job that holds COUNTER. -/
theorem witness_AttentionFollowsFaultAndCounterHold :
    let s := waiting [.headSwitchChange true] base
    let r := waiting [.headSwitchChange false]
      { queued [{ job 3 with holdCounter := true }] [] base with
        lines := { base.lines with headOpen := true }
        media := { base.media with
          engine := .fault, causes := ⟨true, false, false, false⟩, counterHold := true, attention := true } }
    (s.attentionSound ∧ ∃ t, step s = .next t) ∧ (r.attentionSound ∧ ∃ t, step r = .next t) := by
  refine ⟨⟨?_, exists_next (by decide +kernel)⟩, ?_, exists_next (by decide +kernel)⟩ <;>
    (unfold State.attentionSound; decide +kernel)

/-- The items of a submission of tag 1,000. -/
def items : JobItems := { (job 1000).items with format := 7 }

/-- The queue with one place left for a JOB_SUBMIT in execution, its list of tickets full; and the registration count at
its highest. -/
theorem witness_QueueAndCountStayWithinTheirRoom :
    let s := waiting [.rtsChange true]
      (working 0x22 (.submitFormat items [])
        (queued ((List.range 31).map job)
          [ticket 1 1 .printing, ticket 2 1 .ready, ticket 3 1 .ready, ticket 4 0 .rendering] base))
    let r := waiting [.rtsChange true] { base with media := { base.media with count := 256 } }
    (s.queueSound ∧ ∃ t, step s = .next t) ∧ (r.countSound ∧ ∃ t, step r = .next t) := by
  refine ⟨⟨?_, exists_next (by decide +kernel)⟩, ?_, exists_next (by decide +kernel)⟩
  · exact ⟨by decide +kernel, by decide +kernel, by decide +kernel, all_some (by decide +kernel)⟩
  · unfold State.countSound; decide

/-- The body of a SETTINGS_SET that gives a media type and an idle time. -/
def settingsBody (presence media idle : Byte) : List Byte := [0, presence, media, 0, 0, 0, 0, 0, 0, idle, 0, 0, 0]

theorem witness_TableCheckStaysInAgreement :
    let s := waiting [.settingsSet] (asking 0x34 (settingsBody 0x20 0 5) base)
    s.tableSound ∧ ∃ t, step s = .next t :=
  ⟨by unfold State.tableSound; decide +kernel, exists_next (by decide +kernel)⟩

/-- A state with counter 1. -/
def counting (c : Counter) (s : State) : State :=
  { s with battery := s.battery.withCounters (setCounter 1 c s.battery.counters) }

/-- A counter at its high bound with a full return list. -/
def full : Counter := { wrapping 99 with returns := [0, 1, 2, 3, 4, 5, 6, 99], outstanding := [⟨98, 3, 1⟩] }

theorem witness_CounterValuesStayInBounds :
    let s := waiting [.counterClearReturns] (asking 0x13 [1] (counting full base))
    (s.countersInBounds ∧ ∃ t, step s = .next t) ∧ (s.returnsSound ∧ ∃ t, step s = .next t) := by
  refine ⟨⟨?_, exists_next (by decide +kernel)⟩, ?_, exists_next (by decide +kernel)⟩
  · unfold State.countersInBounds Counter.inBounds; decide +kernel
  · unfold State.returnsSound; decide +kernel

theorem witness_StickyFlagsStaySet :
    let s : State := { base with sticky := { base.sticky with storeFault := true } }
    clearsSticky (.headSample 25 240) = false ∧ ∃ t, exec (.headSample 25 240) s = .next t :=
  ⟨rfl, exists_next (by decide +kernel)⟩

/-! ### Start-up, reset and power -/

/-- A part without main power, its reset line asserted or not. -/
def off (asserted : Bool) : State :=
  { State.reset with mode := .off, lines := { State.reset.lines with resetAsserted := asserted } }

theorem witness_HeldPartLeavesResetAtItsRelease :
    (State.reset.mode = .held ∧ State.reset.line.restart = none
      ∧ (∃ t, exec (.headSwitchChange true) State.reset = .next t)
      ∧ (∀ straps, Instr.headSwitchChange true ≠ .resetLine straps) ∧ Instr.headSwitchChange true ≠ .mainPowerLoss)
    ∧ State.reset.settle = State.reset ∧ State.reset.mode = .held ∧ State.reset.lines.resetAsserted = true :=
  ⟨⟨rfl, rfl, exists_next (by decide +kernel), nofun, nofun⟩, settled (by decide +kernel), rfl, rfl⟩

/-- A state with a RESTART mark some bytes from the head of the output queue. -/
def restarting (bytes : Nat) (s : State) : State :=
  { s with
    line := { s.line with
      restart := some { bytes := bytes, placed := 900000 }, output := List.replicate bytes 0, sending := some 999000 } }

theorem witness_StartUpBeginsAndScansTheStore_begin :
    ((off true).settle = off true ∧ (off true).mode = .off)
    ∧ ((off false).settle = off false ∧ (off false).mode = .off)
    ∧ ((restarting 12 base).settle = restarting 12 base ∧ (restarting 12 base).line.restart = some ⟨12, 900000⟩)
    ∧ (restarting 1 base).settle = restarting 1 base ∧ (restarting 1 base).line.sending = some 999000
      ∧ (restarting 1 base).line.restart = some ⟨1, 900000⟩ ∧ 1 ≤ 1 :=
  ⟨⟨settled (by decide +kernel), rfl⟩, ⟨settled (by decide +kernel), rfl⟩, ⟨settled (by decide +kernel), rfl⟩,
    settled (by decide +kernel), rfl, rfl, le_refl 1⟩

theorem witness_ResetLineAndPowerLossResetTheBlocks :
    let s := accessing (.read 32767) 999970 base
    (base.settle = base ∧ base.mode ≠ .off ∧ base.mode ≠ .held)
    ∧ ((off true).settle = off true ∧ ((off true).mode = .off ∨ (off true).mode = .held))
    ∧ (State.reset.settle = State.reset ∧ State.reset.mode ≠ .off)
    ∧ (∀ b, s.array.busy = some b → ∃ page, b.access.op = .read page) ∧ s.array.erase = .idle := by
  refine ⟨⟨settled (by decide +kernel), nofun, nofun⟩, ⟨settled (by decide +kernel), .inl rfl⟩, ⟨settled (by decide +kernel), nofun⟩, ?_, rfl⟩
  intro b h
  obtain rfl := Option.some.inj h
  exact ⟨_, rfl⟩

/-- A part at the end of its start-up with some drop records. -/
def ready (drops : Nat) : State :=
  { base with
    mode := .startUp (.ready 1 0)
    battery := { base.battery with drops := List.replicate drops ⟨1, 1, 0, 0⟩ } }

/-- A battery low on a part that runs, starts up, is held in reset, and has no main power; a counter with values
outstanding in a table whose latch is set. -/
theorem witness_BatteryBackedTableIsCheckedAndKept :
    (base.settle = base ∧ base.mode = .running)
    ∧ (let s : State := { base with mode := .startUp (.scan Scan.begin) };
      s.settle = s ∧ s.mode = .startUp (.scan Scan.begin))
    ∧ (State.reset.settle = State.reset ∧ State.reset.mode = .held)
    ∧ ((off true).settle = off true ∧ (off true).mode = .off)
    ∧ (let b : Battery := { (counting full base).battery with latch := true };
      b.isLost = true ∧ b.counters[0]? = some full ∧ full.outstanding ≠ []) := by decide +kernel

/-! ### The serial line -/

/-- A Line Interface in an assembly state with some bytes stored. -/
def assembling (a : Assembly) (stored : List Byte) (input : List InItem) : LineIf :=
  { base.line with assembly := a, stored := stored, input := input }

/-- A frame that fills the input buffer but for some bytes. -/
def filling (left : Nat) : List InItem := [.frame 0x38 (List.replicate (4090 - left) 0)]

theorem witness_ReceivedBytesAreAssembled :
    (base.settle = base ∧ base.mode = .running ∧ base.line.restart = none)
    ∧ ((restarting 2 base).settle = restarting 2 base ∧ (restarting 2 base).mode = .running
      ∧ (restarting 2 base).line.restart ≠ none)
    ∧ (let l := assembling .length [0xA5, 4] [];
      l.fill < 4096 ∧ l.overrun = none ∧ l.assembly = .length ∧ l.stored.length = 2 ∧ 1024 < num (l.stored ++ [1]) 1 2)
    ∧ (let l := assembling .check [0xA5, 0, 0, 0x38, 0] [];
      l.fill < 4096 ∧ l.overrun = none ∧ l.assembly = .check ∧ 0 = num (l.stored ++ [0x39]) 1 2
        ∧ l.stored.length = 0 + 5
        ∧ byteSum (((l.stored ++ [0x39]).drop 1).take (0 + 3)) ≠ num (l.stored ++ [0x39]) (0 + 4) 2)
    ∧ (let l := assembling .length [0xA5] (filling 1);
      4096 ≤ l.fill ∧ l.overrun = none ∧ l.assembly ≠ .hunt)
    ∧ (let l := assembling .hunt [] (filling 0);
      4096 ≤ l.fill ∧ l.assembly = .hunt)
    ∧ (let s : State := { base with line := assembling .length [0xA5] [] };
      s.settle = s ∧ s.mode = .running ∧ s.line.restart = none ∧ s.line.overrun = none ∧ s.line.assembly ≠ .hunt) := by
  refine ⟨⟨?_, ?_⟩, ⟨?_, ?_⟩, ?_, ?_, ?_, ?_, ?_, ?_⟩
  all_goals decide +kernel

/-- A frame of the longest body fits exactly in a buffer that holds 3,066 bytes. -/
theorem witness_FrameIsAssembledFromItsBytes :
    let l := assembling .hunt [] (filling 1030)
    l.assembly = .hunt ∧ l.stored = [] ∧ l.overrun = none ∧ (List.replicate 1024 (0xA5 : Byte)).length ≤ 1024
      ∧ l.fill + ((List.replicate 1024 (0xA5 : Byte)).length + 6) ≤ 4096
      ∧ (List.replicate 1030 5).length = (List.replicate 1024 (0xA5 : Byte)).length + 6 := by decide +kernel

theorem witness_TransmissionFollowsRequestToSend :
    (base.settle = base ∧ base.mode = .running)
    ∧ (restarting 2 base).settle = restarting 2 base ∧ (restarting 2 base).mode = .running
      ∧ (restarting 2 base).line.sending = some 999000
      ∧ ∀ m, (restarting 2 base).line.restart = some m → 1 < m.bytes :=
  ⟨⟨settled (by decide +kernel), rfl⟩, settled (by decide +kernel), rfl, rfl, all_some (by decide +kernel)⟩

/-! ### Requests -/

/-- A state whose Decoder has taken an item. -/
def heading (item : InItem) (s : State) : State :=
  { s with dec := { s.dec with state := .executing, reserved := some 778, taken := some item } }

/-- A state whose input buffer has an item at its head that the Decoder waits to take, with some bytes free in the
output queue. -/
def claiming (item : InItem) (room : Nat) (s : State) : State :=
  { s with
    dec := { s.dec with state := .waiting }
    line := { s.line with input := [item], output := List.replicate (s.freeRoom - room) 0 } }

/-- A frame and a mark with exactly the room of their bounds, and one byte short of it; a part whose ENGINE notice lacks
one byte of room. -/
theorem witness_UnanswerableHeadsRefused :
    let status : InItem := .frame 0x38 []
    let lost : InItem := .mark .overrun 255
    (let s := asking 0x02 [0] base;
      requestCode .recordData = some 0x02 ∧ s.settle = s ∧ s.headItem = some (.frame (byte 0x02) [0])
        ∧ bodyLengthOk (byte 0x02) [0] = false)
    ∧ (let s := asking 0x38 [0] base;
      requestCode .status = some 0x38 ∧ s.settle = s ∧ s.headItem = some (.frame (byte 0x38) [0])
        ∧ bodyLengthOk (byte 0x38) [0] = false)
    ∧ (let s := heading (.frame 0x3B []) base;
      s.settle = s ∧ s.headItem = some (.frame 0x3B []) ∧ requestRow 0x3B = none)
    ∧ (∀ item ∈ [status, lost],
      let s := claiming item (replyBound item) base;
      s.line.input = item :: [] ∧ s.mode = .running ∧ s.line.restart = none ∧ s.dec.state = .waiting
        ∧ s.queue.ending = [] ∧ s.media.notice = none ∧ replyBound item ≤ s.freeRoom)
    ∧ (∀ item ∈ [status, lost],
      let s := claiming item (replyBound item - 1) base;
      s.line.input = item :: [] ∧ s.queue.ending = [] ∧ s.media.notice = none ∧ s.freeRoom < replyBound item)
    ∧ (let n : EngineNotice := ⟨.fault, 1, .idle, 0, 256, 1⟩;
      let s := claiming status ((engineFrame n).length - 1) { base with media := { base.media with notice := some n } };
      s.line.input = status :: [] ∧ s.media.notice = some n ∧ s.freeRoom < (engineFrame n).length)
    ∧ (let s : State := { claiming status 800 base with dec := (heading lost base).dec };
      s.line.input = status :: [] ∧ s.dec.state ≠ .waiting) := by decide +kernel

theorem witness_StatusAndRestartAnswered :
    Takes 0x38 [] (asking 0x38 [] base) ∧ Takes 0x39 [0x80] (asking 0x39 [0x80] base)
      ∧ Takes 0x39 [0x7F] (asking 0x39 [0x7F] base) ∧ Takes 0x3A [] (asking 0x3A [] base) :=
  ⟨takes (by decide +kernel), takes (by decide +kernel), takes (by decide +kernel), takes (by decide +kernel)⟩

/-! ### The Record Store -/

/-- The body of a RECORD_BEGIN of format 7 with a length of 40. -/
def beginBody : List Byte := [0x46, 0, 7, 0, 40, 0]

/-- The longest record: an image of 16 sectors. -/
def longBody : List Byte := [0x47, 3, 231, 0xFF, 0xE0, 1]

/-- A map with every sector BAD. -/
def allBad : List (Nat × SectorState) := (List.range' 0 2048).map fun n => (n, .bad)

theorem sectorState_bad (b k n : Nat) :
    b ≤ n → n < b + k → sectorState ((List.range' b k).map fun n => (n, .bad)) n = .bad := by
  induction k generalizing b with
  | zero => intro h1 h2; omega
  | succ k ih =>
    intro h1 h2
    rw [List.range'_succ, List.map_cons, sectorState]
    split
    · rfl
    · exact ih (b + 1) (by omega) (by omega)

/-- No image of 16 sectors finds a run in it. -/
theorem freeRun_allBad : freeRun allBad 16 = none := by
  unfold freeRun
  rw [List.find?_eq_none]
  intro f hf hall
  have hlt : f < 2033 := by simpa [Config.sectors] using hf
  have := List.all_eq_true.mp hall f (by simp [extentSectors])
  rw [allBad, sectorState_bad 0 2048 f (by omega) (by omega)] at this
  simp at this

theorem witness_RecordBeginRefusedOrOpened :
    (let s := asking 0x01 beginBody (uploading 0 none base);
      Takes 0x01 beginBody s ∧ s.store.upload ≠ none)
    ∧ (let s := asking 0x01 [0x46, 0, 7, 0, 0, 0] base;
      Takes 0x01 [0x46, 0, 7, 0, 0, 0] s ∧ s.store.upload = none ∧ beginOf [0x46, 0, 7, 0, 0, 0] = none)
    ∧ (let s := asking 0x01 beginBody (stored { liveEntry with lock := true } base);
      Takes 0x01 beginBody s ∧ s.store.upload = none ∧ beginOf beginBody = some (.format, 7, 40, false)
        ∧ ∃ e, s.store.live .format 7 = some e ∧ e.lock = true)
    ∧ (let s := asking 0x01 beginBody (stored { liveEntry with revision := 65535 } base);
      Takes 0x01 beginBody s ∧ s.store.upload = none ∧ beginOf beginBody = some (.format, 7, 40, false)
        ∧ (∀ e, s.store.live .format 7 = some e → e.lock = false) ∧ 65535 ≤ s.store.highestRevision .format 7)
    ∧ (let s := asking 0x01 beginBody (stored { liveEntry with revision := 65534 } base);
      Takes 0x01 beginBody s ∧ s.store.upload = none ∧ beginOf beginBody = some (.format, 7, 40, false)
        ∧ (∀ e, s.store.live .format 7 = some e → e.lock = false) ∧ s.store.highestRevision .format 7 < 65535
        ∧ freeRun s.store.sectorMap (extentOf 40) = some 0)
    ∧ freeRun [] 2048 = some 0 ∧ freeRun [(0, .held)] 1 = some 1 ∧ freeRun [(2047, .held)] 2048 = none := by
  refine ⟨⟨?_, ?_⟩, ⟨?_, ?_, ?_⟩, ⟨?_, ?_, ?_, ?_⟩, ⟨?_, ?_, ?_, ?_, ?_⟩,
    ⟨?_, ?_, ?_, ?_, ?_, ?_⟩, ?_, ?_, ?_⟩
  all_goals first
    | decide +kernel
    | exact takes (by decide +kernel)

theorem witness_RecordBegin_storeFull :
    let s := asking 0x01 longBody { base with store := { base.store with sectorMap := allBad } }
    Takes 0x01 longBody s ∧ s.store.upload = none ∧ beginOf longBody = some (.image, 999, 65504, true)
      ∧ (∀ e, s.store.live .image 999 = some e → e.lock = false) ∧ s.store.highestRevision .image 999 < 65535
      ∧ freeRun s.store.sectorMap (extentOf 65504) = none := by
  refine ⟨takes (by decide +kernel), rfl, by decide +kernel, all_some (by decide +kernel), by decide +kernel, ?_⟩
  have h : extentOf 65504 = 16 := by decide
  rw [h]
  exact freeRun_allBad

theorem witness_RecordDataAndEndTaken :
    (let s := asking 0x02 [0, 0, 1] base;
      Takes 0x02 [0, 0, 1] s ∧ s.store.upload = none)
    ∧ (let s := asking 0x02 [0, 0] (uploading 0 (some 900000) base);
      Takes 0x02 [0, 0] s ∧ s.store.upload = some (upload 0 (some 900000)))
    ∧ (let body : List Byte := 0 :: 0 :: List.replicate 1001 7;
      let s := asking 0x02 body (uploading 0 (some 900000) base);
      Takes 0x02 body s ∧ s.store.upload = some (upload 0 (some 900000)) ∧ 1000 < body.length - 2)
    ∧ (let s := asking 0x02 [0, 1, 7] (uploading 0 (some 900000) base);
      Takes 0x02 [0, 1, 7] s ∧ s.store.upload = some (upload 0 (some 900000)) ∧ num [0, 1, 7] 0 2 ≠ 0)
    ∧ (let s := asking 0x02 [0, 39, 7, 7] (uploading 39 (some 900000) base);
      Takes 0x02 [0, 39, 7, 7] s ∧ s.store.upload = some (upload 39 (some 900000)) ∧ num [0, 39, 7, 7] 0 2 = 39
        ∧ 40 < 39 + 2)
    ∧ (let s := asking 0x02 [0, 39, 7] (uploading 39 (some 900000) base);
      Takes 0x02 [0, 39, 7] s ∧ s.store.upload = some (upload 39 (some 900000)) ∧ num [0, 39, 7] 0 2 = 39
        ∧ 39 + 1 ≤ 40 ∧ cutPages 1 (9 * 4096 + 32 + 39) [7] = (36935, [7]) :: [])
    ∧ (let s := asking 0x03 [0, 0] base;
      Takes 0x03 [0, 0] s ∧ s.store.upload = none)
    ∧ (let s := asking 0x03 [0, 0] (uploading 39 none base);
      Takes 0x03 [0, 0] s ∧ s.store.upload = some (upload 39 none) ∧ (upload 39 none).received < (upload 39 none).bodyLen)
    ∧ (let s := asking 0x03 [0, 0] (uploading 40 (some 900000) base);
      Takes 0x03 [0, 0] s ∧ s.store.upload = some (upload 40 (some 900000))
        ∧ (upload 40 none).bodyLen ≤ (upload 40 none).received ∧ bodyPages 9 0 40 = 144 :: []) := by
  refine ⟨⟨?_, ?_⟩, ⟨?_, ?_⟩, ⟨?_, ?_, ?_⟩, ⟨?_, ?_, ?_⟩, ⟨?_, ?_, ?_⟩, ⟨?_, ?_, ?_⟩, ⟨?_, ?_⟩, ⟨?_, ?_, ?_⟩,
    ?_, ?_, ?_, ?_⟩
  all_goals first
    | decide +kernel
    | exact takes (by decide +kernel)

theorem witness_UploadAbandonedAndRecordRetired :
    (let s := asking 0x04 [] base;
      Takes 0x04 [] s ∧ s.store.upload = none)
    ∧ (let s := asking 0x04 [] (uploading 40 (some 900000) base);
      Takes 0x04 [] s ∧ s.store.upload = some (upload 40 (some 900000)))
    ∧ (let s := uploading 40 (some 900000) base;
      s.settle = s ∧ s.mode = .running ∧ s.store.upload = some (upload 40 (some 900000))) := by
  refine ⟨⟨?_, ?_⟩, ⟨?_, ?_⟩, ?_, ?_⟩
  all_goals first
    | decide +kernel
    | exact takes (by decide +kernel)

theorem witness_UploadAbandonedAndRecordRetired_retire :
    (let s := asking 0x05 [0x46, 3, 232] base;
      Takes 0x05 [0x46, 3, 232] s ∧ nameOf [0x46, 3, 232] = none)
    ∧ (let s := asking 0x05 [0x53, 3, 231] base;
      Takes 0x05 [0x53, 3, 231] s ∧ nameOf [0x53, 3, 231] = some (.table, 999) ∧ s.store.live .table 999 = none)
    ∧ (let s := asking 0x05 [0x46, 0, 7] (stored { liveEntry with lock := true } base);
      Takes 0x05 [0x46, 0, 7] s ∧ nameOf [0x46, 0, 7] = some (.format, 7)
        ∧ s.store.live .format 7 = some { liveEntry with lock := true })
    ∧ (let s := asking 0x05 [0x46, 0, 7] (stored liveEntry base);
      Takes 0x05 [0x46, 0, 7] s ∧ nameOf [0x46, 0, 7] = some (.format, 7) ∧ s.store.live .format 7 = some liveEntry
        ∧ liveEntry.lock = false ∧ s.store.entry liveEntry.ref = some liveEntry) := by
  refine ⟨⟨?_, ?_⟩, ⟨?_, ?_⟩, ⟨?_, ?_⟩, ?_, ?_⟩
  all_goals first
    | decide +kernel
    | exact takes (by decide +kernel)

theorem witness_QueriesOnlyAnswer :
    (let s := asking 0x06 [0x41, 0, 7] base;
      Takes 0x06 [0x41, 0, 7] s ∧ nameOf [0x41, 0, 7] = none)
    ∧ (let s := asking 0x06 [0x46, 0, 7] base;
      Takes 0x06 [0x46, 0, 7] s ∧ nameOf [0x46, 0, 7] = some (.format, 7)
        ∧ (s.store.directory.filter fun e => e.named .format 7) = [])
    ∧ (let s := asking 0x06 [0x46, 0, 7] (uploading 0 none base);
      Takes 0x06 [0x46, 0, 7] s ∧ nameOf [0x46, 0, 7] = some (.format, 7)
        ∧ (s.store.directory.filter fun e => e.named .format 7) ≠ [])
    ∧ (let s := asking 0x07 [0x46, 0, 0] base;
      Takes 0x07 [0x46, 0, 0] s ∧ nameOf [0x46, 0, 0] = none)
    ∧ (let s := asking 0x07 [0x46, 0, 1] (uploading 0 none base);
      Takes 0x07 [0x46, 0, 1] s ∧ nameOf [0x46, 0, 1] = some (.format, 1))
    ∧ Takes 0x08 [] (asking 0x08 [] base)
    ∧ (let s := asking 0x24 [0, 3] base;
      Takes 0x24 [0, 3] s ∧ s.queue.job (num [0, 3] 0 2) = none)
    ∧ (let s := asking 0x24 [0, 3] (queued [job 3] [ticket 3 0 .rendering] base);
      Takes 0x24 [0, 3] s ∧ s.queue.job (num [0, 3] 0 2) = some (job 3))
    ∧ Takes 0x25 [] (asking 0x25 [] (queued [job 3] [ticket 3 0 .rendering] base)) := by
  refine ⟨⟨?_, ?_⟩, ⟨?_, ?_⟩, ⟨?_, ?_⟩, ⟨?_, ?_⟩, ⟨?_, ?_⟩, ?_, ⟨?_, ?_⟩, ⟨?_, ?_⟩, ?_⟩
  all_goals first
    | decide +kernel
    | exact takes (by decide +kernel)

theorem witness_StoreWipeRefusedOrBegun :
    let lives (s : State) := bySector (s.store.directory.filter fun e => decide (e.state = .live))
    Takes 0x09 [] (asking 0x09 [] base)
    ∧ (let s := asking 0x09 [] (queued [job 3] [] base);
      Takes 0x09 [] s ∧ (s.queue.jobs ≠ [] ∨ s.queue.tickets ≠ []))
    ∧ (let s := asking 0x09 [] { base with media := { base.media with engine := .paused } };
      Takes 0x09 [] s ∧ s.queue.jobs = [] ∧ s.queue.tickets = []
        ∧ (s.queue.reprint = true ∨ (s.media.engine ≠ .idle ∧ s.media.engine ≠ .off)))
    ∧ (let s := asking 0x09 [] { base with media := { base.media with engine := .off } };
      Takes 0x09 [] s ∧ s.queue.jobs = [] ∧ s.queue.tickets = [] ∧ s.queue.reprint = false
        ∧ (s.media.engine = .idle ∨ s.media.engine = .off) ∧ lives s = [])
    ∧ (let s := asking 0x09 [] (uploading 3 none base);
      Takes 0x09 [] s ∧ s.queue.jobs = [] ∧ s.queue.tickets = [] ∧ s.queue.reprint = false
        ∧ (s.media.engine = .idle ∨ s.media.engine = .off) ∧ lives s = liveEntry :: []
        ∧ s.store.entry liveEntry.ref = some liveEntry) := by
  refine ⟨?_, ⟨?_, ?_⟩, ⟨?_, ?_⟩, ⟨?_, ?_⟩, ?_, ?_⟩
  all_goals first
    | decide +kernel
    | exact takes (by decide +kernel)

/-- A program of the request in execution, begun 3 ms ago. -/
def programming (code : Nat) (work : Work) (s : State) : State :=
  working code work (accessing (.program 36864 [0x00]) 997000 s)

/-- What the statements about the end of a program ask of its state. -/
def ProgramEnds (s : State) : Prop :=
  s.settle = s ∧ s.mode = .running
    ∧ s.array.busy = some { access := { client := .decoder, op := .program 36864 [0x00] }, started := 997000 }
    ∧ 36864 / 256 < 32768 ∧ s.now - 997000 ≤ 3000

theorem programEnds {s : State} (h : s.isQuiet = true)
    (h2 : decide (s.mode = .running
      ∧ s.array.busy = some { access := { client := .decoder, op := .program 36864 [0x00] }, started := 997000 }
      ∧ s.now - 997000 ≤ 3000) = true) : ProgramEnds s := by
  have h3 := of_decide_eq_true h2
  exact ⟨settled h, h3.1, h3.2.1, by decide, h3.2.2⟩

theorem witness_ProgramsOfARequestEnd :
    (let s := programming 0x01 .header (uploading 0 none base);
      ProgramEnds s ∧ s.dec.work = .header ∧ s.dec.kind = byte 0x01 ∧ s.store.writing = some writingEntry)
    ∧ (let s := programming 0x02 (.data 300 [(37120, [1])]) (uploading 0 none base);
      ProgramEnds s ∧ s.dec.work = .data 300 ((37120, [1]) :: []))
    ∧ (let s := programming 0x02 (.data 1 []) (uploading 39 none base);
      ProgramEnds s ∧ s.dec.work = .data 1 [] ∧ s.dec.kind = byte 0x02 ∧ s.store.upload = some (upload 39 none))
    ∧ (let s := programming 0x03 (.commit none) (uploading 40 none base);
      ProgramEnds s ∧ s.dec.work = .commit none ∧ s.dec.kind = byte 0x03 ∧ s.store.upload = some (upload 40 none))
    ∧ (let s := programming 0x03 (.commit (some liveEntry.ref)) (uploading 40 none base);
      ProgramEnds s ∧ s.dec.work = .commit (some liveEntry.ref) ∧ s.store.entry liveEntry.ref = some liveEntry)
    ∧ (let s := programming 0x03 (.staleOld liveEntry.ref) (uploading 40 none base);
      ProgramEnds s ∧ s.dec.work = .staleOld liveEntry.ref ∧ s.dec.kind = byte 0x03
        ∧ s.store.entry liveEntry.ref = some liveEntry ∧ s.store.upload = some (upload 40 none))
    ∧ (let s := programming 0x05 (.retire liveEntry.ref) (stored liveEntry base);
      ProgramEnds s ∧ s.dec.work = .retire liveEntry.ref ∧ s.dec.kind = byte 0x05
        ∧ s.store.entry liveEntry.ref = some liveEntry)
    ∧ (let s := programming 0x09 (.wipe ⟨.image, 1, 1⟩ [liveEntry.ref] 1) (stored liveEntry base);
      ProgramEnds s ∧ s.dec.work = .wipe ⟨.image, 1, 1⟩ (liveEntry.ref :: []) 1
        ∧ s.store.entry liveEntry.ref = some liveEntry)
    ∧ (let s := programming 0x09 (.wipe liveEntry.ref [] 0) (stored liveEntry base);
      ProgramEnds s ∧ s.dec.work = .wipe liveEntry.ref [] 0 ∧ s.dec.kind = byte 0x09) := by
  refine ⟨⟨?_, ?_⟩, ⟨?_, ?_⟩, ⟨?_, ?_⟩, ⟨?_, ?_⟩, ⟨?_, ?_⟩, ⟨?_, ?_⟩, ⟨?_, ?_⟩, ⟨?_, ?_⟩, ?_, ?_⟩
  all_goals first
    | decide +kernel
    | exact programEnds (by decide +kernel) (by decide +kernel)

theorem witness_ProgramTimeoutFailsTheRequest :
    (let s := programming 0x01 .header (uploading 0 none base);
      ProgramEnds s ∧ s.dec.work = .header ∧ s.dec.kind = byte 0x01 ∧ s.store.writing = some writingEntry)
    ∧ (let s := programming 0x02 (.data 1 []) (uploading 39 none base);
      ProgramEnds s ∧ s.dec.work = .data 1 [] ∧ s.dec.kind = byte 0x02)
    ∧ (let s := programming 0x03 (.commit none) (uploading 40 none base);
      ProgramEnds s ∧ s.dec.work = .commit none ∧ s.dec.kind = byte 0x03)
    ∧ (let s := programming 0x03 (.staleOld liveEntry.ref) (uploading 40 none base);
      ProgramEnds s ∧ s.dec.work = .staleOld liveEntry.ref ∧ s.dec.kind = byte 0x03
        ∧ s.store.entry liveEntry.ref = some liveEntry ∧ s.store.upload = some (upload 40 none))
    ∧ (let s := programming 0x05 (.retire liveEntry.ref) (stored liveEntry base);
      ProgramEnds s ∧ s.dec.work = .retire liveEntry.ref ∧ s.dec.kind = byte 0x05
        ∧ s.store.entry liveEntry.ref = some liveEntry) := by
  refine ⟨⟨?_, ?_⟩, ⟨?_, ?_⟩, ⟨?_, ?_⟩, ⟨?_, ?_⟩, ?_, ?_⟩
  all_goals first
    | decide +kernel
    | exact programEnds (by decide +kernel) (by decide +kernel)

/-- The example of chapter 6 as a format body: a BARCODE field of table 3 at (100, 50), m 2, bars of 40 lines, ratio 25,
reduction 1, quiet zone 10, the line on, from slot 5; label length 300 and width 400. -/
def formatBody : List Byte :=
  [1, 44, 1, 144, 15, 100, 1, 1, 2, 0, 100, 0, 50, 0, 0, 0, 3, 2, 0, 40, 25, 1, 10, 1, 0, 0, 1, 2, 5]

/-- Table S3 as a body (section 11.5). -/
def tableBody : List Byte :=
  [1, 5, 1, 1, 20, 1, 10, 3, 1, 0, 1, 3, 1, 1, 1, 3, 2, 1, 1, 10]
    ++ tableS3.entries.flatMap fun e => byte e.code :: byte e.value :: e.elements.map byte

/-- Validation of S3, and of the faulty upload of chapter 2 whose entry for 5 carries the value 4: the fault is at the
offset of entry 6's value. The rule byte is 00h NONE, 01h RIGHT_WEIGHTED or 02h LEFT_POSITIONAL (section 11.5); a gap
under the wrong parity of elements is a fault at the elements, the item before it (R46). -/
theorem test_table_validation :
    validateBody .table tableBody = none ∧ parseTable tableBody = tableS3 ∧ validateBody .format formatBody = none
      ∧ validateBody .table (tableBody.set (20 + 5 * 7 + 1) 4) = some (20 + 5 * 7 + 1)
      ∧ validateBody .table (tableBody.set 5 0) = none ∧ (parseTable (tableBody.set 5 0)).rule = .none
      ∧ (parseTable (tableBody.set 5 2)).rule = .leftPositional ∧ validateBody .table (tableBody.set 5 3) = some 5
      ∧ validateBody .table (tableBody.set 1 4) = some 1 ∧ validateBody .table (tableBody.set 2 4) = some 2
      ∧ validateBody .table ((tableBody.set 0 2).set 1 4) = some 1
      ∧ validateBody .table (tableBody.set 0 2) = some 2 := by decide +kernel

/-- Bytes as flash cells from an address. -/
def cells (addr : Nat) (bs : List Byte) : Memory := bs.zipIdx.map fun (b, i) => (addr + i, b)

/-! ### The scan of start-up -/

/-- The header of format 7, revision 3, LIVE, of one sector, its body the example's (Table 11-10). -/
def liveHeader (bodyLen check : Nat) : List Byte :=
  [0x03, 0x46, 0, 7, 0, 3, 1, 0xFF] ++ toBytes 2 bodyLen ++ toBytes 2 check

/-- The extent it begins in a sector. -/
def liveExtent (sector check : Nat) : Extent :=
  { kind := .format, number := 7, revision := 3, firstSector := sector, extentLen := 1, bodyLen := formatBody.length
    lock := false, check := check }

/-- A part whose scan waits for the access in progress. -/
def scanning (wait : ScanWait) (op : AccessOp) (flash : Memory) : State :=
  { base with
    mode := .startUp (.scan { Scan.begin with wait := wait })
    line := { base.line with cts := false }
    flash := flash
    array := { base.array with busy := some { access := { client := .scan, op := op }, started := 999960 } } }

/-- What the statement about the scan asks of its state. -/
def ScanEnds (s : State) (wait : ScanWait) (op : AccessOp) : Prop :=
  s.settle = s ∧ s.mode = .startUp (.scan { Scan.begin with wait := wait })
    ∧ s.array.busy = some { access := { client := .scan, op := op }, started := 999960 }

/-- The last sector erased, a header of a wrong extent length, one of body length 0 in the last sector, its check
agreeing and not, and a LIVE one; a body of two pages and one of one page whose sum
agrees and disagrees; sectors verified; and a stale program. -/
theorem witness_StartUpBeginsAndScansTheStore_scan :
    let sum := byteSum formatBody
    (let s := scanning (.header 2047) (.read 32752) [];
      ScanEnds s (.header 2047) (.read 32752) ∧ readMarker (byteAt (flashRange s.flash (2047 * 4096) 32) 0) ≠ .live)
    ∧ (let s := scanning (.header 5) (.read 80) (cells (5 * 4096) ((liveHeader 29 sum).set 6 2));
      ScanEnds s (.header 5) (.read 80) ∧ extentOfHeader 5 (flashRange s.flash (5 * 4096) 32) = none)
    ∧ (∀ check ∈ [0, 1],
      let s := scanning (.header 2047) (.read 32752) (cells (2047 * 4096) (liveHeader 0 check));
      ScanEnds s (.header 2047) (.read 32752) ∧ readMarker (byteAt (flashRange s.flash (2047 * 4096) 32) 0) = .live
        ∧ extentOfHeader 2047 (flashRange s.flash (2047 * 4096) 32) = some { liveExtent 2047 check with bodyLen := 0 })
    ∧ (let s := scanning (.header 5) (.read 80) (cells (5 * 4096) (liveHeader 29 sum));
      ScanEnds s (.header 5) (.read 80) ∧ readMarker (byteAt (flashRange s.flash (5 * 4096) 32) 0) = .live
        ∧ extentOfHeader 5 (flashRange s.flash (5 * 4096) 32) = some (liveExtent 5 sum)
        ∧ bodyPages 5 0 29 = 80 :: [])
    ∧ (let w : ScanWait := .body { liveExtent 5 sum with bodyLen := 300 } [81];
      ScanEnds (scanning w (.read 80) []) w (.read 80) ∧ bodyPages 5 0 300 = 80 :: [81])
    ∧ (let w : ScanWait := .body (liveExtent 5 sum) [];
      let s := scanning w (.read 80) (cells (5 * 4096 + 32) formatBody);
      ScanEnds s w (.read 80) ∧ byteSum (bodyBytes s.flash 5 29) = sum)
    ∧ (let w : ScanWait := .body (liveExtent 5 (sum + 1)) [];
      let s := scanning w (.read 80) (cells (5 * 4096 + 32) formatBody);
      ScanEnds s w (.read 80) ∧ byteSum (bodyBytes s.flash 5 29) ≠ sum + 1)
    ∧ ScanEnds (scanning (.verify 2047 [32767]) (.read 32766) []) (.verify 2047 [32767]) (.read 32766)
    ∧ (let s := scanning (.verify 2047 []) (.read 32767) [];
      ScanEnds s (.verify 2047 []) (.read 32767) ∧ s.flash = [] ∧ s.flashSound)
    ∧ (let s := scanning (.verify 2047 []) (.read 32767) [(8388607, 0xFE)];
      ScanEnds s (.verify 2047 []) (.read 32767) ∧ 2047 * 4096 ≤ 8388607 ∧ 8388607 < 2047 * 4096 + 4096
        ∧ flashRead s.flash 8388607 ≠ 0xFF)
    ∧ (let w : ScanWait := .stale (liveExtent 5 sum) [];
      let op : AccessOp := .program (5 * 4096) [0];
      ScanEnds (scanning w op []) w op ∧ 5 * 4096 / 256 < 32768 ∧ (scanning w op []).now - 999960 ≤ 3000) := by
  unfold ScanEnds State.flashSound
  decide +kernel

/-- A sector that reads erased, whichever its address. -/
theorem witness_erased (a : Nat) : flashRead [] a = 0xFF := rfl

/-- Candidates of one name, at one revision and at two; the ends of the walk and of the verification; and the engine
step with each cause, with none on calibrated media, and on uncalibrated. -/
theorem witness_StartUpBeginsAndScansTheStore_end :
    let first := liveExtent 5 0
    let second := liveExtent 6 0
    let newer := { liveExtent 7 0 with revision := 4 }
    (first.loses [first, second] = false ∧ second.loses [first, second] = true ∧ first.loses [first, newer] = true)
    ∧ [first, second, newer].Pairwise (fun f g => f.firstSector ≠ g.firstSector)
    ∧ ({ Scan.begin with candidates := [first, second] }.candidates.filter (Extent.loses [first, second]) = [second])
    ∧ (let inside : Nat → Prop := fun k => k = 5;
      (∀ k, inside k ↔ ∃ e ∈ [first], e.firstSector ≤ k ∧ k < e.firstSector + e.extentLen)
        ∧ (5 ≤ 6 ∧ 6 < 2048 ∧ ¬ inside 6 ∧ ∀ k, 5 ≤ k → k < 6 → inside k)
        ∧ ∀ k, 2048 ≤ k → k < 2048 → inside k)
    ∧ (faulted true ⟨true, false, false, false⟩).lines.headOpen = true
    ∧ (let s : State := { continuous with lines := { continuous.lines with gap := true } };
      (decide (s.battery.settings.mediaType = .continuous) && s.lines.gap) = true)
    ∧ (let s := calibrated base;
      s.lines.headOpen = false ∧ s.lines.gap = false ∧ s.burn.sensorFault = false
        ∧ s.battery.settings.mediaType ≠ .continuous ∧ 0 < s.battery.settings.pitch ∧ s.media.power = true)
    ∧ base.battery.settings.pitch = 0
    ∧ (let s : State := { base with mode := .startUp (.engine 1 2) };
      s.mode = .startUp (.engine 1 2) ∧ s.media.motion = none ∧ s.media.due = none
        ∧ (moving .resync .resyncRun s).media.motion ≠ none) := by
  refine ⟨by decide, by decide, by decide, ⟨?_, ⟨by decide, by decide, by decide, ?_⟩, ?_⟩, by decide⟩
  · intro k
    simp only [liveExtent, List.mem_singleton, exists_eq_left]
    omega
  · intro k h1 h2; omega
  · intro k h1 h2; omega

/-- Format 7 in sector 5, LIVE. -/
def formatEntry : DirEntry := { liveEntry with bodyLen := formatBody.length }

/-- Table 3 in sector 6, LIVE. -/
def tableEntry : DirEntry :=
  { liveEntry with kind := .table, number := 3, firstSector := 6, bodyLen := tableBody.length }

/-- A part with both records, executing a JOB_SUBMIT. -/
def shop : State :=
  { working 0x22 .none base with
    flash := cells (5 * 4096 + 32) formatBody ++ cells (6 * 4096 + 32) tableBody
    store := { base.store with
      directory := [formatEntry, tableEntry]
      index := [{ kind := .format, number := 7, firstSector := 5 }, { kind := .table, number := 3, firstSector := 6 }]
      sectorMap := [(5, .held), (6, .held)] } }

/-- The items of a job of format 7 with a text in slot 5. -/
def slotItems (text : String) : JobItems :=
  { (job 3).items with slots := [{ number := 5, text := text.toList.map fun c => byte c.toNat }] }

/-- The field of the format. -/
def barcodeField : Field :=
  { id := 1, originX := 100, originY := 50, rotation := 0, mode := .set
    kind := .barcode 3 2 40 25 1 10 true 0 [.slot 5] }

/-- A text field of counter 1. -/
def textField : Field := { barcodeField with id := 2, kind := .text 1 1 1 0 [.counter 1] }

/-- An image field of image 9. -/
def imageField : Field := { barcodeField with id := 3, kind := .image 9 1 }

/-- An upload of the format, its bytes received, with a page read of the request in execution begun 40 µs ago. -/
def readingBody (work : Work) : State :=
  let up : Upload := { upload formatBody.length none with firstSector := 5, bodyLen := formatBody.length }
  { working 0x03 work (accessing (.read 80) 999960 (uploading 40 none base)) with
    flash := cells (5 * 4096 + 32) formatBody
    store := { (uploading 40 none base).store with upload := some up } }

/-- What the statement about the end of a page read asks of its state. -/
def ReadEnds (s : State) : Prop :=
  s.settle = s ∧ s.mode = .running
    ∧ s.array.busy = some { access := { client := .decoder, op := .read 80 }, started := 999960 } ∧ 80 < 32768

theorem readEnds {s : State} (h : s.isQuiet = true)
    (h2 : decide (s.mode = .running
      ∧ s.array.busy = some { access := { client := .decoder, op := .read 80 }, started := 999960 }) = true) :
    ReadEnds s := by
  have h3 := of_decide_eq_true h2
  exact ⟨settled h, h3.1, h3.2, by decide⟩

/-- What a validation pass of the format finds over its first bytes. -/
def passFound (read : Nat) (pass : Pass) : PassStep :=
  Pass.run formatBody.length (formatBody.take read) (formatBody.length + 2) pass

/-- The pass over the whole body, and over a part of it. -/
theorem passFound_cases :
    passFound 29 (Pass.begin .format) = .passed
      ∧ (∃ next, passFound 7 (Pass.begin .format) = .go next)
      ∧ (∃ offset, passFound 29 (Pass.begin .image) = .fault offset) := by
  refine ⟨by decide +kernel, ?_, ?_⟩
  · have h : (match passFound 7 (Pass.begin .format) with | .go _ => true | _ => false) = true := by decide +kernel
    split at h
    · exact ⟨_, by assumption⟩
    · cases h
  · have h : (match passFound 29 (Pass.begin .image) with | .fault _ => true | _ => false) = true := by decide +kernel
    split at h
    · exact ⟨_, by assumption⟩
    · cases h

theorem witness_ReadsOfARequestEnd :
    let up : Upload := { upload formatBody.length none with firstSector := 5, bodyLen := formatBody.length }
    (let s := readingBody (.bodyCheck 7 [81]);
      ReadEnds s ∧ s.dec.work = .bodyCheck 7 (81 :: []))
    ∧ (let s := readingBody (.bodyCheck 7 []);
      ReadEnds s ∧ s.dec.work = .bodyCheck 7 [] ∧ s.dec.kind = byte 0x03 ∧ s.store.upload = some up
        ∧ byteSum (bodyBytes s.flash up.firstSector up.bodyLen) ≠ 7)
    ∧ (let s := readingBody (.bodyCheck (byteSum formatBody) []);
      ReadEnds s ∧ s.dec.work = .bodyCheck (byteSum formatBody) [] ∧ s.dec.kind = byte 0x03 ∧ s.store.upload = some up
        ∧ byteSum (bodyBytes s.flash up.firstSector up.bodyLen) = byteSum formatBody
        ∧ bodyPages up.firstSector 0 up.bodyLen = 80 :: [])
    ∧ (let s := readingBody (.validate 7 [] 29 (Pass.begin .image));
      ReadEnds s ∧ s.dec.work = .validate 7 [] 29 (Pass.begin .image) ∧ s.dec.kind = byte 0x03
        ∧ s.store.upload = some up ∧ bodyBytes s.flash up.firstSector 29 = formatBody.take 29)
    ∧ (let s := readingBody (.validate 7 [81] 7 (Pass.begin .format));
      ReadEnds s ∧ s.dec.work = .validate 7 (81 :: []) 7 (Pass.begin .format) ∧ s.dec.kind = byte 0x03
        ∧ s.store.upload = some up ∧ bodyBytes s.flash up.firstSector 7 = formatBody.take 7)
    ∧ (let s := readingBody (.validate 7 [] 29 (Pass.begin .format));
      ReadEnds s ∧ s.dec.work = .validate 7 [] 29 (Pass.begin .format) ∧ s.dec.kind = byte 0x03
        ∧ s.store.upload = some up ∧ bodyBytes s.flash up.firstSector 29 = formatBody.take 29)
    ∧ (let s := readingBody (.submitFormat (slotItems "407") [81]);
      ReadEnds s ∧ s.dec.work = .submitFormat (slotItems "407") (81 :: []))
    ∧ (let s := readingBody (.submitFormat (slotItems "407") []);
      ReadEnds s ∧ s.dec.work = .submitFormat (slotItems "407") [])
    ∧ (let s := readingBody (.submitTable (slotItems "407") 127 [81]);
      ReadEnds s ∧ s.dec.work = .submitTable (slotItems "407") 127 (81 :: []))
    ∧ (let s := readingBody (.submitTable (slotItems "407") 0 []);
      ReadEnds s ∧ s.dec.work = .submitTable (slotItems "407") 0 []) := by
  refine ⟨⟨?_, ?_⟩, ⟨?_, ?_⟩, ⟨?_, ?_⟩, ⟨?_, ?_⟩, ⟨?_, ?_⟩, ⟨?_, ?_⟩, ⟨?_, ?_⟩, ⟨?_, ?_⟩, ⟨?_, ?_⟩, ?_, ?_⟩
  all_goals first
    | decide +kernel
    | exact readEnds (by decide +kernel) (by decide +kernel)

theorem witness_DirectoryChanges :
    let pinned : DirEntry := { liveEntry with pins := 1 }
    0 < pinned.pins ∧ liveEntry.pins = 0 ∧ ¬ (RecKind.format = .image ∧ 7 = 7) := by decide

/-! ### The flash array and the erase service -/

theorem witness_AccessEndsChangeOnlyTheProgram :
    (let s := accessing (.program 8388607 [0x12]) 997000 base;
      s.settle = s ∧ s.flashSound
        ∧ s.array.busy = some { access := { client := .decoder, op := .program 8388607 [0x12] }, started := 997000 }
        ∧ 8388607 / 256 < 32768 ∧ s.now - 997000 ≤ 3000)
    ∧ (let s := accessing (.read 32767) 999960 base;
      s.settle = s
        ∧ s.array.busy = some { access := { client := .decoder, op := .read 32767 }, started := 999960 }) := by
  refine ⟨⟨settled (by decide), ?_, rfl, by decide, by decide⟩, settled (by decide), rfl⟩
  unfold State.flashSound; decide

/-- A state whose erase service is in a state. -/
def erasing (e : EraseService) (busy : List Access) (s : State) : State :=
  { s with array := { s.array with erase := e, waiting := busy } }

/-- A page read of the renderer. -/
def anAccess : Access := ⟨.renderer, .read 3⟩

/-- An erase of sector 4 that has run 1 ms. -/
def run (window suspension : Option Nat) : EraseRun := ⟨4, 0, 999000, window, suspension⟩

theorem witness_EraseServiceTakesItsSteps :
    (let s : State := { base with store := { base.store with eraseQueue := [2047], sectorMap := [(2047, .queued)] } };
      s.settle = s ∧ s.mode = .running ∧ s.store.eraseQueue = 2047 :: [] ∧ s.array.erase = .idle ∧ s.array.busy = none
        ∧ s.array.waiting = [])
    ∧ (base.settle = base ∧ base.store.eraseQueue = [])
    ∧ (let s := erasing (.erasing (run none (some 999970))) [anAccess] base;
      s.settle = s ∧ s.mode = .running ∧ s.array.erase = .erasing (run none (some 999970))
        ∧ (run none (some 999970)).suspension = some 999970 ∧ s.array.waiting = anAccess :: [])
    ∧ (let s := erasing (.erasing (run (some 1000000) none)) [anAccess] base;
      s.settle = s ∧ s.mode = .running ∧ s.array.erase = .erasing (run (some 1000000) none)
        ∧ (run (some 1000000) none).window = some 1000000)
    ∧ base.array.erase = .idle ∧ base.array.busy = none ∧ (accessing (.read 3) 0 base).array.busy ≠ none
    ∧ (erasing (.suspended 4 1000) [] base).array.erase = .suspended 4 1000 := by
  refine ⟨⟨?_, ?_⟩, ⟨?_, ?_⟩, ⟨?_, ?_⟩, ⟨?_, ?_⟩, ?_⟩
  all_goals decide +kernel

/-- An erase of 400,000 µs, of one more, of 499,999 and of 500,000. -/
theorem witness_EraseEndsFreeOrBad :
    let ran (accumulated : Nat) : EraseRun := { run none none with accumulated := accumulated }
    (let s := erasing (.erasing (run none (some 999970))) [anAccess] base;
      s.settle = s ∧ s.mode = .running ∧ s.array.erase = .erasing (run none (some 999970))
        ∧ (run none (some 999970)).suspension ≠ none)
    ∧ (∀ accumulated ∈ [399001, 498999],
      let s := erasing (.erasing (ran accumulated)) [] base;
      s.settle = s ∧ s.mode = .running ∧ s.array.erase = .erasing (ran accumulated)
        ∧ 400000 < (ran accumulated).accumulated + (s.now - (ran accumulated).since)
        ∧ (ran accumulated).accumulated + (s.now - (ran accumulated).since) < 500000)
    ∧ (let s := erasing (.erasing (ran 499000)) [] base;
      s.settle = s ∧ s.mode = .running ∧ s.array.erase = .erasing (ran 499000) ∧ (ran 499000).suspension = none
        ∧ (ran 499000).since ≤ s.now ∧ 500000 ≤ (ran 499000).accumulated + (s.now - (ran 499000).since))
    ∧ (let s := erasing (.erasing (ran 399000)) [] { base with flash := [(20479, 0)] };
      s.settle = s ∧ s.mode = .running ∧ s.array.erase = .erasing (ran 399000) ∧ (ran 399000).suspension = none
        ∧ (ran 399000).accumulated + (s.now - (ran 399000).since) ≤ 400000
        ∧ sectorErased (erasedBut s.flash 4 [(4095, 0)]) 4 = false ∧ sectorErased (erasedBut s.flash 4 []) 4 = true) := by
  decide +kernel

/-- The largest image, of number 999 and revision 65,535, at the end of the store. -/
theorem witness_HeaderIsReadBackAsProgrammed :
    let e : DirEntry :=
      { writingEntry with
        kind := .image, number := 999, revision := 65535, firstSector := 2032, extentLen := 16, bodyLen := 65504
        lock := true }
    Memory.wf [] = true ∧ (∀ i < 32, flashRead [] (2032 * 4096 + i) = 0xFF) ∧ (1 ≤ e.number ∧ e.number ≤ 999)
      ∧ (1 ≤ e.revision ∧ e.revision ≤ 65535) ∧ (1 ≤ e.bodyLen ∧ e.bodyLen ≤ largestBody e.kind)
      ∧ e.extentLen = extentOf e.bodyLen ∧ e.firstSector + e.extentLen ≤ 2048 ∧ 65535 < 65536 := by decide +kernel

/-! ### The Counter Table -/

/-- The body of a COUNTER_DEFINE of counter 64: width 1, DECIMAL, 0 to 9 from 9, step 9999, DOWN, HALT, REUSE. -/
def defineBody (width high : Byte) : List Byte :=
  [64, width, 0] ++ toBytes 8 0 ++ [0, 0, 0, 0, 0, 0, 0, high] ++ toBytes 8 9 ++ toBytes 2 9999 ++ [1, 1, 1]

/-- The definition it carries. -/
def defined : CounterDef :=
  { width := 1, alphabet := .decimal, low := 0, high := 9, start := 9, step := 9999, direction := .down
    endAction := .halt, policy := .reuse }

/-- A state with counter 64. -/
def lastCounter (c : Counter) (s : State) : State :=
  { s with battery := s.battery.withCounters (setCounter 64 c s.battery.counters) }

/-- A counter that cannot issue. -/
def spent : Counter := { wrapping 99 with state := .exhausted }

theorem witness_CounterRequestsRefusedOrTaken :
    (let b := defineBody 1 10;
      let s := asking 0x10 b base;
      Takes 0x10 b s ∧ (idOf b = none ∨ counterDefOf b = none))
    ∧ (let b := defineBody 1 9;
      let s := asking 0x10 b (lastCounter { spent with bound := 1 } base);
      Takes 0x10 b s ∧ idOf b = some 64 ∧ counterDefOf b = some defined
        ∧ (0 < (s.battery.counter 64).bound ∧ (defined.width ≠ (s.battery.counter 64).defn.width
          ∨ defined.alphabet ≠ (s.battery.counter 64).defn.alphabet)))
    ∧ (let b := defineBody 1 9;
      let s := asking 0x10 b (lastCounter (wrapping 50) base);
      Takes 0x10 b s ∧ idOf b = some 64 ∧ counterDefOf b = some defined ∧ (s.battery.counter 64).outstanding = []
        ∧ (s.battery.counter 64).bound = 0 ∧ (s.battery.counter 64).canIssue = true)
    ∧ (let b := defineBody 1 9;
      let s := asking 0x10 b (lastCounter spent base);
      Takes 0x10 b s ∧ idOf b = some 64 ∧ counterDefOf b = some defined ∧ (s.battery.counter 64).outstanding = []
        ∧ (s.battery.counter 64).bound = 0 ∧ (s.battery.counter 64).canIssue = false
        ∧ 64 ≤ s.battery.counters.length)
    ∧ (let b : List Byte := 65 :: toBytes 8 0;
      Takes 0x11 b (asking 0x11 b base) ∧ idOf b = none)
    ∧ (let b : List Byte := 64 :: toBytes 8 0;
      let s := asking 0x11 b base;
      Takes 0x11 b s ∧ idOf b = some 64 ∧ (s.battery.counter 64).state = .undefined)
    ∧ (let b : List Byte := 64 :: toBytes 8 0;
      let s := asking 0x11 b (lastCounter { spent with outstanding := [⟨98, 3, 1⟩] } base);
      Takes 0x11 b s ∧ idOf b = some 64 ∧ (s.battery.counter 64).state ≠ .undefined
        ∧ (s.battery.counter 64).outstanding ≠ [])
    ∧ (let b : List Byte := 64 :: toBytes 8 100;
      let s := asking 0x11 b (lastCounter spent base);
      Takes 0x11 b s ∧ idOf b = some 64 ∧ (s.battery.counter 64).state ≠ .undefined
        ∧ (s.battery.counter 64).outstanding = [] ∧ (s.battery.counter 64).defn.high < num b 1 8)
    ∧ (let b : List Byte := 64 :: toBytes 8 99;
      let s := asking 0x11 b (lastCounter (wrapping 50) base);
      Takes 0x11 b s ∧ idOf b = some 64 ∧ (s.battery.counter 64).state ≠ .undefined
        ∧ (s.battery.counter 64).outstanding = [] ∧ (s.battery.counter 64).defn.low ≤ num b 1 8
        ∧ num b 1 8 ≤ (s.battery.counter 64).defn.high ∧ (s.battery.counter 64).canIssue = true)
    ∧ (let b : List Byte := 64 :: toBytes 8 0;
      let s := asking 0x11 b (lastCounter spent base);
      Takes 0x11 b s ∧ idOf b = some 64 ∧ (s.battery.counter 64).state ≠ .undefined
        ∧ (s.battery.counter 64).outstanding = [] ∧ (s.battery.counter 64).defn.low ≤ num b 1 8
        ∧ num b 1 8 ≤ (s.battery.counter 64).defn.high ∧ (s.battery.counter 64).canIssue = false
        ∧ 64 ≤ s.battery.counters.length) := by
  refine ⟨⟨?_, ?_⟩, ⟨?_, ?_⟩, ⟨?_, ?_⟩, ⟨?_, ?_⟩, ⟨?_, ?_⟩, ⟨?_, ?_⟩, ⟨?_, ?_⟩, ⟨?_, ?_⟩, ⟨?_, ?_⟩, ?_, ?_⟩
  all_goals first
    | decide +kernel
    | exact takes (by decide +kernel)

theorem witness_CounterRequestsRefusedOrTaken_rest :
    (Takes 0x12 [0] (asking 0x12 [0] base) ∧ idOf [0] = none)
    ∧ (let s := asking 0x12 [64] base;
      Takes 0x12 [64] s ∧ idOf [64] = some 64 ∧ (s.battery.counter 64).state = .undefined)
    ∧ (let s := asking 0x12 [64] (lastCounter { spent with bound := 1 } base);
      Takes 0x12 [64] s ∧ (s.battery.counter 64).state ≠ .undefined ∧ 0 < (s.battery.counter 64).bound)
    ∧ (let s := asking 0x12 [64] (lastCounter spent base);
      Takes 0x12 [64] s ∧ (s.battery.counter 64).state ≠ .undefined ∧ (s.battery.counter 64).bound = 0
        ∧ (s.battery.counter 64).outstanding = [])
    ∧ (Takes 0x13 [65] (asking 0x13 [65] base) ∧ idOf [65] = none)
    ∧ (let s := asking 0x13 [1] base;
      Takes 0x13 [1] s ∧ idOf [1] = some 1 ∧ (s.battery.counter 1).state = .undefined)
    ∧ (let s := asking 0x13 [1] (counting full base);
      Takes 0x13 [1] s ∧ (s.battery.counter 1).state ≠ .undefined)
    ∧ (Takes 0x14 [65] (asking 0x14 [65] base) ∧ idOf [65] = none)
    ∧ Takes 0x14 [1] (asking 0x14 [1] (counting full base)) := by
  refine ⟨⟨?_, ?_⟩, ⟨?_, ?_⟩, ⟨?_, ?_⟩, ⟨?_, ?_⟩, ⟨?_, ?_⟩, ⟨?_, ?_⟩, ⟨?_, ?_⟩, ⟨?_, ?_⟩, ?_⟩
  all_goals first
    | decide +kernel
    | exact takes (by decide +kernel)

theorem witness_CounterIssuesAndAdvances :
    let down : Counter := { seven 504 [] [] with defn := { (seven 504 [] []).defn with direction := .down } }
    (full.returns = 0 :: [1, 2, 3, 4, 5, 6, 99] ∧ (seven 515 [] []).returns = [] ∧ (seven 515 [] []).state = .active
      ∧ spent.returns = [] ∧ spent.state ≠ .active)
    ∧ ((seven 515 [] []).defn.direction = .up ∧ 515 + 5 ≤ (seven 515 [] []).defn.high)
    ∧ (down.defn.direction = .down ∧ down.current < down.defn.low + down.defn.step
      ∧ down.defn.low + down.defn.step ≤ { down with current := 505 }.current ∧ down.defn.endAction = .halt)
    ∧ (100 ≤ 91 + (wrapping 91).defn.step ∧ (wrapping 91).defn.endAction = .wrap)
    ∧ (let c : Counter := { wrapping 99 with defn := { (wrapping 99).defn with step := 100 } };
      c.defn.low ≤ c.defn.start ∧ c.defn.start ≤ c.defn.high ∧ c.defn.low ≤ c.current ∧ c.current ≤ c.defn.high
        ∧ c.defn.high - c.defn.low < c.defn.step) := by decide

theorem witness_ReturnsKeepOrDropEachValue :
    full.defn.policy = .gap ∧ { full with defn := (seven 500 [] []).defn }.defn.policy = .reuse := by decide

/-! ### The Job Queue -/

/-- A JOB_SUBMIT body of a tag and a quantity, for format 7. -/
def submitBody (tag quantity : Byte) : List Byte := [0, tag, 0, 7, 0, quantity, 1, 0, 0, 0, 0, 0, 0, 0, 0]

/-- The items it carries. -/
def submitted (tag : Nat) : JobItems := { (job tag).items with quantity := 1 }

theorem witness_JobSubmitRefusedOrRead :
    (let s := asking 0x22 (submitBody 3 0) base;
      Takes 0x22 (submitBody 3 0) s ∧ jobItemsOf (submitBody 3 0) = .error .badValue)
    ∧ (let s := asking 0x22 (submitBody 99 1) (queued ((List.range 32).map job) [] base);
      Takes 0x22 (submitBody 99 1) s ∧ jobItemsOf (submitBody 99 1) = .ok (submitted 99)
        ∧ 32 ≤ s.queue.jobs.length)
    ∧ (let s := asking 0x22 (submitBody 3 1) (queued ((List.range 31).map job) [] base);
      Takes 0x22 (submitBody 3 1) s ∧ jobItemsOf (submitBody 3 1) = .ok (submitted 3) ∧ s.queue.jobs.length < 32
        ∧ ∃ j ∈ s.queue.jobs, j.items.tag = (submitted 3).tag)
    ∧ (let s := asking 0x22 (submitBody 3 1) base;
      Takes 0x22 (submitBody 3 1) s ∧ jobItemsOf (submitBody 3 1) = .ok (submitted 3) ∧ s.queue.jobs.length < 32
        ∧ (∀ j ∈ s.queue.jobs, j.items.tag ≠ (submitted 3).tag) ∧ s.store.live .format (submitted 3).format = none)
    ∧ (let s := asking 0x22 (submitBody 99 1) (stored liveEntry (queued ((List.range 31).map job) [] base));
      Takes 0x22 (submitBody 99 1) s ∧ jobItemsOf (submitBody 99 1) = .ok (submitted 99) ∧ s.queue.jobs.length < 32
        ∧ (∀ j ∈ s.queue.jobs, j.items.tag ≠ (submitted 99).tag)
        ∧ s.store.live .format (submitted 99).format = some liveEntry ∧ bodyPages 5 0 40 = 80 :: []) := by
  have items_eq : ∀ {tag : Nat} {b : List Byte},
      (match jobItemsOf b with | .ok i => decide (i = submitted tag) | .error _ => false) = true →
        jobItemsOf b = .ok (submitted tag) := by
    intro tag b h
    split at h
    · rename_i i he; rw [he, of_decide_eq_true h]
    · cases h
  have bad : ∀ {b : List Byte}, (match jobItemsOf b with | .ok _ => false | .error r => decide (r = .badValue)) = true →
      jobItemsOf b = .error .badValue := by
    intro b h
    split at h
    · cases h
    · rename_i r he; rw [he, of_decide_eq_true h]
  refine ⟨⟨?_, bad (by decide +kernel)⟩, ⟨?_, items_eq (by decide +kernel), ?_⟩,
    ⟨?_, items_eq (by decide +kernel), ?_⟩, ⟨?_, items_eq (by decide +kernel), ?_⟩,
    ?_, items_eq (by decide +kernel), ?_⟩
  all_goals first
    | decide +kernel
    | exact takes (by decide +kernel)

theorem witness_SubmittedJobIsCheckedAndBound :
    (shop.dec.kind = byte 0x22 ∧ shop.liveFormat (slotItems "407") = parseFormat formatBody
      ∧ (parseFormat formatBody).fields.drop 0 = barcodeField :: []
      ∧ (∃ refs store, shop.store.bind ((RecKind.format, 7) :: (parseFormat formatBody).records) = .ok (refs, store))
      ∧ firstUndefined (parseFormat formatBody).counterSet shop.battery = none)
    ∧ ((job 3).items.priority = .normal ∧ { (job 3).items with priority := .rush }.priority = .rush)
    ∧ (imageField.kind = .image 9 1 ∧ shop.store.live .image 9 = none
      ∧ (stored { liveEntry with kind := .image, number := 9 } base).store.live .image 9 ≠ none)
    ∧ (textField.kind = .text 1 1 1 0 [.counter 1] ∧ shop.countersDefined [.counter 1] = false
      ∧ (counting full shop).countersDefined [.counter 1] = true)
    ∧ (barcodeField.kind = .barcode 3 2 40 25 1 10 true 0 [.slot 5] ∧ shop.countersDefined [.slot 5] = true
      ∧ shop.store.live .table 3 = some tableEntry ∧ bodyPages 6 0 tableEntry.bodyLen = 96 :: []
      ∧ base.store.live .table 3 = none
      ∧ barcodeRefusal shop.battery (slotItems "407") (parseFormat formatBody) (parseTable (shop.entryBody tableEntry))
          barcodeField = none
      ∧ barcodeRefusal shop.battery (slotItems "40A") (parseFormat formatBody) (parseTable (shop.entryBody tableEntry))
          barcodeField = some .badData) := by
  have bound : (match shop.store.bind ((RecKind.format, 7) :: (parseFormat formatBody).records) with
      | .ok _ => true | .error _ => false) = true := by decide +kernel
  refine ⟨⟨by decide, by decide +kernel, by decide +kernel, ?_, by decide +kernel⟩, by decide, ⟨rfl, ?_⟩, ⟨rfl, ?_⟩,
    rfl, ?_⟩
  · split at bound
    · exact ⟨_, _, by assumption⟩
    · cases bound
  all_goals decide +kernel

theorem witness_JobHeldReleasedAndReprinted :
    Takes 0x20 [0, 3] (asking 0x20 [0, 3] base)
    ∧ (let s := asking 0x20 [0, 3] (queued [job 3] [] base);
      Takes 0x20 [0, 3] s ∧ s.queue.job (num [0, 3] 0 2) = some (job 3))
    ∧ (let s := asking 0x21 [0, 3] base;
      Takes 0x21 [0, 3] s ∧ s.queue.job (num [0, 3] 0 2) = none)
    ∧ (let s := asking 0x21 [0, 3] (queued [job 3] [] base);
      Takes 0x21 [0, 3] s ∧ s.queue.job (num [0, 3] 0 2) = some (job 3) ∧ (job 3).holdOperator = false)
    ∧ (let s := asking 0x21 [0, 3] (queued [{ job 3 with holdOperator := true }] [] base);
      Takes 0x21 [0, 3] s ∧ s.queue.job (num [0, 3] 0 2) = some { job 3 with holdOperator := true }) := by
  refine ⟨?_, ⟨?_, ?_⟩, ⟨?_, ?_⟩, ⟨?_, ?_⟩, ?_, ?_⟩
  all_goals first
    | decide +kernel
    | exact takes (by decide)

/-- A last-label record. -/
def lastLabel : LastLabel :=
  { tag := 3, label := 1, copies := 1, entries := [liveEntry.ref], slots := [], shiftX := 0, shiftY := 0, darkness := 0
    speed := 0, values := [] }

/-- The queue of a state with jobs and tickets, a reprint pending or not. -/
def choosing (jobs : List Job) (tickets : List Ticket) (reprint : Bool) : State :=
  let s := queued jobs tickets base
  { s with queue := { s.queue with last := some lastLabel, reprint := reprint } }

/-- A full list and one with a ticket not rendered whole; three tickets rendered whole; each source; and a draw of two
counters that succeeds, the first issuing a returned value, and one that fails at the second. -/
theorem witness_LabelBoundaryChoosesAndCreates :
    let held := { job 2 with holdOperator := true }
    let spoken := { job 4 with state := .running, items := { (job 4).items with noInterrupt := true } }
    let last := { job 3 with nextLabel := 2 }
    let opened := { job 3 with openGroup := some ⟨1, 2⟩ }
    let used : Counter := seven 515 [] [⟨510, 3, 1⟩]
    (4 ≤ (queued [] (List.replicate 4 (ticket 3 1 .ready)) base).queue.tickets.length
      ∧ ∃ k ∈ (queued [job 3] [ticket 3 0 .rendering] base).queue.tickets, k.whole = false)
    ∧ (let s := queued [job 3] (List.replicate 3 (ticket 3 1 .ready)) base;
      s.queue.tickets.length < 4 ∧ ∀ k ∈ s.queue.tickets, k.whole = true)
    ∧ (let q := (choosing [held, opened] [] true).queue;
      q.jobs = [held] ++ opened :: [] ∧ (∀ k ∈ [held], k.openGroup = none) ∧ opened.openGroup = some ⟨1, 2⟩)
    ∧ (let q := (choosing [held] [] true).queue;
      (∀ j ∈ q.jobs, j.openGroup = none) ∧ q.reprint = true ∧ q.tickets = [] ∧ q.last = some lastLabel)
    ∧ (let q := (choosing [held] [ticket 3 1 .ready] true).queue;
      (∀ j ∈ q.jobs, j.openGroup = none) ∧ q.reprint = true ∧ q.tickets ≠ [])
    ∧ (let q := (choosing [job 3, spoken] [] false).queue;
      (∀ j ∈ q.jobs, j.openGroup = none) ∧ q.reprint = false ∧ q.jobs = [job 3] ++ spoken :: [] ∧ spoken.supplies
        ∧ spoken.state = .running ∧ spoken.items.noInterrupt = true ∧ ∀ k ∈ [job 3], k.state ≠ .running)
    ∧ (let q := (choosing [held, last] [] false).queue;
      (∀ j ∈ q.jobs, j.openGroup = none) ∧ q.reprint = false ∧ q.jobs = [held] ++ last :: [] ∧ last.supplies
        ∧ (∀ k ∈ q.jobs, k.state = .running → k.items.noInterrupt = false ∨ ¬ k.supplies)
        ∧ ∀ k ∈ [held], ¬ k.supplies)
    ∧ (let q := (choosing [held, { job 3 with nextLabel := 3 }] [] false).queue;
      (∀ j ∈ q.jobs, j.openGroup = none) ∧ q.reprint = false ∧ ∀ j ∈ q.jobs, ¬ j.supplies)
    ∧ ((choosing [held, opened] [] true).queue.choose = .copy 3 1 2 1 []
      ∧ (choosing [held] [] true).queue.choose = .reprint lastLabel
      ∧ (choosing [held] [] false).queue.choose = .nothing ∧ (choosing [held, last] [] false).queue.choose = .group last)
    ∧ drawGroup 3 1 [1, 2] [] [seven 515 [510] [], wrapping 90]
      = .issued [⟨1, 510, 4, .decimal⟩, ⟨2, 90, 2, .decimal⟩]
          [used, { wrapping 50 with outstanding := [⟨90, 3, 1⟩] }]
    ∧ drawGroup 3 1 [1, 2] [] [seven 515 [510] [], spent] = .failed 2 (returnGroups [(3, 1)] [used, spent]) := by
  unfold Job.supplies
  decide +kernel

/-- A job with three groups that have values outstanding: the first not burned, the second with its first copy gone, and
the third with the PRINTING ticket; its first ticket drawn or another's. -/
def cancelling (hand : TicketKey) : State :=
  let third := { ticket 3 1 .printing with key := ⟨some 3, 3, 1⟩, burned := true }
  let s := counting { full with outstanding := [⟨96, 3, 1⟩, ⟨97, 3, 2⟩, ⟨98, 3, 3⟩] }
    (queued [job 3, job 4] [third, ticket 3 0 .rendering, ticket 4 0 .rendering] base)
  { s with
    render := { s.render with hand := some { ticket := hand, band := 0, buffer := 1, pagesLeft := [], reading := true } } }

theorem witness_JobCancelDiscardsAndEnds :
    (Takes 0x23 [2, 0, 3] (asking 0x23 [2, 0, 3] base) ∧ 1 < num [2, 0, 3] 0 1)
    ∧ Takes 0x23 [0, 0, 0] (asking 0x23 [0, 0, 0] base)
    ∧ (let s := asking 0x23 [0, 0, 3] base;
      Takes 0x23 [0, 0, 3] s ∧ num [0, 0, 3] 0 1 = 0 ∧ num [0, 0, 3] 1 2 ≠ 0 ∧ s.queue.job 3 = none)
    ∧ (let s := asking 0x23 [0, 0, 3] (queued [{ job 3 with cancelled := true }] [] base);
      Takes 0x23 [0, 0, 3] s ∧ s.queue.job 3 = some { job 3 with cancelled := true })
    ∧ (let s := asking 0x23 [0, 0, 3] (cancelling ⟨some 3, 1, 1⟩);
      Takes 0x23 [0, 0, 3] s ∧ s.queue.job 3 = some (job 3) ∧ (job 3).state ≠ .ending ∧ (job 3).cancelled = false)
    ∧ (let s := asking 0x23 [1, 0, 0] (cancelling ⟨some 3, 1, 1⟩);
      Takes 0x23 [1, 0, 0] s ∧ num [1, 0, 0] 0 1 = 1
        ∧ (s.queue.jobs.filter Job.cancellable).map (fun j => j.items.tag) = [3, 4])
    ∧ (let s := cancelling ⟨some 3, 1, 1⟩;
      s.queue.job 3 = some (job 3) ∧ s.queue.discards 3 = [⟨some 3, 1, 1⟩] ∧ unsettled 3 s.battery.counters = [1, 2, 3]
        ∧ ([1, 2, 3].filter fun l => !s.queue.groupBurned 3 l) = [1]
        ∧ ([1, 2, 3].filter fun l => s.queue.groupBurned 3 l && !s.queue.groupPrinting 3 l) = [2]
        ∧ ∃ h, s.render.hand = some h ∧ h.ticket ∈ s.queue.discards 3)
    ∧ (let s := cancelling ⟨some 4, 1, 1⟩; ∀ h, s.render.hand = some h → h.ticket ∉ s.queue.discards 3)
    ∧ (queued [job 3] [] base).queue.job 3 = some (job 3) := by
  refine ⟨⟨?_, ?_⟩, ?_, ⟨?_, ?_⟩, ⟨?_, ?_⟩, ⟨?_, ?_⟩, ⟨?_, ?_⟩,
    ⟨by decide +kernel, by decide +kernel, by decide +kernel, by decide +kernel, by decide +kernel, _, rfl, ?_⟩,
    all_some (by decide +kernel), ?_⟩
  all_goals first
    | decide +kernel
    | exact takes (by decide +kernel)

/-- A state with a last-label record, a reprint pending or not, and tickets. -/
def reprinting (reprint : Bool) (tickets : List Ticket) : State :=
  { base with queue := { base.queue with last := some lastLabel, reprint := reprint, tickets := tickets } }

/-- A reprint's ticket. -/
def reprintTicket : Ticket := { ticket 3 1 .printing with key := { source := none, label := 1, copy := 1 } }

theorem witness_JobHeldReleasedAndReprinted_reprint :
    (Takes 0x26 [] (asking 0x26 [] base) ∧ base.queue.last = none)
    ∧ (Takes 0x26 [] (asking 0x26 [] (reprinting true [])) ∧ (reprinting true []).queue.last ≠ none
      ∧ (reprinting true []).queue.reprint = true)
    ∧ (Takes 0x26 [] (asking 0x26 [] (reprinting false [])) ∧ (reprinting false []).queue.last ≠ none
      ∧ (reprinting false []).queue.reprint = false ∧ (reprinting false []).queue.reprintTicket = false)
    ∧ (Takes 0x27 [] (asking 0x27 [] (reprinting false [reprintTicket]))
      ∧ (reprinting false [reprintTicket]).queue.reprintTicket = true)
    ∧ (Takes 0x27 [] (asking 0x27 [] base) ∧ base.queue.reprintTicket = false ∧ base.queue.last = none)
    ∧ (Takes 0x27 [] (asking 0x27 [] (reprinting true [])) ∧ (reprinting true []).queue.reprintTicket = false
      ∧ (reprinting true []).queue.last = some lastLabel) := by
  refine ⟨⟨?_, ?_⟩, ⟨?_, ?_⟩, ⟨?_, ?_⟩, ⟨?_, ?_⟩, ⟨?_, ?_⟩, ?_, ?_⟩
  all_goals first
    | decide +kernel
    | exact takes (by decide)

/-- A state with the oldest ENDING job and the output queue filled but for some bytes. -/
def ending (room : Nat) : State :=
  let s := queued [{ job 3 with state := .ending, outcome := some .done }] [] base
  { s with
    queue := { s.queue with ending := [3] }
    line := { s.line with output := List.replicate (s.freeRoom - room) 0 } }

/-- A state with an ENGINE notice pending and the output queue filled but for some bytes. -/
def noticing (room : Nat) : State :=
  { base with
    media := { base.media with notice := some ⟨.fault, 1, .idle, 0, 256, 1⟩ }
    line := { base.line with output := List.replicate (base.freeRoom - room) 0 } }

/-- Each with exactly the room its notice takes, and one byte short of it. -/
theorem witness_ReadyAndNoticesArePlaced :
    let j : Job := { job 3 with state := .ending, outcome := some .done }
    ((ready 50).mode = .startUp (.ready 1 0) ∧ (ready 50).battery.drops.length ≤ 50
      ∧ 50 < (ready 51).battery.drops.length)
    ∧ ((ending (jobEndFrame j).length).queue.ending = 3 :: [] ∧ (ending (jobEndFrame j).length).queue.job 3 = some j
      ∧ (ending (jobEndFrame j).length).mode = .running ∧ (ending (jobEndFrame j).length).line.restart = none
      ∧ (jobEndFrame j).length ≤ (ending (jobEndFrame j).length).freeRoom
      ∧ (ending ((jobEndFrame j).length - 1)).freeRoom < (jobEndFrame j).length)
    ∧ (let n : EngineNotice := ⟨.fault, 1, .idle, 0, 256, 1⟩;
      (noticing (engineFrame n).length).media.notice = some n ∧ (noticing (engineFrame n).length).mode = .running
        ∧ (noticing (engineFrame n).length).line.restart = none ∧ (noticing (engineFrame n).length).queue.ending = []
        ∧ (engineFrame n).length ≤ (noticing (engineFrame n).length).freeRoom
        ∧ (noticing ((engineFrame n).length - 1)).freeRoom < (engineFrame n).length) := by decide +kernel

/-! ### Record contents -/

/-- A pass that has reached an item at an offset. -/
def reached (item : Item) (offset : Nat) : Pass := { Pass.begin .table with item := item, offset := offset }

/-- Every item; the last parameters of a BARCODE field; a gap of each verdict; a number and a list at a body's end. -/
theorem witness_RecordBodiesAreValidated :
    (∀ item : Item, (reached item 9).item = item)
    ∧ (let p : Pass := { reached .param 40 with kindCode := 2, paramIndex := 7 };
      p.item = .param ∧ 1 ≤ p.kindCode ∧ p.kindCode ≤ 5
        ∧ ([(2, 1, 999), (1, 1, 10), (2, 8, 4000), (1, 20, 30), (1, 0, 3), (1, 0, 20), (1, 0, 1), (2, 0, 832)]
          : List (Nat × Nat × Nat))[p.paramIndex]? = some (2, 0, 832))
    ∧ (∀ code ∈ [1, 2, 3], { reached .part 40 with partCode := code }.partCode = code)
    ∧ (let p : Pass := { reached .gap 2 with modelCode := 1, perCharCount := 4 };
      p.item = .gap ∧ 2 < p.offset + 1 ∧ p.offset + 1 ≤ 3 ∧ (num [1] 0 1 = 1 ∧ ¬ p.perCharCount % 2 = 1)
        ∧ 3 < num [4] 0 1 ∧ num [0] 0 1 = 0 ∧ p.perCharCount % 2 = 0)
    ∧ (let p : Pass := { reached .gap 2 with modelCode := 2, perCharCount := 5 };
      p.item = .gap ∧ p.modelCode ≠ 1 ∧ num [3] 0 1 ≤ 3 ∧ num [3] 0 1 ≠ 0 ∧ p.perCharCount % 2 = 1)
    ∧ (let p : Pass := { reached .entryElements 20 with modelCode := 1, perCharCount := 3 };
      p.item = .entryElements ∧ 22 < p.offset + p.perCharCount ∧ p.offset + p.perCharCount ≤ 23
        ∧ p.perCharCount ≤ [(1 : Byte), 2, 3].length
        ∧ (∃ b ∈ [(1 : Byte), 2, 3].take p.perCharCount, ¬ (1 ≤ b.toNat ∧ b.toNat ≤ 2))
        ∧ ∀ b ∈ [(1 : Byte), 2, 2].take p.perCharCount, 1 ≤ b.toNat ∧ b.toNat ≤ 2) :=
  ⟨fun _ => rfl, by decide, by decide, by decide, by decide, by decide⟩

/-! ### Rendering and burning -/

/-- A state whose renderer draws the next band of a ticket into buffer 0, its pages read or not. -/
def drawing (t : Ticket) (pages : List Nat) : State :=
  let s := queued [job 3] [t] base
  { s with
    render :=
      { buffers := { state := .filling, ticket := some t.key, band := t.rendered, lines := 64, dots := [] }
          :: List.replicate 5 Buffer.empty
        hand := some { ticket := t.key, band := t.rendered, buffer := 0, pagesLeft := pages, reading := false } } }

/-- A ticket of 300 lines, five bands, some of them rendered. -/
def longTicket (rendered : Nat) (state : TicketState) : Ticket :=
  { ticket 3 rendered state with length := some 300 }

/-- Whether a drawn band makes a ticket READY. -/
def becomesReady (t : Ticket) : Prop := t.state = .rendering ∧ t.rendered + 1 = startingBands (t.length.getD 0)

/-- A part with the example's records and a ticket of it not rendered, its buffers taken but for the last. -/
def taking (t : Ticket) (free : Nat) : State :=
  let s := queued [{ job 3 with entries := [formatEntry.ref, tableEntry.ref] }] [ticket 4 1 .ready, t] shop
  { s with
    render :=
      { buffers := List.replicate free { Buffer.empty with state := .complete } ++ List.replicate (6 - free) Buffer.empty
        hand := none } }

/-- A state whose renderer has a page read in progress, for the band in hand or for none. -/
def fetching (client : Client) (pages : List Nat) : State :=
  let s := drawing (longTicket 0 .rendering) pages
  { s with
    render := { s.render with hand := s.render.hand.map fun h => { h with reading := true } }
    array := { s.array with busy := some { access := { client := client, op := .read 32767 }, started := 999960 } } }

/-- A ticket of which no band has been taken up. -/
def fresh : Ticket := { ticket 3 0 .rendering with length := none }

/-- What the statement about a band drawn asks of its state. -/
def BandEnds (s : State) (t : Ticket) : Prop :=
  s.settle = s ∧ s.mode = .running ∧ (s.render.hand.map Hand.pagesLeft = some [] ∧ s.render.hand.map Hand.reading = some false)
    ∧ (s.render.hand.bind fun h => s.queue.ticket h.ticket) = some t

/-- The renderer takes the last buffer at a ticket's band 0 and at its last, or none; it reads a page of several and the
last; bands drawn that leave a ticket RENDERING, make it READY, and complete a PRINTING one. -/
theorem witness_BandBuffersAreTakenAndCompleted :
    (∀ t ∈ [fresh, longTicket 4 .printing],
      let s := taking t 5;
      s.render.hand = none ∧ s.queue.tickets = [ticket 4 1 .ready] ++ t :: [] ∧ (∀ k ∈ [ticket 4 1 .ready], k.whole = true)
        ∧ t.whole = false ∧ 5 < s.render.buffers.length ∧ (s.render.buffers.getD 5 Buffer.empty).state = .free
        ∧ ∀ k < 5, (s.render.buffers.getD k Buffer.empty).state ≠ .free)
    ∧ (∀ b ∈ (taking fresh 6).render.buffers, b.state ≠ .free)
    ∧ (∀ k ∈ (queued [job 3] [ticket 4 1 .ready] base).queue.tickets, k.whole = true)
    ∧ (drawing fresh []).render.hand ≠ none
    ∧ (let s := fetching .renderer [81];
      s.settle = s ∧ 32767 < 32768 ∧ s.mode = .running
        ∧ s.array.busy = some { access := { client := .renderer, op := .read 32767 }, started := 999960 }
        ∧ s.render.hand.map Hand.pagesLeft = some (81 :: []))
    ∧ (let s := fetching .renderer [];
      s.settle = s ∧ s.mode = .running
        ∧ s.array.busy = some { access := { client := .renderer, op := .read 32767 }, started := 999960 }
        ∧ s.render.hand.map Hand.pagesLeft = some [])
    ∧ (let s := fetching .orphan [];
      s.settle = s ∧ s.mode = .running
        ∧ s.array.busy = some { access := { client := .orphan, op := .read 32767 }, started := 999960 })
    ∧ (BandEnds (drawing (longTicket 0 .rendering) []) (longTicket 0 .rendering)
      ∧ ¬ becomesReady (longTicket 0 .rendering) ∧ (longTicket 0 .rendering).state ≠ .printing)
    ∧ (BandEnds (drawing (longTicket 1 .rendering) []) (longTicket 1 .rendering) ∧ becomesReady (longTicket 1 .rendering))
    ∧ (BandEnds (drawing (longTicket 4 .printing) []) (longTicket 4 .printing)
      ∧ (longTicket 4 .printing).state = .printing)
    ∧ (base.settle = base ∧ base.render.hand = none)
    ∧ (let s := drawing (longTicket 0 .rendering) [3];
      s.settle = s ∧ (s.render.hand.map fun h => decide (h.pagesLeft ≠ [])) = some true)
    ∧ 43 < min 64 (236 - 64 * 3) ∧ 831 < 832 := by
  unfold BandEnds becomesReady
  refine ⟨?_, ?_, ?_, ?_, ?_, ?_, ?_, ?_, ?_, ?_, ?_, ?_, ?_⟩
  all_goals decide +kernel

/-- A digit table of each check rule, its data and what a source of them can produce; a bar with a reduction; a barcode
field. -/
theorem witness_BarcodeIsLaidOutFromItsTable :
    ([52, 48, 55][1]? = some 48 ∧ tableS3.byCode 48 = some ⟨48, 0, [2, 2, 1, 1, 1]⟩)
    ∧ ({ tableS3 with rule := .none } : SymbolTable).rule = .none
    ∧ (tableS3.rule = .rightWeighted ∧ 0 < tableS3.modulus)
    ∧ ({ tableS3 with rule := .leftPositional } : SymbolTable).rule = .leftPositional
    ∧ (tableS3.checkValue [52, 48, 55] = some 7 ∧ tableS3.byValue 7 = some ⟨55, 7, [1, 1, 2, 2, 1]⟩)
    ∧ (1 ≤ 1 ∧ (∀ p ∈ [[2, 1, 1]], ∀ e ∈ p, 1 ≤ e) ∧ (0, 3) ∈ symbolBars 1 1 30 (clampReduction 7 1) 0 0 [[2, 1, 1]])
    ∧ List.Forall₂ (fun c p => p = .known c ∨ ∃ a, p = .any a ∧ c ∈ alphabetChars a) [52, 57]
        [CanProduce.known 52, CanProduce.any .decimal]
    ∧ ∃ f : Field, f.kind = .barcode 3 2 40 25 1 10 true 0 [.slot 1] := by
  refine ⟨by decide, rfl, by decide, rfl, by decide, by decide, ?_, ⟨1, 100, 50, 0, .set, _⟩, rfl⟩
  exact .cons (.inl rfl) (.cons (.inr ⟨_, rfl, by decide⟩) .nil)

/-- A job of 75 mm/s, whose label slows once and then stands at the floor; and a reprint. -/
theorem witness_LabelValuesAreFixedAtLabelStart :
    (let j : Job := { job 3 with items := { (job 3).items with darkness := -5, speed := 75 } };
      let s := queued [j] [ticket 3 1 .ready] base;
      s.queue.tickets = [ticket 3 1 .ready]
        ∧ ((ticket 3 1 .ready).key.source = some 3 ∧ s.queue.job 3 = some j ∧ -5 = j.items.darkness ∧ 75 = j.items.speed)
        ∧ 75 = (if 75 = 0 then (s.ticketFormat (ticket 3 1 .ready)).speed else 75))
    ∧ ((reprinting false [reprintTicket]).queue.tickets = [reprintTicket] ∧ reprintTicket.key.source = none
      ∧ (reprinting false [reprintTicket]).queue.last = some lastLabel ∧ 0 = lastLabel.darkness ∧ 0 = lastLabel.speed)
    ∧ ((65 : Int) ≤ 65 ∧ 50 < 75 - 25 * 0 ∧ 75 - 25 * 1 ≤ 50) ∧ (60 : Int) ≤ 60 ∧ (60 : Int) < 61 ∧ (64 : Int) < 65 := by
  decide

/-- A head at the lowest supply that burns, and one below it; a history with dots of every class. -/
theorem witness_PulsesOfALineAreComputed :
    let t := ticket 3 1 .printing
    let s := printing 63 base
    let good := { s with burn := { s.burn with theta := 74, supply := 180, previous := [1, 2], before := [2, 3] } }
    let low := { s with burn := { s.burn with supply := 179 } }
    (good.printing = some t ∧ good.burn.values = some values ∧ good.lineBuffer t 63 = some 0 ∧ good.burn.theta < 75
      ∧ ((60 : Nat) : Int) = max 0 (min 60 good.burn.theta) ∧ 200 = max 200 (min 260 good.burn.supply)
      ∧ 180 ≤ good.burn.supply)
    ∧ (low.printing = some t ∧ low.burn.values = some values ∧ low.lineBuffer t 63 = some 0 ∧ low.burn.theta < 75
      ∧ low.burn.supply < 180)
    ∧ (let b := good.burn.afterStop good.now;
      (0 ∉ b.previous ∧ 0 ∉ b.before) ∧ (3 ∉ b.previous ∧ 3 ∈ b.before) ∧ (1 ∈ b.previous ∧ 1 ∉ b.before)
        ∧ (2 ∈ b.previous ∧ 2 ∈ b.before))
    ∧ (values.darkness ≤ 30 ∧ ∀ h ∈ [values.h1, values.h2, values.h3], 4 ≤ h ∧ h ≤ 16) := by
  decide

/-- The three checks of a line start failed at their bounds, and all passed at theirs; a stop of 20 ms. -/
theorem witness_LineStartHoldsOrLoads :
    let t := ticket 3 1 .printing
    let hot := { printing 0 base with burn := { (printing 0 base).burn with theta := 75, supply := 179 } }
    let good :=
      { printing 63 base with
        burn := { (printing 63 base).burn with theta := 74, supply := 180, lastLineEnd := some 980000 } }
    (hot.printing = some t ∧ hot.burn.values = some values ∧ 75 ≤ hot.burn.theta ∧ hot.burn.supply < 180)
    ∧ (hot.lineBuffer t 64).isNone = true
    ∧ (good.printing = some t ∧ good.burn.values = some values ∧ good.lineBuffer t 63 = some 0 ∧ good.burn.theta < 75
      ∧ 180 ≤ good.burn.supply ∧ ∃ e, good.burn.lastLineEnd = some e ∧ 20000 ≤ good.now - e) := by
  decide

/-- A state with a line in hand. -/
def burning (l : LineInHand) : State :=
  let s := printing 0 base
  { s with
    burn := { s.burn with line := some l }
    media := { s.media with labelLine := .burning l.number } }

theorem witness_LineGoesThroughItsStages :
    let t := ticket 3 1 .printing
    (let s := burning (lineInHand 62 .loading);
      s.settle = s ∧ s.mode = .running ∧ s.burn.line = some (lineInHand 62 .loading)
        ∧ (lineInHand 62 .loading).stage = .loading ∧ s.printing = some t ∧ lastOfBand 62 (t.length.getD 0) = false)
    ∧ (let s := burning (lineInHand 63 .loading);
      s.settle = s ∧ s.mode = .running ∧ s.burn.line = some (lineInHand 63 .loading) ∧ s.printing = some t
        ∧ lastOfBand 63 (t.length.getD 0) = true ∧ s.lineBuffer t 63 = some 0)
    ∧ (let s := burning (lineInHand 63 (.phase 2));
      s.settle = s ∧ s.mode = .running ∧ s.burn.line = some (lineInHand 63 (.phase 2))
        ∧ (lineInHand 63 (.phase 2)).stage = .phase 2 ∧ (lineInHand 63 (.phase 2)).stage ≠ .loading
        ∧ (lineInHand 63 (.phase 2)).stage ≠ .waiting)
    ∧ (let s := burning (lineInHand 63 .waiting);
      s.settle = s ∧ s.mode = .running ∧ s.burn.line = some (lineInHand 63 .waiting)
        ∧ (lineInHand 63 .waiting).stage = .waiting ∧ s.burn.values = some values)
    ∧ (∀ n ∈ [0, 256, 257],
      let l := { lineInHand 63 .loading with
        phases := phaseCount n, dots := (List.range n).map fun dot => { dot := dot, pulse := 300 } };
      (burning l).burn.line = some l ∧ l.phases = phaseCount l.dots.length ∧ l.phases ≤ 2)
    ∧ (let l := lineInHand 63 (.phase 1);
      let s := { burning l with now := 1000359 };
      s.settle = s ∧ s.burn.line = some l ∧ l.stage = .phase 1 ∧ s.driven = [0]
        ∧ { s with now := 1000360 }.driven = [])
    ∧ ∀ k, (lineInHand 63 .waiting).stage ≠ .phase k := by
  refine ⟨⟨?_, ?_⟩, ⟨?_, ?_⟩, ⟨?_, ?_⟩, ⟨?_, ?_⟩, ?_, ?_, nofun⟩
  all_goals decide +kernel

/-- A state in HOLD with a set of reasons, and a run of samples of 20 V or more. -/
def holding (holds : Holds) (supplyRun : Nat) : State :=
  let s := printing 0 base
  { s with
    burn := { s.burn with supplyRun := supplyRun }
    media := { s.media with engine := .hold, holds := holds } }

theorem witness_HeadSampleSetsFiguresAndReasons :
    (base.settle = base ∧ base.mode = .running ∧ base.burn.sensorFault = false ∧ -20 ≤ (-20 : Int) ∧ (100 : Int) ≤ 100
      ∧ base.media.engine ≠ .hold ∧ base.media.engine ≠ .fault)
    ∧ ((-21 : Int) < -20 ∧ (100 : Int) < 101 ∧ base.media.holds.supply = false ∧ base.media.setAside.supply = false)
    ∧ (let s := holding ⟨true, true, false⟩ 0;
      s.settle = s ∧ s.mode = .running ∧ s.burn.sensorFault = false ∧ s.media.engine = .hold
        ∧ s.media.holds = ⟨true, true, false⟩ ∧ (60 : Int) ≤ 60)
    ∧ (let s := holding ⟨false, true, false⟩ 0;
      s.settle = s ∧ s.mode = .running ∧ s.burn.sensorFault = false ∧ s.media.engine = .hold
        ∧ s.media.holds = ⟨false, true, false⟩)
    ∧ (let s := holding ⟨true, false, true⟩ 10;
      s.settle = s ∧ s.mode = .running ∧ s.burn.sensorFault = false ∧ s.media.engine = .hold
        ∧ s.media.holds.heat = false ∧ s.media.holds.supply = true ∧ s.grantRoom = s ∧ s.burn.supplyRun < 11)
    ∧ (let s := holding ⟨true, false, true⟩ 11;
      s.grantRoom = s ∧ s.media.engine = .hold ∧ s.media.holds.supply = true ∧ 11 ≤ s.burn.supplyRun
        ∧ s.media.holds.underrun = true)
    ∧ (let s := holding ⟨false, false, true⟩ 11;
      s.grantRoom = s ∧ s.media.engine = .hold ∧ s.media.holds.supply = true ∧ 11 ≤ s.burn.supplyRun
        ∧ s.media.holds.underrun = false ∧ s.media.holds.heat = false) := by
  refine ⟨⟨?_, ?_⟩, ?_, ⟨?_, ?_⟩, ⟨?_, ?_⟩, ⟨?_, ?_⟩, ?_, ?_⟩
  all_goals decide +kernel

/-! ### The Media Tracker -/

/-- A state with GAP media and a motion, the edge distance and its high mark at a value. -/
def tracking (kind : MotionKind) (d : Int) (count : Nat) : State :=
  let s := calibrated (moving .feeding kind base)
  { s with media := { s.media with d := d, high := d, count := count } }

/-- The pitch of 400: the step to 416 is an ordinary one, and the one to 417 misses the gap. -/
theorem witness_MotorStepMovesTheTracker :
    (base.canStep = false ∧ (printing 0 base).settle = printing 0 base
      ∧ (printing 0 base).media.motion = some (motion .label) ∧ (printing 0 base).canStep = false)
    ∧ (let s := moving .feeding (.feedLines 64) base;
      s.settle = s ∧ s.mode = .running ∧ s.media.motion = some (motion (.feedLines (63 + 1))) ∧ s.canStep = true
        ∧ s.battery.settings.registered = false ∧ 63 ≠ 0)
    ∧ (let s := moving .feeding (.feedLines 1) base;
      s.settle = s ∧ s.mode = .running ∧ s.media.motion = some (motion (.feedLines (0 + 1))) ∧ s.canStep = true
        ∧ s.battery.settings.registered = false ∧ (motion (.feedLines 1)).forLabel = false)
    ∧ (let s := tracking .feedTop 415 0;
      s.settle = s ∧ s.mode = .running ∧ s.media.motion = some (motion .feedTop) ∧ s.canStep = true
        ∧ s.battery.settings.registered = true ∧ s.battery.settings.pitch = 400 ∧ s.media.d + 1 < 400 + 17
        ∧ (s.media.d + 1 - (128 + s.battery.settings.gapLength)) % 400 ≠ 0)
    ∧ (let s := tracking (.backfeed 2) 0 0;
      s.settle = s ∧ s.mode = .running ∧ s.media.motion = some (motion (.backfeed (0 + 2))) ∧ s.canStep = true
        ∧ s.battery.settings.registered = true)
    ∧ (let s := tracking .feedTop 416 0;
      s.settle = s ∧ s.mode = .running ∧ s.media.motion = some (motion .feedTop) ∧ s.canStep = true
        ∧ s.battery.settings.registered = true ∧ s.battery.settings.pitch = 400 ∧ s.media.high < s.media.d + 1
        ∧ 400 + 17 ≤ s.media.d + 1) := by
  refine ⟨⟨?_, ?_, ?_⟩, ⟨?_, ?_⟩, ⟨?_, ?_⟩, ⟨?_, ?_⟩, ⟨?_, ?_⟩, ?_, ?_⟩
  all_goals decide +kernel

/-- A state with GAP media and a motion, the edge distance at a value, the media sensor's last level, and a gap run that
one more line of gap leaves at 160. -/
def going (m : Motion) (d : Int) (sensor : Bool) : State :=
  let s := tracking m.kind d 0
  { s with lines := { s.lines with gap := sensor }, media := { s.media with motion := some m, gapRun := 159 } }

/-- What the statement about a motor step asks of its state and the motion it finds. -/
def StepFinds (s : State) (m : Motion) : Prop :=
  s.settle = s ∧ s.mode = .running ∧ s.media.motion = some m ∧ s.canStep = true

/-- A state with a PRINTING label whose line has ended or that feeds on, calibrated or not. -/
def stepping (at_ : LabelLine) (pitch : Nat) (d : Int) : State :=
  let s := printing 0 base
  { s with
    battery := { s.battery with settings := { s.battery.settings with pitch := pitch, gapLength := 24 } }
    media := { s.media with labelLine := at_, d := d, high := d } }

/-- The steps of a label: to its last line, off it, and on to the label top, one line before it and at it; and with no
pitch known. -/
theorem witness_MotorStepMovesTheTracker_label :
    let t := ticket 3 1 .printing
    (∀ n ∈ [0, 62],
      let s := stepping (.stepping n) 400 150;
      StepFinds s (motion .label) ∧ s.printing = some t ∧ s.burn.values = some values
        ∧ s.media.labelLine = .stepping n ∧ n + 1 < t.length.getD 0)
    ∧ (∀ at_ ∈ [LabelLine.stepping 63, .tail],
      (let s := stepping at_ 400 150;
        StepFinds s (motion .label) ∧ s.battery.settings.registered = true ∧ s.media.labelLine = at_
          ∧ s.media.d + 1 < 400 + 17 ∧ (s.media.d + 1 - (128 + s.battery.settings.gapLength)) % 400 ≠ 0)
      ∧ (let s := stepping at_ 400 151;
        StepFinds s (motion .label) ∧ s.battery.settings.registered = true
          ∧ (s.media.d + 1 - (128 + s.battery.settings.gapLength)) % 400 = 0)
      ∧ (let s := stepping at_ 0 0;
        StepFinds s (motion .label) ∧ s.battery.settings.registered = false))
    ∧ t.length.getD 0 ≤ 63 + 1 := by
  unfold StepFinds
  decide +kernel

/-- Each other motion: its last line and the one before, the label top and the line before it, with a label to follow
and with none; and the edges of the seeking feeds, with pitches at the ends of their range. -/
theorem witness_MotorStepMovesTheTracker_feeds :
    (∀ left ∈ [0, 1],
      let m := motion (.present (left + 1) 95);
      StepFinds (going m 150 false) m ∧ m.forLabel = false)
    ∧ (∀ kind ∈ [MotionKind.resyncRun, .recoveryRun, .calibrateRun, .feedTop], ∀ forLabel ∈ [false, true],
      let m := { motion kind with forLabel := forLabel };
      (StepFinds (going m 150 false) m ∧ (going m 150 false).battery.settings.registered = true
        ∧ ((going m 150 false).media.d + 1 - (128 + (going m 150 false).battery.settings.gapLength)) % 400 ≠ 0)
      ∧ StepFinds (going m 151 true) m
        ∧ ((going m 151 true).media.d + 1 - (128 + (going m 151 true).battery.settings.gapLength)) % 400 = 0)
    ∧ (let m := motion (.recoveryJudge 3198 2);
      StepFinds (going m 415 false) m ∧ 3198 + 1 < 8 * (going m 415 false).battery.settings.pitch)
    ∧ (∀ forLabel ∈ [false, true],
      let m := { motion (.backfeed 1) with forLabel := forLabel };
      StepFinds (going m 0 false) m)
    ∧ (∀ kind ∈ [MotionKind.resyncSeek 798, .resyncSeek 799, .recoverySeek 3198, .calibrateSeek 8198,
        .calibrateGap 8198 3, .calibratePitch 8198 14 8, .calibratePitch 8198 15 8, .calibratePitch 8198 4099 24,
        .calibratePitch 8198 4100 24],
      ∀ sensor ∈ [false, true], StepFinds (going (motion kind) 0 sensor) (motion kind))
    ∧ ((going (motion .feedTop) 0 false).battery.settings.pitch = 400 ∧ (128 + 24) % 400 ≠ 0 ∧ min 161 (159 + 1) ≤ 160)
    ∧ (14 + 1 < 16 ∧ 16 ≤ 15 + 1 ∧ (128 + 8) % (15 + 1) ≠ 0 ∧ 4099 + 1 ≤ 4100 ∧ (128 + 24) % (4099 + 1) ≠ 0
      ∧ 4100 < 4100 + 1) := by
  unfold StepFinds
  refine ⟨?_, ?_, ?_, ?_, ?_, ?_, ?_⟩
  all_goals decide +kernel

/-- The completion of a reprint, of a copy that is its group's last and ends its job, and of one that is neither. -/
theorem witness_MotorStepMovesTheTracker_completion :
    let t := ticket 3 1 .printing
    let last : Job := { job 3 with nextLabel := 3 }
    let more : Job := { job 3 with items := { (job 3).items with copies := 2 } }
    ((printing 63 base).printing = some t ∧ (printing 63 base).burn.values = some values)
    ∧ reprintTicket.key.source = none
    ∧ (let q := (queued [last] [t] base).queue;
      t.key.source = some 3 ∧ q.job 3 = some last ∧ t.key.copy = last.items.copies
        ∧ (∀ k ∈ q.tickets.filter fun k => decide (k.key ≠ t.key), k.key.source ≠ some 3) ∧ last.openGroup = none
        ∧ last.items.quantity < last.nextLabel)
    ∧ (queued [more] [t] base).queue.job 3 = some more ∧ t.key.copy ≠ more.items.copies ∧ more.cancelled = false := by
  decide +kernel

/-- Edges at 384, 416, 383 and 417; counts of 247 and 248; the first, second and third good gap of a recovery. -/
theorem witness_GapsAreJudgedAndCounted :
    let pitch : Int := 400
    (let s := tracking .feedTop 384 5;
      s.media.motion = some (motion .feedTop) ∧ (s.battery.settings.pitch : Int) = pitch ∧ pitch - 16 ≤ s.media.d
        ∧ s.media.d ≤ pitch + 16)
    ∧ (let s := tracking .feedTop 383 247;
      s.media.d < pitch - 16 ∧ s.media.count + 8 < 256)
    ∧ (let s := tracking .feedTop 417 248;
      pitch + 16 < s.media.d ∧ 256 ≤ s.media.count + 8)
    ∧ (∀ f r, (motion .feedTop).kind ≠ .recoveryJudge f r)
    ∧ (let s := tracking (.recoveryJudge 3199 1) 416 256;
      s.media.motion = some (motion (.recoveryJudge 3199 1)) ∧ pitch - 16 ≤ s.media.d ∧ s.media.d ≤ pitch + 16
        ∧ 1 + 1 ≠ 3)
    ∧ (let s := tracking (.recoveryJudge 3199 2) 384 256;
      s.media.motion = some (motion (.recoveryJudge 3199 2)) ∧ pitch - 16 ≤ s.media.d ∧ s.media.d ≤ pitch + 16
        ∧ 2 + 1 = 3)
    ∧ (let s := tracking (.recoveryJudge 3199 2) 417 256;
      s.media.motion = some (motion (.recoveryJudge 3199 2)) ∧ pitch + 16 < s.media.d)
    ∧ (let s := tracking .feedTop 417 247;
      let r : State := { s with media := { s.media with due := some (.missedGap false true), gapRun := 160 } };
      r.grantRoom = r ∧ r.mode = .running ∧ r.media.motion = some (motion .feedTop) ∧ r.media.due = some (.missedGap false true)
        ∧ r.media.count + 8 < 256 ∧ r.media.gapRun ≤ 160
        ∧ (r.media.d - pitch - (128 + r.battery.settings.gapLength)) % pitch ≠ 0)
    ∧ base.grantRoom = base ∧ base.mode = .running ∧ ∀ edge fell, base.media.due ≠ some (.missedGap edge fell) := by
  refine ⟨?_, ?_, ?_, nofun, ?_⟩
  all_goals decide +kernel

/-- A state with a consequence of a motor step due, its gap run at a value. -/
def falling (due : StepDue) (gapRun : Nat) : State :=
  let s := printing 0 base
  { s with media := { s.media with due := some due, gapRun := gapRun } }

theorem witness_FeedLimitsAndMediaOut :
    (base.grantRoom = base ∧ base.media.due = none ∧ base.mode = .running)
    ∧ ∀ due ∈ [StepDue.resyncNoEdge, .recoveryLimit, .calibrationLimit, .mediaOut], ∀ gapRun ∈ [0, 160, 161],
      (falling due gapRun).grantRoom = falling due gapRun ∧ (falling due gapRun).media.due = some due
        ∧ (falling due gapRun).mode = .running := by decide +kernel

theorem witness_SwitchAndSensorRaiseAndClearFaults :
    (base.settle = base ∧ base.mode = .running ∧ base.lines.headOpen = false)
    ∧ (let s := faulted true ⟨true, false, true, false⟩;
      s.settle = s ∧ s.mode = .running ∧ s.lines.headOpen = true ∧ s.media.causes.headOpen = true
        ∧ s.media.engine = .fault ∧ s.battery.settings.autoResume = true
        ∧ Causes.condition { s.media.causes with headOpen := false } = false)
    ∧ (let s := faulted true ⟨true, false, false, true⟩;
      s.settle = s ∧ s.mode = .running ∧ s.lines.headOpen = true ∧ s.media.causes.headOpen = true
        ∧ s.media.engine = .fault ∧ Causes.condition { s.media.causes with headOpen := false } = true)
    ∧ (let s := faulted false ⟨true, false, false, false⟩;
      s.settle = s ∧ s.media.causes.headOpen = true ∧ s.battery.settings.autoResume = false)
    ∧ base.media.causes.mediaOut = false
    ∧ (let s := faulted true ⟨false, true, false, false⟩;
      s.settle = s ∧ s.mode = .running ∧ s.media.causes.mediaOut = true ∧ s.media.engine = .fault
        ∧ s.battery.settings.autoResume = true ∧ Causes.condition { s.media.causes with mediaOut := false } = false)
    ∧ (let s := faulted false ⟨false, true, false, false⟩;
      s.settle = s ∧ s.mode = .running ∧ s.media.causes.mediaOut = true ∧ s.media.engine = .fault
        ∧ s.battery.settings.autoResume = false) := by
  refine ⟨⟨?_, ?_⟩, ⟨?_, ?_⟩, ⟨?_, ?_⟩, ⟨?_, ?_⟩, ?_, ⟨?_, ?_⟩, ?_, ?_⟩
  all_goals decide +kernel

/-- A label with a line in hand, in its loading or past it, the last of its band or not, its first line burned or not. -/
def cutting (burned : Bool) (l : LineInHand) : State :=
  let s := burning l
  { s with queue := { s.queue with tickets := [{ ticket 3 1 .printing with burned := burned }] } }

/-- The faults that arise with nothing printing, with a label burned and not, and with a line in hand of each stage. -/
theorem witness_SwitchAndSensorRaiseAndClearFaults_arise :
    (base.settle = base ∧ base.mode = .running ∧ base.lines.headOpen = false ∧ base.burn.sensorFault = false
      ∧ ((-21 : Int) < -20 ∧ (100 : Int) < 101) ∧ base.media.holds.supply = false ∧ base.media.setAside.supply = false)
    ∧ (let s := falling .mediaOut 161;
      s.grantRoom = s ∧ s.mode = .running ∧ s.media.due = some .mediaOut)
    ∧ (let s := falling .resyncNoEdge 160;
      s.grantRoom = s ∧ s.mode = .running ∧ s.media.due = some .resyncNoEdge ∧ s.media.gapRun ≤ 160)
    ∧ (base.burn.line = none ∧ base.printing = none)
    ∧ (∀ burned ∈ [false, true],
      let s := cutting burned (lineInHand 63 .loading);
      s.burn.line = some (lineInHand 63 .loading)
        ∧ s.printing = some { ticket 3 1 .printing with burned := burned }
        ∧ lastOfBand 63 ((ticket 3 1 .printing).length.getD 0) = true ∧ s.lineBuffer (ticket 3 1 .printing) 63 = some 0)
    ∧ (lineInHand 63 (.phase 1)).stage ≠ .loading ∧ lastOfBand 62 ((ticket 3 1 .printing).length.getD 0) = false
    ∧ ((printing 0 base).burn.line = none ∧ (printing 0 base).printing = some (ticket 3 1 .printing)) := by
  decide +kernel

/-- A state with a label presented under a setting, some lines out. -/
def presented (under : Presentation) (distance : Nat) : State :=
  { base with media := { base.media with engine := .presented, presentedUnder := under, out := some distance } }

/-- A state with a presentation setting and tickets. -/
def presenting (setting : Presentation) (tickets : List Ticket) : State :=
  { queued [] tickets base with
    battery := { base.battery with settings := { base.battery.settings with presentation := setting } } }

theorem witness_LabelIsPresentedAndTaken :
    (base.settle = base ∧ base.mode = .running ∧ base.media.engine ≠ .presented)
    ∧ (let s := presented .peel 200;
      s.settle = s ∧ s.mode = .running ∧ s.media.engine = .presented ∧ s.media.presentedUnder = .peel
        ∧ s.media.out = some (199 + 1))
    ∧ (presented .tear 1).media.presentedUnder ≠ .peel
    ∧ (presenting .stream []).battery.settings.presentation = .stream
    ∧ ((presenting .tear [ticket 3 1 .ready]).battery.settings.presentation = .tear
      ∧ (presenting .tear [ticket 3 1 .ready]).someReady = true)
    ∧ ((presenting .tear []).battery.settings.presentation = .tear ∧ (presenting .tear []).someReady = false ∧ 1 ≠ 0)
    ∧ (presenting .peel []).battery.settings.presentation = .peel
    ∧ (printing 0 base).media.engine = .printing ∧ (printing 0 base).media.power = true := by
  refine ⟨⟨?_, ?_⟩, ⟨?_, ?_⟩, ?_⟩
  all_goals decide +kernel

/-- A state whose engine is in a state. -/
def engineIn (e : Engine) (s : State) : State := { s with media := { s.media with engine := e } }

theorem witness_PauseAndResume :
    (Takes 0x30 [] (asking 0x30 [] (engineIn .paused base)) ∧ (engineIn .paused base).media.engine = .paused)
    ∧ (Takes 0x30 [] (asking 0x30 [] (engineIn .presented base)) ∧ base.media.pausePending = false
      ∧ (engineIn .presented base).media.engine = .presented)
    ∧ (Takes 0x30 [] (asking 0x30 [] (printing 0 base)) ∧ (printing 0 base).media.pausePending = false
      ∧ (printing 0 base).media.engine = .printing)
    ∧ (Takes 0x31 [] (asking 0x31 [] (faulted true ⟨false, false, false, true⟩))
      ∧ (faulted true ⟨false, false, false, true⟩).media.engine = .fault
      ∧ (faulted true ⟨false, false, false, true⟩).media.causes.condition = true)
    ∧ (Takes 0x31 [] (asking 0x31 [] (faulted true ⟨false, false, true, false⟩))
      ∧ (faulted true ⟨false, false, true, false⟩).media.engine = .fault
      ∧ (faulted true ⟨false, false, true, false⟩).media.causes.condition = false)
    ∧ (Takes 0x31 [] (asking 0x31 [] (engineIn .paused base)) ∧ (engineIn .paused base).media.engine = .paused)
    ∧ (Takes 0x31 [] (asking 0x31 [] base) ∧ base.media.engine ≠ .paused ∧ base.media.engine ≠ .fault) := by
  refine ⟨⟨?_, ?_⟩, ⟨?_, ?_⟩, ⟨?_, ?_⟩, ⟨?_, ?_⟩, ⟨?_, ?_⟩, ⟨?_, ?_⟩, ?_, ?_⟩
  all_goals first
    | decide +kernel
    | exact takes (by decide)

theorem witness_FeedAndCalibrate :
    (Takes 0x32 [] (asking 0x32 [] (printing 0 base)) ∧ Takes 0x33 [] (asking 0x33 [] (printing 0 base))
      ∧ (printing 0 base).media.engine = .printing)
    ∧ (Takes 0x32 [] (asking 0x32 [] (calibrated base)) ∧ Takes 0x33 [] (asking 0x33 [] (calibrated base))
      ∧ (calibrated base).media.engine = .idle ∧ (calibrated base).battery.settings.mediaType ≠ .continuous
      ∧ 0 < (calibrated base).battery.settings.pitch)
    ∧ (Takes 0x32 [] (asking 0x32 [] (engineIn .off base)) ∧ (engineIn .off base).media.engine = .off
      ∧ (engineIn .off base).battery.settings.mediaType ≠ .continuous ∧ (engineIn .off base).battery.settings.pitch = 0)
    ∧ (Takes 0x32 [] (asking 0x32 [] continuous) ∧ Takes 0x33 [] (asking 0x33 [] continuous)
      ∧ continuous.media.engine = .idle ∧ continuous.battery.settings.mediaType = .continuous) := by
  refine ⟨⟨?_, ?_, ?_⟩, ⟨?_, ?_, ?_⟩, ⟨?_, ?_⟩, ?_, ?_, ?_⟩
  all_goals first
    | decide +kernel
    | exact takes (by decide)

/-- What each SETTINGS_SET leaves, at the ends of the idle time's range. -/
theorem witness_SettingsAreSetAndRead :
    (Takes 0x34 (settingsBody 0x20 0 4) (asking 0x34 (settingsBody 0x20 0 4) base)
      ∧ settingsOf (settingsBody 0x20 0 4) base.battery.settings = none)
    ∧ (let s := asking 0x34 (settingsBody 0x01 2 0) (printing 0 base);
      Takes 0x34 (settingsBody 0x01 2 0) s
        ∧ settingsOf (settingsBody 0x01 2 0) s.battery.settings
          = some { s.battery.settings with mediaType := .continuous }
        ∧ s.battery.settings.mediaType = .gap ∧ s.media.engine = .printing)
    ∧ (let s := asking 0x34 (settingsBody 0x01 0 0) (printing 0 base);
      Takes 0x34 (settingsBody 0x01 0 0) s
        ∧ settingsOf (settingsBody 0x01 0 0) s.battery.settings = some s.battery.settings)
    ∧ (let s := asking 0x34 (settingsBody 0x01 2 0) (calibrated base);
      Takes 0x34 (settingsBody 0x01 2 0) s
        ∧ settingsOf (settingsBody 0x01 2 0) s.battery.settings
          = some { s.battery.settings with mediaType := .continuous }
        ∧ s.battery.settings.mediaType = .gap ∧ s.media.engine = .idle)
    ∧ (let s := asking 0x34 (settingsBody 0x20 0 5) { base with now := 5000000 };
      Takes 0x34 (settingsBody 0x20 0 5) s
        ∧ settingsOf (settingsBody 0x20 0 5) s.battery.settings = some { s.battery.settings with idleTime := 5 }
        ∧ 5 ≠ s.battery.settings.idleTime ∧ s.media.engine = .idle ∧ s.someReady = false
        ∧ s.media.idleSince + 5 * 1000000 ≤ s.now)
    ∧ Takes 0x35 [] (asking 0x35 [] base) := by
  refine ⟨⟨?_, ?_⟩, ⟨?_, ?_⟩, ⟨?_, ?_⟩, ⟨?_, ?_⟩, ⟨?_, ?_⟩, ?_⟩
  all_goals first
    | decide +kernel
    | exact takes (by decide)

/-- A state with a motion whose wake delay runs. -/
def waking (kind : MotionKind) : State :=
  { base with media := { base.media with motion := some { motion kind with wake := some 1050000 } } }

theorem witness_IdlePowerAndWake :
    (base.settle = base ∧ base.mode = .running ∧ base.media.engine = .idle ∧ base.someReady = false
      ∧ base.battery.settings.idleTime ≠ 0)
    ∧ (let s := printing 0 base;
      s.settle = s ∧ s.media.engine ≠ .idle)
    ∧ (let s := waking .feedTop;
      s.settle = s ∧ s.mode = .running ∧ s.media.motion = some { motion .feedTop with wake := some 1050000 }
        ∧ (motion .feedTop).kind ≠ .awaitStart)
    ∧ (let s := waking .awaitStart;
      s.settle = s ∧ s.mode = .running ∧ s.media.motion = some { motion .awaitStart with wake := some 1050000 }
        ∧ (motion .awaitStart).kind = .awaitStart) := by
  refine ⟨⟨?_, ?_⟩, ⟨?_, ?_⟩, ⟨?_, ?_⟩, ?_, ?_⟩
  all_goals decide +kernel

/-! ### Further clauses -/

/-- A failed stale program of a wipe, with more to come and the last; a byte that reads back as other than asked; and
an end reported 1 µs after the limit. -/
theorem witness_ProgramTimeoutFailsTheRequest_wipe :
    (let s := programming 0x09 (.wipe liveEntry.ref [liveEntry.ref] 1) (stored liveEntry base);
      ProgramEnds s ∧ s.dec.work = .wipe liveEntry.ref (liveEntry.ref :: []) 1
        ∧ s.store.entry liveEntry.ref = some liveEntry)
    ∧ (let s := programming 0x09 (.wipe liveEntry.ref [] 0) (stored liveEntry base);
      ProgramEnds s ∧ s.dec.work = .wipe liveEntry.ref [] 0 ∧ s.dec.kind = byte 0x09)
    ∧ (let old := flashRange base.flash 36864 1;
      let asked := List.zipWith (· &&& ·) old [(0x00 : Byte)];
      let given : List Byte := [0x80];
      List.zipWith (· &&& ·) old (given ++ asked.drop given.length) = [0x80] ∧ [0x80] ≠ asked)
    ∧ (let s := { programming 0x05 (.retire liveEntry.ref) (stored liveEntry base) with now := 1000001 };
      s.settle = s ∧ s.mode = .running ∧ 3000 < s.now - 997000) := by
  refine ⟨⟨?_, ?_⟩, ⟨?_, ?_⟩, ?_, ?_⟩
  all_goals first
    | decide +kernel
    | exact programEnds (by decide +kernel) (by decide +kernel)

/-- An entry that a stale program failed on, one pinned and one not, and one that a release leaves with no pin. -/
theorem witness_DirectoryChanges_retire :
    let pinned : DirEntry := { liveEntry with state := .superseded, pins := 1 }
    (stored liveEntry base).store.entry liveEntry.ref = some liveEntry
    ∧ (stored pinned base).store.entry pinned.ref = some pinned ∧ 0 < pinned.pins ∧ liveEntry.pins = 0
    ∧ pinned.ref ∈ [pinned.ref] ∧ pinned.state = .superseded ∧ pinned.pins - 1 = 0 := by decide +kernel

/-- A JOB_END and an ENGINE notice that lack one byte of room. -/
theorem witness_UnanswerableHeadsRefused_notices :
    let j : Job := { job 3 with state := .ending, outcome := some .done }
    let n : EngineNotice := ⟨.fault, 1, .idle, 0, 256, 1⟩
    ((ending ((jobEndFrame j).length - 1)).queue.ending = 3 :: []
      ∧ (ending ((jobEndFrame j).length - 1)).queue.job 3 = some j
      ∧ (ending ((jobEndFrame j).length - 1)).freeRoom < (jobEndFrame j).length)
    ∧ (noticing ((engineFrame n).length - 1)).queue.ending = []
    ∧ (noticing ((engineFrame n).length - 1)).media.notice = some n
    ∧ (noticing ((engineFrame n).length - 1)).freeRoom < (engineFrame n).length := by decide +kernel

/-- A return that fills the list: the earlier value is kept, and a value that stands there and the later one are dropped
with their groups. -/
theorem witness_ReturnsKeepOrDropEachValue_order :
    let c := seven 515 [1, 2, 3, 4, 5, 6, 505] [⟨505, 3, 1⟩, ⟨510, 3, 2⟩, ⟨500, 3, 3⟩]
    c.defn.policy = .reuse ∧ (c.returned [(3, 1), (3, 2), (3, 3)]).returns = [1, 2, 3, 4, 5, 6, 505, 510]
      ∧ c.droppedBy [(3, 1), (3, 2), (3, 3)] = [(3, 1), (3, 3)] := by decide

/-- A LIVE format with no page. -/
theorem witness_JobSubmitRefusedOrRead_noPage :
    let e : DirEntry := { liveEntry with bodyLen := 0 }
    let s := asking 0x22 (submitBody 99 1) (stored e base)
    Takes 0x22 (submitBody 99 1) s ∧ (jobItemsOf (submitBody 99 1)).toOption = some (submitted 99)
      ∧ s.queue.jobs.length < 32 ∧ (∀ j ∈ s.queue.jobs, j.items.tag ≠ (submitted 99).tag)
      ∧ s.store.live .format (submitted 99).format = some e ∧ bodyPages e.firstSector 0 e.bodyLen = [] :=
  ⟨takes (by decide +kernel), by decide +kernel⟩

/-- A table with no page, which takes no data and refuses any; a BOX and a LINE field; the example's field accepted, with
a character that is no code, and one dot wider than its maximum width. -/
theorem witness_SubmittedJobIsCheckedAndBound_refusals :
    let e : DirEntry := { tableEntry with bodyLen := 0 }
    let s : State := { shop with store := { shop.store with directory := [formatEntry, e] } }
    let narrow (most : Nat) : Field := { barcodeField with kind := .barcode 3 2 40 25 1 10 true most [.slot 5] }
    let verdict (f : Field) (text : String) :=
      barcodeRefusal s.battery (slotItems text) (parseFormat formatBody) tableS3 f
    (s.store.live .table 3 = some e ∧ bodyPages e.firstSector 0 e.bodyLen = [] ∧ s.countersDefined [.slot 5] = true
      ∧ barcodeRefusal s.battery (slotItems "407") (s.liveFormat (slotItems "407")) (parseTable (s.entryBody e))
          barcodeField = some .badData
      ∧ barcodeRefusal s.battery (slotItems "") (s.liveFormat (slotItems "")) (parseTable (s.entryBody e)) barcodeField
          = none)
    ∧ ({ barcodeField with kind := .box 10 10 1 } : Field).kind = .box 10 10 1
    ∧ ({ barcodeField with kind := .line 10 1 } : Field).kind = .line 10 1
    ∧ (verdict (narrow 129) "407" = none ∧ verdict (narrow 128) "407" = some .noFit
      ∧ verdict (narrow 129) "40A" = some .badData ∧ verdict (narrow 129) "" = some .badData)
    ∧ (∀ c : Nat, CanProduce.known c ∈ [CanProduce.known 52] → tableS3.byCode c ≠ none)
    ∧ (57 ∈ alphabetChars .decimal ∧ tableS3.byCode 57 = some ⟨57, 9, [1, 1, 1, 2, 2]⟩
      ∧ ⟨57, 9, [1, 1, 1, 2, 2]⟩ ∈ tableS3.entries) := by
  refine ⟨by decide +kernel, rfl, rfl, by decide +kernel, ?_, by decide⟩
  intro c h
  simp only [List.mem_singleton, CanProduce.known.injEq] at h
  subst h
  decide

/-- Two counters drawn once each, of a table of two. -/
theorem witness_LabelBoundaryChoosesAndCreates_draw :
    [1, 2].Nodup ∧ (∀ id ∈ [1, 2], 1 ≤ id ∧ id ≤ [seven 515 [510] [], spent].length)
      ∧ ({ job 3 with holdCounter := true, blocking := some 1 } : Job).blockedOn [1] = true := by decide

/-- Two tags cancelled one after another; a job held on a counter reported able to issue, and none. -/
theorem witness_JobCancelDiscardsAndEnds_all :
    let s := cancelling ⟨some 3, 1, 1⟩
    let held : State := queued [{ job 3 with holdCounter := true, blocking := some 1 }] [] base
    (∃ v a w n able, s.cancelJob 3 = (v, a) ∧ cancelTags [4] v = (w, n, able))
      ∧ (∃ j ∈ held.queue.jobs, ∃ id ∈ [1], j.blocking = some id)
      ∧ ¬ ∃ j ∈ held.queue.jobs, ∃ id ∈ [2], j.blocking = some id :=
  ⟨⟨_, _, _, _, _, rfl, rfl⟩, by decide, by decide⟩

/-- A part with the sensor fault set, its cause standing or not, in FAULT or in start-up. -/
def sensing (engine : Engine) (causes : Causes) (auto : Bool) (mode : Mode) : State :=
  { base with
    mode := mode
    battery := { base.battery with settings := { base.battery.settings with autoResume := auto } }
    burn := { base.burn with sensorFault := true }
    media := { base.media with
      engine := engine, causes := causes
      motion := if mode = .running then none else some (motion .resyncRun) } }

/-- A sample in range with the sensor fault set, HEAD_FAULT alone and beside another cause, with auto-resume on and off,
and in the engine step of start-up; one out of range in the scan; HEAT and SUPPLY standing together, in HOLD and set
aside; and a part without power. -/
theorem witness_HeadSampleSetsFiguresAndReasons_sensor :
    let headFault : Causes := ⟨false, false, false, true⟩
    (let s := sensing .fault headFault true .running;
      s.settle = s ∧ s.burn.sensorFault = true ∧ s.media.causes.headFault = true ∧ s.media.engine = .fault
        ∧ s.battery.settings.autoResume = true ∧ Causes.condition { s.media.causes with headFault := false } = false
        ∧ s.mode = .running ∧ (-20 ≤ (-20 : Int) ∧ (100 : Int) ≤ 100))
    ∧ (let s := sensing .fault ⟨true, false, false, true⟩ true .running;
      s.settle = s ∧ Causes.condition { s.media.causes with headFault := false } = true)
    ∧ (sensing .fault headFault false .running).battery.settings.autoResume = false
    ∧ (sensing .idle ⟨false, false, false, false⟩ true .running).media.causes.headFault = false
    ∧ (let s := sensing .resync headFault true (.startUp (.engine 0 0));
      s.settle = s ∧ s.mode = .startUp (.engine 0 0) ∧ s.mode ≠ .running ∧ s.media.engine ≠ .fault)
    ∧ (let s : State := { sensing .resync headFault true (.startUp (.engine 0 0)) with burn := base.burn };
      s.settle = s ∧ s.burn.sensorFault = false ∧ s.mode = .startUp (.engine 0 0) ∧ ¬ (-20 : Int) ≤ -21)
    ∧ (let s : State := { base with mode := .startUp (.scan Scan.begin) };
      s.settle = s ∧ s.mode = .startUp (.scan Scan.begin) ∧ s.burn.sensorFault = false ∧ ¬ (101 : Int) ≤ 100)
    ∧ (∀ underrun ∈ [false, true],
      let s := holding ⟨underrun, true, true⟩ 10;
      s.settle = s ∧ s.mode = .running ∧ s.burn.sensorFault = false ∧ s.media.engine = .hold
        ∧ s.media.holds = ⟨underrun, true, true⟩ ∧ s.media.holds ≠ ⟨false, true, false⟩)
    ∧ (let s := sensing .fault headFault false .running;
      let r : State := { s with media := { s.media with setAside := ⟨false, true, true⟩ } };
      r.settle = r ∧ r.media.engine = .fault ∧ r.media.setAside.supply = true ∧ (60 : Int) ≤ 60 ∧ (60 : Int) < 61)
    ∧ (let s : State := { base with mode := .off };
      s.settle = s ∧ s.mode ≠ .running) := by
  refine ⟨?_, ?_, ?_, ?_, ?_, ?_, ?_, ?_, ?_, ?_⟩
  all_goals decide +kernel

/-- A feed by lines with the sensor at gap, a gap run of 160 after it; a backfeed on CONTINUOUS media; a miss in every
motion that judges edges; and a RESYNC edge and a calibration that stand at a label top. -/
theorem witness_MotorStepMovesTheTracker_edges :
    (∀ left ∈ [1, 2],
      let s := moving .feeding (.feedLines left) continuous;
      let r : State := { s with lines := { s.lines with gap := true }, media := { s.media with gapRun := 159 } };
      StepFinds r (motion (.feedLines left)) ∧ r.battery.settings.registered = false
        ∧ min 161 (r.media.gapRun + 1) ≤ 160)
    ∧ StepFinds (moving .presenting (.backfeed (0 + 2)) continuous) (motion (.backfeed (0 + 2)))
    ∧ (∀ kind ∈ [MotionKind.feedTop, .feedLines 3, .present 4 5, .resyncRun, .recoveryJudge 7 2, .recoveryRun],
      let s := tracking kind 416 0;
      StepFinds s (motion kind) ∧ kind.judges = true ∧ s.battery.settings.registered = true
        ∧ s.media.high < s.media.d + 1 ∧ s.battery.settings.pitch = 400 ∧ 400 + 17 ≤ s.media.d + 1)
    ∧ (let s := stepping .tail 400 416;
      StepFinds s (motion .label) ∧ MotionKind.judges .label = true ∧ s.media.high < s.media.d + 1)
    ∧ (let m := motion (.resyncSeek 3);
      let s := going m 0 false;
      let r : State := { s with battery := { s.battery with settings := { s.battery.settings with pitch := 152 } } };
      StepFinds r m ∧ r.lines.gap = false ∧ (128 + r.battery.settings.gapLength) % r.battery.settings.pitch = 0)
    ∧ (let m := motion (.calibratePitch 300 151 24);
      StepFinds (going m 0 false) m ∧ 16 ≤ 151 + 1 ∧ 151 + 1 ≤ 4100 ∧ (128 + 24) % (151 + 1) = 0) := by
  unfold StepFinds
  refine ⟨?_, ?_, ?_, ?_, ?_, ?_⟩
  all_goals decide +kernel

/-- The step of each kind above the high mark at 416 lines, and at the mark; the FEED whose edge is a label top. -/
theorem witness_StepIsJudgedAndArrives :
    (∀ kind ∈ [MotionKind.feedTop, .feedLines 3, .present 4 5, .resyncRun, .recoveryJudge 7 2, .recoveryRun],
      let s := tracking kind 415 0;
      let r : State := { s with media := { s.media with high := 416 } };
      StepFinds s (motion kind) ∧ StepFinds r (motion kind) ∧ kind.judges = true
        ∧ s.battery.settings.registered = true ∧ s.lines.gap = false ∧ s.media.high < s.media.d + 1
        ∧ s.media.d + 1 < 400 + 17 ∧ r.media.d + 1 ≤ r.media.high)
    ∧ StepFinds (tracking .calibrateRun 30 0) (motion .calibrateRun)
    ∧ (let s := tracking .feedTop 151 200;
      let r : State := { s with battery := { s.battery with settings := { s.battery.settings with pitch := 152 } } };
      StepFinds r (motion .feedTop) ∧ (motion .feedTop).forLabel = false ∧ r.media.high < r.media.d + 1
        ∧ r.battery.settings.pitch = 152 ∧ 152 - 16 ≤ r.media.d + 1 ∧ r.media.d + 1 < 152 + 17
        ∧ (128 + r.battery.settings.gapLength) % 152 = 0)
    ∧ (limitOf 400 (.resyncSeek 800) = some .resyncNoEdge ∧ limitOf 400 (.resyncSeek 799) = none
      ∧ limitOf 400 (.backfeed 3) = none)
    ∧ ((tracking .feedTop 151 0).media.motion = some (motion .feedTop)
      ∧ ((tracking .feedTop 152 0).media.d - (128 + (tracking .feedTop 152 0).battery.settings.gapLength)) % 400 = 0
      ∧ ((tracking .feedTop 151 0).media.d - (128 + (tracking .feedTop 152 0).battery.settings.gapLength)) % 400 ≠ 0)
    ∧ ((stepping (.stepping 63) 400 152).media.motion = some (motion .label)
      ∧ (stepping (.stepping 63) 400 152).printing = some (ticket 3 1 .printing)
      ∧ (stepping (.stepping 63) 400 152).burn.values = some values)
    ∧ base.media.motion = none := by
  unfold StepFinds
  refine ⟨?_, ?_, ?_, ?_, ?_, ?_, ?_⟩
  all_goals decide +kernel

/-- The FEED whose reference edge is itself a label top ends there (section 8.7). -/
theorem test_feed_ends_at_its_edge :
    let s := tracking .feedTop 151 200
    let r : State := { s with battery := { s.battery with settings := { s.battery.settings with pitch := 152 } } }
    (match exec (.motorStep true) r with
      | .next t => decide (t.media.engine = .idle ∧ t.media.motion = none ∧ t.media.d = 0 ∧ t.media.count = 199)
      | _ => false) = true := by decide +kernel

/-- A missed gap in each motion that judges edges, with an edge at its step and with none, at counts of 247 and 248. -/
theorem witness_GapsAreJudgedAndCounted_misses :
    (∀ kind ∈ [MotionKind.feedTop, .feedLines 3, .present 4 5, .resyncRun, .recoveryJudge 7 2, .recoveryRun],
      ∀ count ∈ [247, 248], ∀ edge ∈ [false, true],
      let s := tracking kind 417 count;
      let r : State := { s with media := { s.media with due := some (.missedGap edge (!edge)), gapRun := 161 } };
      r.grantRoom = r ∧ r.mode = .running ∧ r.media.motion = some (motion kind) ∧ kind.judges = true
        ∧ r.battery.settings.registered = true ∧ r.media.due = some (.missedGap edge (!edge)))
    ∧ (247 + 8 < 256 ∧ 256 ≤ 248 + 8)
    ∧ (∀ fed run, MotionKind.resyncRun ≠ .recoveryJudge fed run)
    ∧ (let s := tracking .feedTop 17 0;
      s.media.motion = some (motion .feedTop) ∧ 33 - 16 ≤ s.media.d ∧ s.media.d ≤ 33 + 16) := by
  refine ⟨?_, ?_, nofun, ?_⟩
  all_goals decide +kernel

/-- Each feed one line before its limit, with the sensor at its last level either way; and each forward motion whose gap
run the step brings to 161, a seeking feed and CONTINUOUS media among them. -/
theorem witness_FeedLimitsAndMediaOut_steps :
    (∀ kind ∈ [MotionKind.recoverySeek 3199, .recoveryJudge 3199 2, .calibrateSeek 8199, .calibrateGap 8199 3,
        .calibratePitch 8199 14 8],
      ∀ sensor ∈ [false, true], StepFinds (going (motion kind) 0 sensor) (motion kind))
    ∧ ((going (motion .feedTop) 0 false).battery.settings.pitch = 400 ∧ 8 * 400 ≤ 3199 + 1 ∧ 8200 ≤ 8199 + 1)
    ∧ (∀ kind ∈ [MotionKind.feedTop, .feedLines 3, .present 4 5, .resyncRun, .recoveryJudge 7 2, .recoveryRun,
        .calibrateRun, .resyncSeek 3, .recoverySeek 3, .calibrateSeek 3, .calibrateGap 3 3, .calibratePitch 3 3 3],
      let s := going (motion kind) 0 true;
      let r : State := { s with media := { s.media with gapRun := 160 } };
      StepFinds r (motion kind) ∧ r.lines.gap = true ∧ 160 ≤ r.media.gapRun
        ∧ limitOf r.battery.settings.pitch kind.advance = none ∧ r.media.d + 1 < 400 + 17)
    ∧ (let s := moving .feeding (.feedLines 3) continuous;
      let r : State := { s with lines := { s.lines with gap := true }, media := { s.media with gapRun := 160 } };
      StepFinds r (motion (.feedLines 3)) ∧ r.battery.settings.registered = false)
    ∧ ∀ left, MotionKind.feedTop ≠ .backfeed left := by
  unfold StepFinds
  refine ⟨?_, ?_, ?_, ?_, nofun⟩
  all_goals decide +kernel

/-- What a label start asks: the oldest ticket READY and none PRINTING, and no take awaited. Each preliminary at its
bound, a distance of 1 and of 0, counts of 127 and 128, power up and down; a pause pending; and PEEL labels out, found
taken and not. -/
theorem witness_LabelStartRestAndFaultPath :
    let t := ticket 3 1 .ready
    let starts (s : State) : Prop :=
      s.queue.tickets.head?.map Ticket.state = some .ready ∧ ∀ t ∈ s.queue.tickets, t.state ≠ .printing
    let awaits (s : State) : Prop := s.media.out ≠ none ∧ s.media.presentedUnder = .peel ∧ s.lines.noLabel = false
    let taken (distance : Nat) : State := { presented .peel distance with lines := { base.lines with noLabel := true } }
    (let s := queued [job 3] [t] base;
      starts s ∧ ¬ awaits s ∧ s.media.pausePending = false ∧ s.media.engine = .idle ∧ s.media.out = none
        ∧ s.battery.settings.mediaType ≠ .continuous ∧ s.battery.settings.pitch = 0)
    ∧ (¬ starts base ∧ ¬ starts (printing 0 base) ∧ awaits { presented .peel 0 with lines := { base.lines with noLabel := false } }
      ∧ ¬ awaits (presented .tear 0))
    ∧ ((presented .tear 1).media.out = some (0 + 1) ∧ (presented .tear 0).media.out = some 0)
    ∧ (∀ count ∈ [127, 128],
      let s := calibrated { base with media := { base.media with count := count, power := false } };
      s.battery.settings.pitch ≠ 0 ∧ s.media.count = count ∧ s.media.power = false)
    ∧ (continuous.battery.settings.mediaType = .continuous ∧ continuous.media.power = true)
    ∧ { base with media := { base.media with pausePending := true } }.media.pausePending = true
    ∧ ((taken 1).media.out = some (0 + 1) ∧ (taken 0).media.out = some 0 ∧ (taken 0).media.presentedUnder = .peel
      ∧ (taken 0).lines.noLabel = true)
    ∧ ((∃ t ∈ (printing 0 base).queue.tickets, t.state = .printing)
      ∧ (printing 0 base).media.setAside = ⟨false, false, false⟩
      ∧ (printing 0 base).media.labelLine = .standing 0)
    ∧ ((∀ n, base.media.labelLine ≠ .standing n) ∧ ∀ t ∈ base.queue.tickets, t.state ≠ .printing)
    ∧ ((faulted true ⟨false, false, true, false⟩).media.causes.mediaLost = true
      ∧ (faulted true ⟨false, false, true, false⟩).battery.settings.pitch = 0
      ∧ (faulted true ⟨true, false, false, false⟩).media.causes.mediaLost = false)
    ∧ (base.media.notice = none ∧ (noticing 10).media.notice ≠ none) := by
  dsimp only
  refine ⟨?_, ?_, ?_, ?_, ?_, ?_, ?_, ?_, ⟨nofun, ?_⟩, ?_, ?_⟩
  all_goals decide +kernel

/-- A label of a job and a reprint; a field of each kind, with its frame; the fonts and their codes at the bounds. -/
theorem witness_FieldsAreDrawnInListOrder :
    let t := ticket 3 1 .printing
    ((queued [job 3] [t] base).queue.job 3 = some (job 3) ∧ t.key.source = some 3 ∧ 63 < min 64 (t.length.getD 0 - 64 * 0)
      ∧ 831 < 832)
    ∧ (reprintTicket.key.source = none ∧ (reprinting false [reprintTicket]).queue.last = some lastLabel)
    ∧ (let p : Placed := { frame := .line 3 2, x := 10, y := 20, rotation := 1, mode := .invert };
      let q : Placed := { p with mode := .set };
      p.frame.size = (3, 2) ∧ p.rotation ≤ 3 ∧ p.dot 10 20 = true ∧ p.dot 12 20 = false ∧ p.mode = .invert
        ∧ q.dot 11 22 = true ∧ q.mode = .set)
    ∧ (textField.kind = .text 1 1 1 0 [.counter 1] ∧ imageField.kind = .image 9 1)
    ∧ (∀ font ∈ [1, 2, 3, 4], font = 1 ∨ font = 2 ∨ font = 3 ∨ font = 4)
    ∧ (let f := fontSize 4;
      f.offsetX + f.glyphX ≤ 16 ∧ 2 < f.offsetY ∧ f.offsetY + f.glyphY ≤ 29 ∧ 32 < 33 ∧ 126 ≤ 126 ∧ 126 < 127 ∧ 31 < 32)
    ∧ ∃ frame, frame = Frame.barcode [(20, 1)] 40 20 109 [52] 129 49 :=
  ⟨by decide +kernel, by decide +kernel, by decide +kernel, ⟨rfl, rfl⟩, by decide, by decide, _, rfl⟩

/-- An idle time not yet reached by 1 µs, one of 0, one set in OFF, and a media type set with an idle time reached and
not. -/
theorem witness_SettingsAreSetAndRead_idle :
    (let s := asking 0x34 (settingsBody 0x20 0 5) { base with now := 4999999 };
      Takes 0x34 (settingsBody 0x20 0 5) s
        ∧ settingsOf (settingsBody 0x20 0 5) s.battery.settings = some { s.battery.settings with idleTime := 5 }
        ∧ 5 ≠ s.battery.settings.idleTime ∧ s.now < s.media.idleSince + 5 * 1000000)
    ∧ (let s := asking 0x34 (settingsBody 0x20 0 0) base;
      Takes 0x34 (settingsBody 0x20 0 0) s
        ∧ settingsOf (settingsBody 0x20 0 0) s.battery.settings = some { s.battery.settings with idleTime := 0 })
    ∧ (let s := asking 0x34 (settingsBody 0x20 0 5) (engineIn .off base);
      Takes 0x34 (settingsBody 0x20 0 5) s ∧ s.media.engine ≠ .idle)
    ∧ (∀ now ∈ [4999999, 5000000],
      let s := asking 0x34 (settingsBody 0x21 2 5) { calibrated base with now := now };
      let w := State.printableChanged
        { s.headGone 0x34 with
          battery := Battery.checked
            { s.battery with
              settings := { s.battery.settings with mediaType := .continuous, idleTime := 5, pitch := 0, gapLength := 0 } }
          media := { s.media with count := 0 } };
      s.settle = s ∧ settingsOf (settingsBody 0x21 2 5) s.battery.settings
          = some { s.battery.settings with mediaType := .continuous, idleTime := 5 }
        ∧ s.media.engine = .idle ∧ w.media.engine = .idle ∧ w.someReady = false
        ∧ (w.media.idleSince + 5 * 1000000 ≤ now ↔ now = 5000000)) := by
  refine ⟨⟨?_, ?_⟩, ⟨?_, ?_⟩, ⟨?_, ?_⟩, ?_⟩
  all_goals first
    | decide +kernel
    | exact takes (by decide +kernel)

/-! ### Ranges, bindings and orders -/

/-- A program in progress beside no erase, a running one and a suspended one; a byte just outside the program and the
sector on either side, and a byte of the program. -/
theorem witness_ResetLineAndPowerLossResetTheBlocks_bytes :
    ∀ e ∈ [EraseService.idle, .erasing (run none none), .suspended 4 1000],
      let s := erasing e [] (accessing (.program 36864 [0x00, 0x01]) 997000 base)
      s.flashSound ∧ s.array.erase = e
        ∧ s.array.busy = some { access := { client := .decoder, op := .program 36864 [0x00, 0x01] }, started := 997000 }
        ∧ (run none none).sector = 4
        ∧ (∀ a ∈ [36863, 36866, 16383, 20480], inSector 4 a = false ∧ (a < 36864 ∨ 36864 + 2 ≤ a))
        ∧ inSector 4 36864 = false ∧ inSector 4 16384 = true ∧ inSector 4 20479 = true := by
  unfold State.flashSound
  decide +kernel

/-- Each range of RECORD_BEGIN and of a record's name, at its ends and beyond them. -/
theorem witness_RecordBeginRefusedOrOpened_ranges :
    beginOf [0x46, 0, 1, 0x3F, 0xE0, 1] = some (.format, 1, 16352, true)
      ∧ beginOf [0x46, 3, 231, 0, 1, 0] = some (.format, 999, 1, false)
      ∧ beginOf [0x47, 0, 1, 0xFF, 0xE0, 0] = some (.image, 1, 65504, false)
      ∧ beginOf [0x53, 0, 1, 0x0F, 0xE0, 0] = some (.table, 1, 4064, false)
      ∧ (∀ b ∈ ([[0x46, 0, 1, 0x3F, 0xE1, 1], [0x47, 0, 1, 0xFF, 0xE1, 0], [0x53, 0, 1, 0x0F, 0xE1, 0],
          [0x46, 0, 0, 0, 1, 0], [0x46, 3, 232, 0, 1, 0], [0x46, 0, 1, 0, 0, 0], [0x46, 0, 1, 0, 1, 2],
          [0x45, 0, 1, 0, 1, 0]] : List (List Byte)), beginOf b = none)
      ∧ nameOf [0x46, 0, 1] = some (.format, 1) ∧ nameOf [0x53, 3, 231] = some (.table, 999)
      ∧ nameOf [0x46, 0, 0] = none ∧ nameOf [0x46, 3, 232] = none ∧ nameOf [0x48, 0, 1] = none := by decide

/-- An upload abandoned: a WRITING entry of the last 16 sectors, its sectors and no other queued behind one. -/
theorem witness_UploadAbandonedAndRecordRetired_sectors :
    let e : DirEntry := { writingEntry with kind := .image, firstSector := 2032, extentLen := 16, bodyLen := 65504 }
    let st : RecordStore :=
      { (uploading 0 none base).store with
        directory := [liveEntry, e], sectorMap := [(2, .queued), (5, .held)], eraseQueue := [2] }
    st.directory.filter (fun e => decide (e.state = .writing)) = [e]
      ∧ (bySector [e]).flatMap (fun e => extentSectors e.firstSector e.extentLen) = List.range' 2032 16
      ∧ st.abandon.eraseQueue = 2 :: List.range' 2032 16 ∧ sectorState st.abandon.sectorMap 2032 = .queued
      ∧ sectorState st.abandon.sectorMap 2047 = .queued ∧ sectorState st.abandon.sectorMap 2031 = .free
      ∧ sectorState st.abandon.sectorMap 5 = .held := by decide +kernel

/-- A suspension with an access of several and the last served, a read of a request in progress that no activity awaits
and a program of a RECORD_DATA with a piece left; and an array with no erase, accesses waiting and none. -/
theorem witness_EraseServiceTakesItsSteps_passOn :
    (∀ serving ∈ [[], [anAccess], [anAccess, anAccess]],
      let s := erasing (.suspended 2047 1000) [anAccess]
        { base with
          array := { base.array with
            serving := serving
            busy := some { access := { client := .orphan, op := .read 32767 }, started := 999960 } } }
      s.settle = s ∧ s.mode = .running ∧ s.array.erase = .suspended 2047 1000 ∧ s.array.serving = serving
        ∧ s.array.busy = some { access := { client := .orphan, op := .read 32767 }, started := 999960 } ∧ 32767 < 32768)
    ∧ (∀ serving ∈ [[], [anAccess]],
      let s := programming 0x02 (.data 300 [(37120, [1])]) (uploading 0 none base)
      let r := erasing (.suspended 2047 1000) [anAccess] { s with array := { s.array with serving := serving } }
      ProgramEnds r ∧ r.array.erase = .suspended 2047 1000 ∧ r.array.serving = serving
        ∧ r.dec.work = .data 300 ((37120, [1]) :: []))
    ∧ (erasing .idle [anAccess] base).array.waiting = anAccess :: []
    ∧ (erasing (.erasing (run none none)) [anAccess] base).array.erase = .erasing (run none none) := by
  unfold ProgramEnds
  decide +kernel

/-- A program of RECORD_DATA ends in a suspension, which served it last: its next piece waits for another, and the erase
goes on with its time and a progress window (R20). -/
theorem test_program_end_resumes_the_erase :
    let s := erasing (.suspended 2047 1000) []
      (programming 0x02 (.data 300 [(37120, [1])]) (uploading 0 none base))
    (match exec (.pageProgramEnd none) s with
      | .next t => decide (t.array.erase = .erasing ⟨2047, 1000, 1000000, some 1002000, none⟩ ∧ t.array.busy = none
          ∧ t.array.waiting = [{ client := .decoder, op := .program 37120 [1] }])
      | _ => false) = true := by decide +kernel

/-- Ids at the ends of their range; a COUNTER_DEFINE of 12 BASE36 digits up to the highest value of its width, and one
above; of a step of 1 and 0, 9,999 and 10,000; of a low bound above the high one; and of a start value outside both. -/
theorem witness_CounterRequestsRefusedOrTaken_ranges :
    let body (width alphabet : Byte) (low high start step : Nat) (codes : List Byte) : List Byte :=
      [1, width, alphabet] ++ toBytes 8 low ++ toBytes 8 high ++ toBytes 8 start ++ toBytes 2 step ++ codes
    (idOf [1] = some 1 ∧ idOf [64] = some 64 ∧ idOf [0] = none ∧ idOf [65] = none)
    ∧ counterDefOf (body 12 1 0 (36 ^ 12 - 1) 0 9999 [0, 0, 0])
        = some { width := 12, alphabet := .base36, low := 0, high := 36 ^ 12 - 1, start := 0, step := 9999,
                 direction := .up, endAction := .wrap, policy := .gap }
    ∧ counterDefOf (body 1 0 9 9 9 1 [1, 1, 1])
        = some { width := 1, alphabet := .decimal, low := 9, high := 9, start := 9, step := 1,
                 direction := .down, endAction := .halt, policy := .reuse }
    ∧ ∀ b ∈ [body 12 1 0 (36 ^ 12) 0 1 [0, 0, 0], body 13 0 0 9 0 1 [0, 0, 0], body 0 0 0 0 0 1 [0, 0, 0],
        body 1 0 0 10 0 1 [0, 0, 0], body 1 2 0 9 0 1 [0, 0, 0], body 1 0 5 4 5 1 [0, 0, 0], body 1 0 5 9 4 1 [0, 0, 0],
        body 1 0 5 8 9 1 [0, 0, 0], body 1 0 0 9 0 0 [0, 0, 0], body 1 0 0 9 0 10000 [0, 0, 0],
        body 1 0 0 9 0 1 [2, 0, 0], body 1 0 0 9 0 1 [0, 2, 0], body 1 0 0 9 0 1 [0, 0, 2]], counterDefOf b = none := by
  decide

/-- The body of a JOB_SUBMIT of format 7 with given items and slots. -/
def fullSubmit (tag format quantity : Nat) (copies priority noInterrupt darkness shift : Byte) (slots : List Slot) :
    List Byte :=
  toBytes 2 tag ++ toBytes 2 format ++ toBytes 2 quantity ++ [copies, priority, noInterrupt, darkness] ++ toBytes 2 240
    ++ [shift, shift, byte slots.length]
    ++ slots.flatMap fun x => byte x.number :: byte x.text.length :: x.text

/-- What a JOB_SUBMIT is refused with, or none. -/
def refusedWith (body : List Byte) : Option Reason :=
  match jobItemsOf body with
  | .ok _ => none
  | .error r => some r

/-- Every range of JOB_SUBMIT at its ends and beyond them; slot strings of 64 and 65 characters; 32 and 33 slots; a slot
number given twice; and a body too short and too long for its slots. -/
theorem witness_JobSubmitRefusedOrRead_ranges :
    let slot (n len : Nat) : Slot := { number := n, text := List.replicate len 65 }
    let slots (n : Nat) : List Slot := (List.range' 1 n).map fun i => slot i 1
    (jobItemsOf (fullSubmit 65535 999 9999 9 1 1 0xF6 0xC0 [slot 32 64])).toOption
        = some { tag := 65535, format := 999, quantity := 9999, copies := 9, priority := .rush, noInterrupt := true,
                 darkness := -10, speed := 225, shiftX := -64, shiftY := -64, slots := [slot 32 64] }
    ∧ (∀ b ∈ [fullSubmit 1 1 1 1 0 0 10 64 (slots 32), fullSubmit 1 1 1 1 0 0 0 0 [slot 1 0]], refusedWith b = none)
    ∧ (∀ b ∈ [fullSubmit 0 1 1 1 0 0 0 0 [], fullSubmit 1 0 1 1 0 0 0 0 [], fullSubmit 1 1000 1 1 0 0 0 0 [],
        fullSubmit 1 1 0 1 0 0 0 0 [], fullSubmit 1 1 10000 1 0 0 0 0 [], fullSubmit 1 1 1 0 0 0 0 0 [],
        fullSubmit 1 1 1 10 0 0 0 0 [], fullSubmit 1 1 1 1 2 0 0 0 [], fullSubmit 1 1 1 1 0 2 0 0 [],
        fullSubmit 1 1 1 1 0 0 11 0 [], fullSubmit 1 1 1 1 0 0 0xF5 0 [], fullSubmit 1 1 1 1 0 0 0 65 [],
        fullSubmit 1 1 1 1 0 0 0 0xBF [], fullSubmit 1 1 1 1 0 0 0 0 (slots 33), fullSubmit 1 1 1 1 0 0 0 0 [slot 0 1],
        fullSubmit 1 1 1 1 0 0 0 0 [slot 33 1], fullSubmit 1 1 1 1 0 0 0 0 [slot 2 1, slot 2 3]],
      refusedWith b = some .badValue)
    ∧ ∀ b ∈ [fullSubmit 0 1 1 1 0 0 0 0 [slot 1 65], fullSubmit 1 1 1 1 0 0 0 0 [slot 1 1] ++ [0],
        (fullSubmit 1 1 1 1 0 0 0 0 [slot 1 2]).dropLast], refusedWith b = some .badLength := by
  decide +kernel

/-- A geometry request before the renderer while a band is in hand, and with none. -/
def askingGeometry (s : State) : State := { s with dec := { s.dec with work := .awaitTable (slotItems "407") 0 96 [97] } }

/-- The part with the example's records whose renderer draws a band. -/
def busyShop : State :=
  { shop with
    queue := (drawing fresh []).queue
    render := (drawing fresh []).render }

/-- A geometry request made with a band in hand and with none; one that waits, taken and not; a bind of a name twice and
of one that has no LIVE entry. -/
theorem witness_SubmittedJobIsCheckedAndBound_geometry :
    (let s := busyShop;
      s.render.hand ≠ none ∧ s.store.live .table 3 = some tableEntry ∧ s.countersDefined [.slot 5] = true
        ∧ bodyPages tableEntry.firstSector 0 tableEntry.bodyLen = 96 :: [])
    ∧ (let s := askingGeometry busyShop;
      s.dec.work = .awaitTable (slotItems "407") 0 96 [97] ∧ s.mode = .running ∧ s.render.hand ≠ none ∧ s.settle = s)
    ∧ (let s := askingGeometry shop;
      s.dec.work = .awaitTable (slotItems "407") 0 96 [97] ∧ s.mode = .running ∧ s.render.hand = none)
    ∧ (let s : State := { askingGeometry shop with mode := .held };
      s.dec.work = .awaitTable (slotItems "407") 0 96 [97] ∧ s.mode ≠ .running)
    ∧ ((∀ n ∈ [(RecKind.format, 7)], shop.store.live n.1 n.2 ≠ none) ∧ shop.store.live .format 8 = none)
    ∧ (let found := fun names => match shop.store.bind names with
        | .ok (refs, _) => some refs
        | .error _ => none;
      found [(.format, 7)] = some [formatEntry.ref] ∧ shop.store.live .format 7 = some formatEntry
        ∧ formatEntry.ref ∈ [formatEntry.ref]
        ∧ shop.store.live .table 3 = some tableEntry ∧ tableEntry.ref ∉ [formatEntry.ref]
        ∧ found [(.table, 3), (.format, 7), (.table, 3)] = some [tableEntry.ref, formatEntry.ref]
        ∧ found [(.table, 3), (.format, 8)] = none) := by
  refine ⟨by decide +kernel, ⟨rfl, rfl, by decide +kernel, settled (by decide +kernel)⟩, ?_⟩
  decide +kernel

/-- A geometry request made while a band is drawn waits for its end, and its table is read after BAND_DRAWN, before the
drawing of the next band (R140). -/
theorem test_geometry_waits_for_the_drawing :
    let s := busyShop.submitFields (slotItems "407") [barcodeField] 0
    (s.dec.work = .awaitTable (slotItems "407") 0 96 [] ∧ s.array.busy = none)
    ∧ (match exec .bandDrawn s with
      | .next t =>
        match exec (.labelTaken false) t with
        | .next u => decide (t.render.hand = none ∧ t.array.busy = none
            ∧ u.dec.work = .submitTable (slotItems "407") 0 [] ∧ u.render.hand = none
            ∧ u.array.busy.map (fun b => b.access) = some { client := .decoder, op := .read 96 })
        | _ => false
      | _ => false) = true := by decide +kernel

/-- A renderer that a geometry request keeps from a band, waiting and reading; the rows of an image of 3 by 4 in a
band, at each rotation, at both ends of the band. -/
theorem witness_BandBuffersAreTakenAndCompleted_rows :
    (askingGeometry shop).dec.work = .awaitTable (slotItems "407") 0 96 [97]
    ∧ (let s := taking fresh 5;
      (∀ items field page left, s.dec.work ≠ .awaitTable items field page left)
        ∧ ∀ items field left, s.dec.work ≠ .submitTable items field left)
    ∧ (let i : Image := { width := 3, height := 4, rows := [0, 0, 0, 0] };
      let rows (rotation : Nat) (y : Int) (length : Nat) : List Nat :=
        imageRows { frame := .image i 2, x := 0, y := y, rotation := rotation, mode := .set } i 2 length 1;
      rows 0 61 200 = [1, 2, 3] ∧ rows 0 124 200 = [0, 1] ∧ rows 0 124 126 = [0]
        ∧ rows 2 61 200 = [0, 1, 2] ∧ rows 2 124 200 = [2, 3]
        ∧ rows 1 58 200 = [] ∧ rows 1 59 200 = [0, 1, 2, 3] ∧ rows 3 127 200 = [0, 1, 2, 3] ∧ rows 3 128 200 = []) := by
  refine ⟨rfl, ⟨nofun, nofun⟩, ?_⟩
  decide

/-- A source of each kind of part in list order, a slot not given, and the cut at 64 characters; values at the end of
their width; the digit 9 and the letter A. -/
theorem witness_FieldsAreDrawnInListOrder_source :
    let slots : List Slot := [{ number := 5, text := [52, 48] }]
    let values : List Drawn := [⟨1, 42, 6, .decimal⟩]
    sourceText slots values [.counter 1, .fixed [45], .slot 5, .slot 6] = "000042-40".toList.map Char.toNat
      ∧ sourceText slots values [.fixed (List.replicate 63 65), .slot 5] = List.replicate 63 65 ++ [52]
      ∧ (35 % 36 = 35 ∧ counterText 35 1 .base36 = counterText (35 / 36) 0 .base36 ++ [65 + (35 - 10)])
      ∧ (counterText 9 2 .base36 = [48, 57] ∧ counterText 10 2 .base36 = [48, 65] ∧ counterText 10 1 .decimal = [48]) := by
  decide

/-- A table that shows its check character, with a value for it, one that does not show it, and one without a rule. -/
theorem witness_BarcodeIsLaidOutFromItsTable_text :
    (tableS3.shown = true ∧ tableS3.checkValue [52, 48, 55] = some 7 ∧ tableS3.byValue 7 = some ⟨55, 7, [1, 1, 2, 2, 1]⟩)
    ∧ { tableS3 with shown := false }.shown = false
    ∧ { tableS3 with rule := .none }.rule = .none := by decide

/-- A label whose line 5 is held for want of its band, the reason cleared, with room for the notice of the exit and a
temperature that holds the line start again. -/
def heldAgain : State :=
  let s := printing 5 base
  { s with
    burn := { s.burn with theta := 75 }
    media := { s.media with engine := .hold, holds := ⟨true, false, false⟩ } }

theorem witness_LabelStartRestAndFaultPath_held :
    let s := heldAgain
    let failed : Holds := ⟨(s.lineBuffer (ticket 3 1 .printing) 5).isNone, decide (75 ≤ s.burn.theta), decide (s.burn.supply < 180)⟩
    s.mode = .running ∧ s.line.restart = none ∧ s.queue.ending = [] ∧ s.media.engine = .hold ∧ s.media.notice = none
      ∧ s.media.labelLine = .standing 5 ∧ s.printing = some (ticket 3 1 .printing) ∧ s.burn.values = some values
      ∧ failed = ⟨false, true, false⟩ ∧ failed ≠ ⟨false, false, false⟩
      ∧ (engineFrame ⟨.printing, 0, .hold, holdBits s.media.holds, s.media.count, 1⟩).length ≤ s.freeRoom := by
  decide +kernel

/-- The new hold at the line start taken again has an ENGINE notice of its own, behind that of the exit (R158). -/
theorem test_new_hold_has_its_own_notice :
    let t := heldAgain.resumePrinting
    t.media.engine = .hold ∧ t.media.holds = ⟨false, true, false⟩
      ∧ t.line.output = engineFrame ⟨.printing, 0, .hold, holdBits ⟨true, false, false⟩, 0, 1⟩
      ∧ t.media.notice = some ⟨.hold, holdBits ⟨false, true, false⟩, .printing, 0, 0, 1⟩ := by decide +kernel

/-- A label presented under PEEL at distance 0 found taken, with a label READY and with none, power up and down; and an
engine that presents with none out. -/
theorem witness_LabelIsPresentedAndTaken_atOnce :
    (∀ tickets ∈ [[], [ticket 3 1 .ready]], ∀ power ∈ [false, true],
      let s := queued [job 3] tickets (presented .peel 0);
      let r : State := { s with media := { s.media with power := power } };
      r.settle = r ∧ r.mode = .running ∧ r.media.engine = .presented ∧ r.media.presentedUnder = .peel
        ∧ r.media.out = some 0 ∧ r.queue.tickets.map Ticket.state = tickets.map Ticket.state)
    ∧ (let s : State := { presented .peel 0 with media := { (presented .peel 0).media with out := none } };
      s.settle = s ∧ s.mode = .running ∧ s.media.engine = .presented ∧ s.media.presentedUnder = .peel
        ∧ s.media.out = none) := by decide +kernel

/-- RESUME from FAULT with a label that stands at a line start. -/
theorem witness_PauseAndResume_standing :
    let s : State :=
      { printing 5 base with media := { (printing 5 base).media with engine := .fault, attention := true } }
    Takes 0x31 [] (asking 0x31 [] s) ∧ (asking 0x31 [] s).media.engine = .fault
      ∧ (asking 0x31 [] s).media.causes.condition = false ∧ (asking 0x31 [] s).media.labelLine = .standing 5 := by
  refine ⟨?_, ?_⟩
  all_goals first
    | decide +kernel
    | exact takes (by decide +kernel)

/-- Every range of Table 8-4 at its ends and beyond them, each with its presence bit set and clear; a tenth presence
bit. -/
theorem witness_SettingsAreSetAndRead_ranges :
    let old := base.battery.settings
    let body (presence : Nat) (media present distance : Byte) (offset : Nat) (resume : Byte) (idle : Nat)
        (h1 h2 h3 : Byte) : List Byte :=
      toBytes 2 presence ++ [media, present, distance] ++ toBytes 2 offset ++ [resume] ++ toBytes 2 idle ++ [h1, h2, h3]
    settingsOf (body 511 2 2 200 831 1 600 16 16 16) old
        = some { old with mediaType := .continuous, presentation := .stream, presentDistance := 200, leftOffset := 831,
                          autoResume := true, idleTime := 600, h1 := 16, h2 := 16, h3 := 16 }
    ∧ settingsOf (body 511 1 1 0 0 0 5 4 4 4) old
        = some { old with mediaType := .mark, presentation := .peel, presentDistance := 0, leftOffset := 0,
                          autoResume := false, idleTime := 5, h1 := 4, h2 := 4, h3 := 4 }
    ∧ settingsOf (body 511 0 0 0 0 0 0 4 4 4) old
        = some { old with mediaType := .gap, presentation := .tear, presentDistance := 0, leftOffset := 0,
                          autoResume := false, idleTime := 0, h1 := 4, h2 := 4, h3 := 4 }
    ∧ settingsOf (body 0 3 3 201 832 2 601 17 17 17) old = some old
    ∧ settingsOf (body 512 0 0 0 0 0 0 4 4 4) old = none
    ∧ (∀ i ∈ List.range 9, settingsOf (body (2 ^ i) 3 3 201 832 2 601 17 17 17) old = none)
    ∧ (settingsOf (body 32 0 0 0 0 0 4 0 0 0) old = none ∧ settingsOf (body 32 0 0 0 0 0 1 0 0 0) old = none)
    ∧ ∀ i ∈ [6, 7, 8], settingsOf (body (2 ^ i) 0 0 0 0 0 0 3 3 3) old = none := by decide +kernel

end Sys2Proof.Tests
end

section
/-! SUPPORT. The draw from one counter and its advance, case by case (R81, R82), and the obligation on them. -/

namespace Sys2Proof.Machine

/-! ### The advance (R82) -/

theorem Counter.passBound_of_wrap {c : Counter} (h : c.defn.endAction = .wrap) :
    c.passBound = { c with current := c.defn.start } := by
  simp [Counter.passBound, h]

theorem Counter.passBound_of_halt {c : Counter} (h : c.defn.endAction = .halt) :
    c.passBound = { c with state := .exhausted } := by
  simp [Counter.passBound, h]

theorem Counter.advance_of_up_of_le {c : Counter} (hd : c.defn.direction = .up)
    (hle : c.current + c.defn.step ≤ c.defn.high) :
    c.advance = { c with current := c.current + c.defn.step } := by
  simp [Counter.advance, hd, hle]

theorem Counter.advance_of_down_of_le {c : Counter} (hd : c.defn.direction = .down)
    (hle : c.defn.low + c.defn.step ≤ c.current) :
    c.advance = { c with current := c.current - c.defn.step } := by
  simp [Counter.advance, hd, hle]

/-- The next value in the counter's direction would pass its bound. -/
def Counter.PastBound (c : Counter) : Prop :=
  (c.defn.direction = .up ∧ c.defn.high < c.current + c.defn.step)
    ∨ (c.defn.direction = .down ∧ c.current < c.defn.low + c.defn.step)

theorem Counter.advance_of_pastBound {c : Counter} (h : c.PastBound) : c.advance = c.passBound := by
  obtain ⟨hd, hlt⟩ | ⟨hd, hlt⟩ := h
  · simp [Counter.advance, hd, Nat.not_le.mpr hlt]
  · simp [Counter.advance, hd, Nat.not_le.mpr hlt]

theorem Counter.advance_of_pastBound_of_wrap {c : Counter} (h : c.PastBound) (hw : c.defn.endAction = .wrap) :
    c.advance = { c with current := c.defn.start } :=
  (Counter.advance_of_pastBound h).trans (Counter.passBound_of_wrap hw)

theorem Counter.advance_of_pastBound_of_halt {c : Counter} (h : c.PastBound) (hh : c.defn.endAction = .halt) :
    c.advance = { c with state := .exhausted } :=
  (Counter.advance_of_pastBound h).trans (Counter.passBound_of_halt hh)

/-- Everything an advance can do: a step up, a step down, or an advance past the bound. -/
theorem Counter.advance_cases (c : Counter) :
    (c.current + c.defn.step ≤ c.defn.high ∧ c.advance = { c with current := c.current + c.defn.step })
    ∨ (c.defn.low + c.defn.step ≤ c.current ∧ c.advance = { c with current := c.current - c.defn.step })
    ∨ (c.PastBound ∧ c.advance = c.passBound) := by
  cases hd : c.defn.direction with
  | up =>
    obtain hle | hlt := le_or_gt (c.current + c.defn.step) c.defn.high
    · exact .inl ⟨hle, Counter.advance_of_up_of_le hd hle⟩
    · have hp : c.PastBound := .inl ⟨hd, hlt⟩
      exact .inr (.inr ⟨hp, Counter.advance_of_pastBound hp⟩)
  | down =>
    obtain hle | hlt := le_or_gt (c.defn.low + c.defn.step) c.current
    · exact .inr (.inl ⟨hle, Counter.advance_of_down_of_le hd hle⟩)
    · have hp : c.PastBound := .inr ⟨hd, hlt⟩
      exact .inr (.inr ⟨hp, Counter.advance_of_pastBound hp⟩)

/-- A number lies within the low and high bounds of a counter. -/
def Counter.Within (c : Counter) (v : Nat) : Prop := c.defn.low ≤ v ∧ v ≤ c.defn.high

theorem Counter.passBound_within {c : Counter} (hs : c.Within c.defn.start) (hc : c.Within c.current) :
    c.Within c.passBound.current := by
  cases he : c.defn.endAction with
  | wrap => simpa [Counter.passBound_of_wrap he] using hs
  | halt => simpa [Counter.passBound_of_halt he] using hc

theorem Counter.advance_within {c : Counter} (hs : c.Within c.defn.start) (hc : c.Within c.current) :
    c.Within c.advance.current := by
  obtain ⟨hlow, hhigh⟩ := hc
  obtain ⟨hle, ha⟩ | ⟨hle, ha⟩ | ⟨-, ha⟩ := c.advance_cases
  · rw [ha]
    exact ⟨Nat.le_add_right_of_le hlow, hle⟩
  · rw [ha]
    exact ⟨Nat.le_sub_of_add_le hle, (Nat.sub_le ..).trans hhigh⟩
  · rw [ha]
    exact Counter.passBound_within hs ⟨hlow, hhigh⟩

/-- From any value within the bounds, a step larger than the whole range passes the bound. -/
theorem Counter.pastBound_of_range_lt_step {c : Counter} (hc : c.Within c.current)
    (hstep : c.defn.high - c.defn.low < c.defn.step) : c.PastBound := by
  obtain ⟨hlow, hhigh⟩ := hc
  cases hd : c.defn.direction with
  | up => exact .inl ⟨hd, by omega⟩
  | down => exact .inr ⟨hd, by omega⟩

/-! ### The draw (R81) -/

theorem Counter.issue_of_returns_cons {c : Counter} {v : Nat} {rest : List Nat} (h : c.returns = v :: rest) :
    c.issue = some (v, { c with returns := rest }) := by
  simp [Counter.issue, h]

theorem Counter.issue_of_active {c : Counter} (h : c.returns = []) (hs : c.state = .active) :
    c.issue = some (c.current, c.advance) := by
  simp [Counter.issue, h, hs]

theorem Counter.issue_of_not_active {c : Counter} (h : c.returns = []) (hs : c.state ≠ .active) :
    c.issue = none := by
  simp [Counter.issue, h, hs]

/-- Settles O33: each clause is one case of the draw or of the advance; a step larger than the range is past the
bound from wherever the current value stands. -/
theorem counterIssuesAndAdvances : Obligations.CounterIssuesAndAdvances := by
  unfold Obligations.CounterIssuesAndAdvances
  refine ⟨fun _ _ _ => Counter.issue_of_returns_cons,
    fun _ hr => ⟨Counter.issue_of_active hr, Counter.issue_of_not_active hr⟩, ?bounds, ?cases⟩
  case bounds =>
    intro c hstartLow hstartHigh hlow hhigh
    refine ⟨Counter.advance_within ⟨hstartLow, hstartHigh⟩ ⟨hlow, hhigh⟩, fun hstep => ?_⟩
    have hpast : c.PastBound := Counter.pastBound_of_range_lt_step ⟨hlow, hhigh⟩ hstep
    exact ⟨Counter.advance_of_pastBound_of_wrap hpast, Counter.advance_of_pastBound_of_halt hpast⟩
  case cases =>
    intro c
    exact ⟨Counter.advance_of_up_of_le, Counter.advance_of_down_of_le, fun hpast =>
      ⟨Counter.advance_of_pastBound_of_wrap hpast, Counter.advance_of_pastBound_of_halt hpast⟩⟩

end Sys2Proof.Machine
end

section
/-! SUPPORT. A line start's outcome (R153), the class-0 pulse and the pulses by history class with their limits (R146,
R147), and the obligation on them. -/

namespace Sys2Proof.Machine

/-! ### The outcome of a line start (R153) -/

theorem State.lineChecks_none_iff {s : State} {t : Ticket} {n : Nat} :
    (s.lineChecks t n).none = true
      ↔ (s.lineBuffer t n).isSome = true ∧ s.burn.theta < 75 ∧ 180 ≤ s.burn.supply := by
  cases h : s.lineBuffer t n <;> simp [State.lineChecks, Holds.none, h]

theorem State.lineStart_of_passed {s : State} {t : Ticket} {v : LabelValues} {n i : Nat} (ht : s.printing = some t)
    (hv : s.burn.values = some v) (hi : s.lineBuffer t n = some i) (hpass : (s.lineChecks t n).none = true) :
    s.lineStart n = s.loadLine n i t v := by
  simp [State.lineStart, ht, hv, hi, hpass]

theorem State.lineStart_of_failed {s : State} {t : Ticket} {v : LabelValues} {n : Nat} (ht : s.printing = some t)
    (hv : s.burn.values = some v) (hfail : (s.lineChecks t n).none ≠ true) :
    s.lineStart n = s.requestHold (s.lineChecks t n) := by
  cases hi : s.lineBuffer t n with
  | none => simp [State.lineStart, ht, hv, hi]
  | some i => simp [State.lineStart, ht, hv, hi, hfail]

@[simp] theorem State.requestHold_burn_line (reasons : Holds) (s : State) :
    (s.requestHold reasons).burn.line = s.burn.line := by
  cases h : reasons.supply <;> simp [State.requestHold, h]

theorem State.loadLine_burn_line (n i : Nat) (t : Ticket) (v : LabelValues) (s : State) :
    ∃ l : LineInHand, (s.loadLine n i t v).burn.line = some l
      ∧ l.p0 = pulseZero v.darkness s.burn.theta s.burn.supply
      ∧ l.dots = (s.burn.afterStop s.now).pulses v l.p0
          (windowDots ((s.render.buffers.getD i Buffer.empty).dots.getD (n % Config.bandLines) [])
            (s.ticketFormat t).width v.leftOffset) := by
  simp [State.loadLine]

/-! ### The class-0 pulse (R146) -/

theorem clampInt_within (lo hi v : Int) (h : lo ≤ hi) : lo ≤ clampInt lo hi v ∧ clampInt lo hi v ≤ hi :=
  ⟨le_max_left .., max_le h (min_le_left ..)⟩

/-- With the clamped temperature a natural number, the middle stage is one of natural numbers. -/
theorem pulseTemperature_of_clamped {theta : Int} {c : Nat} (hc : (c : Int) = max 0 (min 60 theta)) (base : Nat) :
    pulseTemperature base theta = base * (1250 - 10 * c) / 1000 := by
  have hfactor : (1000 + 10 * (25 - clampInt 0 60 theta)).toNat = 1250 - 10 * c := by
    rw [clampInt, ← hc]
    omega
  rw [pulseTemperature, hfactor]

theorem pulseZero_of_clamped {theta : Int} {supply c w : Nat} (hc : (c : Int) = max 0 (min 60 theta))
    (hw : w = max 200 (min 260 supply)) (darkness : Nat) :
    pulseZero darkness theta supply = (200 + 10 * darkness) * (1250 - 10 * c) / 1000 * 57600 / (w * w) := by
  rw [pulseZero, ← hw, pulseTemperature_of_clamped hc, pulseBase]

theorem pulseTemperature_within {darkness : Nat} (hd : darkness ≤ 30) (theta : Int) :
    130 ≤ pulseTemperature (pulseBase darkness) theta ∧ pulseTemperature (pulseBase darkness) theta ≤ 625 := by
  obtain ⟨hcold, hhot⟩ := clampInt_within 0 60 theta (by decide)
  unfold pulseTemperature pulseBase
  generalize hf : (1000 + 10 * (25 - clampInt 0 60 theta)).toNat = f
  have hlow : 200 * 650 ≤ (200 + 10 * darkness) * f := Nat.mul_le_mul (by omega) (by omega)
  have hhigh : (200 + 10 * darkness) * f ≤ 500 * 1250 := Nat.mul_le_mul (by omega) (by omega)
  omega

/-- The limits of Table 7-2 for the class-0 pulse. -/
theorem pulseZero_within {darkness : Nat} (hd : darkness ≤ 30) (theta : Int) (supply : Nat) :
    110 ≤ pulseZero darkness theta supply ∧ pulseZero darkness theta supply ≤ 900 := by
  obtain ⟨hlow, hhigh⟩ := pulseTemperature_within hd theta
  unfold pulseZero
  generalize hw : max 200 (min 260 supply) = w
  have hsquareLow : 200 * 200 ≤ w * w := Nat.mul_le_mul (by omega) (by omega)
  have hsquareHigh : w * w ≤ 260 * 260 := Nat.mul_le_mul (by omega) (by omega)
  constructor
  · rw [Nat.le_div_iff_mul_le (by omega)]
    omega
  · exact Nat.div_le_of_le_mul (by omega)

/-! ### The pulses by history class (R147) -/

@[simp] theorem dotPulse_sixteen (p0 : Nat) : dotPulse p0 16 = p0 := by
  simp [dotPulse]

theorem dotPulse_within {p0 h : Nat} (hp : 110 ≤ p0) (hlow : 4 ≤ h) (hhigh : h ≤ 16) :
    27 ≤ dotPulse p0 h ∧ dotPulse p0 h ≤ p0 := by
  have hleast : 110 * 4 ≤ p0 * h := Nat.mul_le_mul hp hlow
  have hmost : p0 * h ≤ p0 * 16 := Nat.mul_le_mul_left p0 hhigh
  unfold dotPulse
  omega

/-- Every class's entry is 16 or one of the table's three, so it lies within their range. -/
theorem LabelValues.entry_within {v : LabelValues} (hv : ∀ h ∈ [v.h1, v.h2, v.h3], 4 ≤ h ∧ h ≤ 16)
    (previous before : Bool) : 4 ≤ v.entry previous before ∧ v.entry previous before ≤ 16 := by
  match previous, before with
  | false, false => exact (by decide : 4 ≤ 16 ∧ 16 ≤ 16)
  | false, true => exact hv v.h1 (by simp)
  | true, false => exact hv v.h2 (by simp)
  | true, true => exact hv v.h3 (by simp)

/-- The pulse of a head dot after a history: P0 scaled by the entry of the dot's class. -/
def Burn.classPulse (v : LabelValues) (p0 dot : Nat) (b : Burn) : Nat :=
  dotPulse p0 (v.entry (b.previous.contains dot) (b.before.contains dot))

theorem Burn.pulse_of_mem_pulses {v : LabelValues} {p0 : Nat} {dots : List Nat} {b : Burn} {d : DotPulse}
    (h : d ∈ b.pulses v p0 dots) : d.pulse = b.classPulse v p0 d.dot := by
  obtain ⟨dot, -, rfl⟩ := List.mem_map.mp h
  rfl

/-- The pulse of each of the four history classes. -/
theorem Burn.classPulse_cases (v : LabelValues) (p0 dot : Nat) (b : Burn) :
    (dot ∉ b.previous → dot ∉ b.before → b.classPulse v p0 dot = p0)
    ∧ (dot ∉ b.previous → dot ∈ b.before → b.classPulse v p0 dot = p0 * v.h1 / 16)
    ∧ (dot ∈ b.previous → dot ∉ b.before → b.classPulse v p0 dot = p0 * v.h2 / 16)
    ∧ (dot ∈ b.previous → dot ∈ b.before → b.classPulse v p0 dot = p0 * v.h3 / 16) := by
  unfold Burn.classPulse
  refine ⟨fun hp hb => ?_, fun hp hb => ?_, fun hp hb => ?_, fun hp hb => ?_⟩
  · simp [hp, hb, LabelValues.entry]
  · simp [hp, hb, LabelValues.entry, dotPulse]
  · simp [hp, hb, LabelValues.entry, dotPulse]
  · simp [hp, hb, LabelValues.entry, dotPulse]

/-- Settles O46: below a supply of 180 the line is held and the line in hand stays; otherwise it is loaded with the
class-0 pulse, and each dot of it has the pulse of its class. -/
theorem pulsesOfALineAreComputed : Obligations.PulsesOfALineAreComputed := by
  unfold Obligations.PulsesOfALineAreComputed
  refine ⟨?line, rfl, rfl, rfl⟩
  intro s n i c w t v b ht hv hi htheta hb hc hw
  subst hb
  constructor
  · intro hsupply
    have hfail : (s.lineChecks t n).none ≠ true := by
      rw [Ne, State.lineChecks_none_iff]
      omega
    rw [State.lineStart_of_failed ht hv hfail, State.requestHold_burn_line]
  · intro hsupply
    have hpass : (s.lineChecks t n).none = true :=
      State.lineChecks_none_iff.mpr ⟨Option.isSome_of_eq_some hi, htheta, hsupply⟩
    obtain ⟨l, hline, hp0, hdots⟩ := State.loadLine_burn_line n i t v s
    have hpulse : ∀ d ∈ l.dots, d.pulse = (s.burn.afterStop s.now).classPulse v l.p0 d.dot :=
      fun d hd => Burn.pulse_of_mem_pulses (hdots ▸ hd)
    refine ⟨l, ?_, hp0.trans (pulseZero_of_clamped hc hw _), fun d hd => ?_, fun hdark => ?_⟩
    · rw [State.lineStart_of_passed ht hv hi hpass, hline]
    · rw [hpulse d hd]
      exact Burn.classPulse_cases ..
    · have hwithin : 110 ≤ l.p0 ∧ l.p0 ≤ 900 := hp0 ▸ pulseZero_within hdark ..
      obtain ⟨hlow, hhigh⟩ := hwithin
      refine ⟨hlow, hhigh, fun hentries d hd => ?_⟩
      obtain ⟨hleast, hmost⟩ := LabelValues.entry_within hentries _ _
      rw [hpulse d hd]
      exact dotPulse_within hlow hleast hmost

end Sys2Proof.Machine
end

section
/-! SUPPORT. The attention line and the counter hold (R101, R178): what makes them agree with the engine and the jobs, and
the operations of the line, the renderer and the Job Queue. An operation that changes the engine's state or a job's reason
COUNTER ends by setting the line from them, and every other one leaves all of them alone. A lemma
`State.attentionSound.f` says that `f` leads from a sound state to a sound one, and `State.f_attentionSound` that it leads
to one from any state. -/

namespace Sys2Proof.Machine

variable {s : State}

/-! ### What establishes the agreement (R101, R178) -/

/-- The line set from the engine's state and the counter hold agrees, whatever it was before. -/
theorem State.attentionSound.of_followAttention (hc : s.media.counterHold = s.queue.jobs.any Job.holdCounter) :
    s.followAttention.attentionSound := ⟨hc, rfl⟩

/-- The Job Queue's report makes the counter hold and the line agree, whatever they were before. -/
theorem State.syncCounterHold_attentionSound (s : State) : s.syncCounterHold.attentionSound :=
  .of_followAttention rfl

/-- What the agreement speaks of: the engine's state, the counter hold, the line, and whether a job holds COUNTER. A
state with all four as in a sound one is sound. -/
theorem State.attentionSound.of_held {t : State} (h : s.attentionSound)
    (hj : t.queue.jobs.any Job.holdCounter = s.queue.jobs.any Job.holdCounter)
    (he : t.media.engine = s.media.engine := by rfl) (hc : t.media.counterHold = s.media.counterHold := by rfl)
    (ha : t.media.attention = s.media.attention := by rfl) : t.attentionSound := by
  unfold State.attentionSound
  rw [he, hc, ha, hj]
  exact h

/-- A change of the Media Tracker that leaves the counter hold alone: the line follows it (R178). -/
theorem State.attentionSound.transit {f : Media → Media} (h : s.attentionSound)
    (hf : (f s.media).counterHold = s.media.counterHold) : (s.transit f).attentionSound := by
  refine .of_followAttention ?_
  obtain ⟨hold, -⟩ := h
  dsimp only
  split <;> split <;> exact hf.trans hold

/-! ### The jobs that hold COUNTER -/

/-- A change of jobs that leaves each one's reason COUNTER alone. -/
theorem anyHoldCounter_map {g : Job → Job} (hg : ∀ j, (g j).holdCounter = j.holdCounter) (jobs : List Job) :
    (jobs.map g).any Job.holdCounter = jobs.any Job.holdCounter := by
  rw [List.any_map]
  exact congrArg jobs.any (funext hg)

/-- A job changed in place, its reason COUNTER left alone. -/
theorem State.attentionSound.of_updateJob {t : State} {tag : Nat} {f : Job → Job} (h : s.attentionSound)
    (hm : t.media = s.media) (hj : t.queue.jobs = (s.queue.updateJob tag f).jobs)
    (hf : ∀ j, (f j).holdCounter = j.holdCounter) : t.attentionSound := by
  refine h.of_held ?_ (by rw [hm]) (by rw [hm]) (by rw [hm])
  rw [hj]
  exact anyHoldCounter_map (fun j => by split <;> simp [hf]) s.queue.jobs

theorem splitRush_append (jobs : List Job) : (splitRush jobs).1 ++ (splitRush jobs).2 = jobs := by
  rw [splitRush, ← List.reverse_append, List.takeWhile_append_dropWhile, List.reverse_reverse]

/-- A job inserted without the reason COUNTER, at either place. -/
theorem anyHoldCounter_insertJob {j : Job} (hj : j.holdCounter = false) (jobs : List Job) :
    (insertJob j jobs).any Job.holdCounter = jobs.any Job.holdCounter := by
  unfold insertJob
  split
  · rw [List.any_append, List.any_cons, hj, Bool.false_or, ← List.any_append, splitRush_append]
  · simp [hj]

/-! ### The clock, the array, the line and the Decoder -/

theorem State.attentionSound.atLeast {time : Nat} (h : s.attentionSound) : (s.atLeast time).attentionSound := h

theorem State.attentionSound.passOn (h : s.attentionSound) : s.passOn.attentionSound := h

theorem State.attentionSound.beginSending (h : s.attentionSound) : s.beginSending.attentionSound := by
  unfold State.beginSending
  split <;> exact h

@[simp] theorem State.beginSending_queue (s : State) : s.beginSending.queue = s.queue := by
  unfold State.beginSending
  split <;> rfl

@[simp] theorem State.place_queue (frame : List Byte) (s : State) : (s.place frame).queue = s.queue := by
  simp [State.place]

theorem State.attentionSound.place {frame : List Byte} (h : s.attentionSound) : (s.place frame).attentionSound :=
  .beginSending h

theorem State.attentionSound.wakeDecoder (h : s.attentionSound) : s.wakeDecoder.attentionSound := by
  unfold State.wakeDecoder
  split <;> exact h

theorem State.attentionSound.reply {kind : Byte} {body : List Byte} (h : s.attentionSound) :
    (s.reply kind body).attentionSound := by
  refine .wakeDecoder ?_
  split <;> exact .place h

theorem State.attentionSound.ok {payload : List Byte} (h : s.attentionSound) : (s.ok payload).attentionSound := .reply h

theorem State.attentionSound.refuse {reason : Reason} {detail : Nat} (h : s.attentionSound) :
    (s.refuse reason detail).attentionSound := .reply h

theorem State.attentionSound.takeHead {item : InItem} (h : s.attentionSound) : (s.takeHead item).attentionSound :=
  h.of_held (by simp) (by simp) (by simp) (by simp)

theorem State.attentionSound.begun {kind : Byte} (h : s.attentionSound) : (s.begun kind).attentionSound := by
  unfold State.begun
  split <;> exact h

theorem State.attentionSound.onRequest {code : Nat} {run : List Byte → State → State} (h : s.attentionSound)
    (hrun : ∀ {body : List Byte} {x : State}, x.attentionSound → (run body x).attentionSound) :
    (s.onRequest code run).attentionSound := by
  unfold State.onRequest
  repeat' split
  · exact hrun h.begun
  · exact h.begun.refuse
  · exact h
  · exact h

/-! ### Rendering (sections 6.1 and 6.2) -/

theorem State.attentionSound.abandonDrawing {keys : List TicketKey} (h : s.attentionSound) :
    (s.abandonDrawing keys).attentionSound := by
  unfold State.abandonDrawing
  repeat' split
  all_goals exact h

theorem State.attentionSound.freeTickets {keys : List TicketKey} (h : s.attentionSound) :
    (s.freeTickets keys).attentionSound := h.abandonDrawing (keys := keys)

theorem State.attentionSound.readHand (h : s.attentionSound) : s.readHand.attentionSound := by
  unfold State.readHand
  repeat' split
  all_goals exact h

theorem State.attentionSound.takeBuffer {i : Nat} {t : Ticket} (h : s.attentionSound) :
    (s.takeBuffer i t).attentionSound := .readHand h

theorem State.attentionSound.askGeometry {items : JobItems} {field page : Nat} {left : List Nat}
    (h : s.attentionSound) : (s.askGeometry items field page left).attentionSound := by
  unfold State.askGeometry
  split <;> exact h

theorem State.attentionSound.takeGeometry (h : s.attentionSound) : s.takeGeometry.attentionSound := by
  unfold State.takeGeometry
  repeat' split
  all_goals exact h

theorem State.attentionSound.renderNext (h : s.attentionSound) : s.renderNext.attentionSound := by
  unfold State.renderNext
  repeat' split
  · exact h
  · exact .takeBuffer h
  · exact h
  · exact h

theorem State.attentionSound.printableChanged (h : s.attentionSound) : s.printableChanged.attentionSound :=
  .renderNext (.freeTickets h)

/-! ### The Job Queue (chapter 5) -/

theorem State.clearBlocked_attentionSound (ids : List Nat) (s : State) : (s.clearBlocked ids).attentionSound :=
  State.syncCounterHold_attentionSound _

theorem State.attentionSound.suspendRunning (h : s.attentionSound) : s.suspendRunning.attentionSound :=
  h.of_held (anyHoldCounter_map (fun j => by split <;> rfl) _)

theorem State.attentionSound.appendTicket {t : Ticket} (h : s.attentionSound) : (s.appendTicket t).attentionSound :=
  .renderNext h

theorem State.attentionSound.createCopy {tag label copy copies : Nat} {values : List Drawn} (h : s.attentionSound) :
    (s.createCopy tag label copy copies values).attentionSound :=
  .appendTicket (h.of_updateJob rfl rfl fun _ => rfl)

theorem State.attentionSound.createReprint {l : LastLabel} (h : s.attentionSound) :
    (s.createReprint l).attentionSound := .appendTicket h

theorem Job.afterChoice_holdCounter (tag : Nat) (j : Job) : (j.afterChoice tag).holdCounter = j.holdCounter := by
  unfold Job.afterChoice
  repeat' split
  all_goals rfl

theorem State.attentionSound.createGroup {j : Job} {values : List Drawn} {cs : List Counter} (h : s.attentionSound) :
    (s.createGroup j values cs).attentionSound :=
  .appendTicket (h.of_held (anyHoldCounter_map (Job.afterChoice_holdCounter _) _))

/-- A failed draw ends with the Job Queue's report, of the job it holds too (R80, R101). -/
theorem State.drawFailed_attentionSound (tag counter : Nat) (a : ReturnAnswer) (s : State) :
    (s.drawFailed tag counter a).attentionSound := State.syncCounterHold_attentionSound _

theorem State.attentionSound.choose (fuel : Nat) (h : s.attentionSound) : (State.choose fuel s).attentionSound := by
  induction fuel generalizing s with
  | zero => exact h.suspendRunning
  | succ fuel ih =>
    unfold State.choose
    split
    · exact h.createCopy
    · exact h.createReprint
    · exact h.suspendRunning
    · split
      · exact h.createGroup
      · exact ih (State.drawFailed_attentionSound ..)

theorem State.attentionSound.boundary (h : s.attentionSound) : s.boundary.attentionSound := by
  unfold State.boundary
  split
  · exact h.choose _
  · exact h

theorem State.attentionSound.reportAble {ids : List Nat} (h : s.attentionSound) :
    (s.reportAble ids).attentionSound := by
  unfold State.reportAble
  split
  · exact .boundary (s.clearBlocked_attentionSound ids)
  · exact h

theorem State.attentionSound.endJob {tag : Nat} {outcome : JobOutcome} (h : s.attentionSound) :
    (s.endJob tag outcome).attentionSound :=
  h.of_updateJob rfl rfl fun _ => rfl

theorem State.departJob_attentionSound (j : Job) (s : State) : (s.departJob j).attentionSound :=
  State.syncCounterHold_attentionSound _

theorem State.attentionSound.settleGroup {j : Job} {t : Ticket} (h : s.attentionSound) :
    (s.settleGroup j t).attentionSound := by
  unfold State.settleGroup
  repeat' split
  · exact h.of_updateJob rfl rfl fun _ => rfl
  · exact h
  · exact h

theorem State.attentionSound.endIfDone {tag : Nat} (h : s.attentionSound) : (s.endIfDone tag).attentionSound := by
  unfold State.endIfDone
  split
  · split
    · exact h.endJob
    · exact h
  · exact h

theorem State.attentionSound.replaceLast {l : LastLabel} (h : s.attentionSound) : (s.replaceLast l).attentionSound := h

theorem State.attentionSound.completeTicket {t : Ticket} (h : s.attentionSound) :
    (s.completeTicket t).attentionSound := by
  unfold State.completeTicket
  dsimp only
  split
  · split
    · refine .boundary (.endIfDone (.replaceLast (.settleGroup ?_)))
      exact h.of_updateJob rfl rfl fun _ => rfl
    · exact .boundary h
  · exact .boundary h

theorem State.attentionSound.voidTicket {t : Ticket} (h : s.attentionSound) : (s.voidTicket t).attentionSound := by
  refine .renderNext ?_
  cases ht : t.key.source with
  | some tag => exact h.of_updateJob (tag := tag) rfl rfl fun _ => rfl
  | none => exact h

theorem State.attentionSound.cancelJob {tag : Nat} (h : s.attentionSound) : (s.cancelJob tag).1.attentionSound := by
  unfold State.cancelJob
  dsimp only
  split
  · exact .freeTickets (h.of_updateJob rfl rfl fun _ => rfl)
  · exact .endJob (.freeTickets (h.of_updateJob rfl rfl fun _ => rfl))

theorem State.afterCancel_attentionSound (discarded : Nat) (able : List Nat) (s : State) :
    (s.afterCancel discarded able).attentionSound := by
  have cleared : (s.clearBlocked able).renderNext.attentionSound := .renderNext (s.clearBlocked_attentionSound able)
  unfold State.afterCancel
  dsimp only
  split
  · exact cleared.boundary
  · exact cleared

end Sys2Proof.Machine
end

section
/-! SUPPORT. The attention line through the Burn Controller and the Media Tracker (chapters 7 and 8): every change of the
engine's state is a `State.transit`, which leaves the counter hold alone and sets the line. -/

namespace Sys2Proof.Machine

variable {s : State}

/-! ### Lines and holds (chapter 7) -/

theorem State.attentionSound.placeEngine (h : s.attentionSound) : s.placeEngine.attentionSound := by
  unfold State.placeEngine
  split
  · split
    · exact h.of_held (by simp)
    · exact h
  · exact h

theorem State.attentionSound.loadLine {n i : Nat} {t : Ticket} {v : LabelValues} (h : s.attentionSound) :
    (s.loadLine n i t v).attentionSound := by
  refine h.of_held ?_
  dsimp only [State.loadLine]
  split <;> rfl

theorem State.attentionSound.requestHold {reasons : Holds} (h : s.attentionSound) :
    (s.requestHold reasons).attentionSound := .transit h rfl

theorem State.attentionSound.lineStart {n : Nat} (h : s.attentionSound) : (s.lineStart n).attentionSound := by
  unfold State.lineStart
  repeat' split
  · exact h.loadLine
  · exact h.requestHold
  · exact h.requestHold
  · exact h

theorem State.attentionSound.freeBand {n : Nat} (h : s.attentionSound) : (s.freeBand n).attentionSound := by
  unfold State.freeBand
  repeat' split
  · exact .renderNext h
  all_goals exact h

theorem State.attentionSound.cutLine (h : s.attentionSound) : s.cutLine.attentionSound := by
  unfold State.cutLine
  split <;> exact h

theorem State.attentionSound.freeCut {line : Option LineInHand} (h : s.attentionSound) :
    (s.freeCut line).attentionSound := by
  unfold State.freeCut
  repeat' split
  · exact h.freeBand
  all_goals exact h

/-! ### Label starts and presentation (R159 to R161, R171) -/

theorem State.attentionSound.startMotion {kind : MotionKind} {engine : Engine} {forLabel forRecovery : Bool}
    (h : s.attentionSound) : (s.startMotion kind engine forLabel forRecovery).attentionSound := .transit h rfl

theorem State.attentionSound.rest (h : s.attentionSound) : s.rest.attentionSound := .transit h rfl

theorem State.attentionSound.enterPause (h : s.attentionSound) : s.enterPause.attentionSound := .transit h rfl

theorem State.attentionSound.startLabel (h : s.attentionSound) : s.startLabel.attentionSound := by
  unfold State.startLabel
  split
  · exact .lineStart (.transit h rfl)
  · exact h

theorem State.attentionSound.settleStart (h : s.attentionSound) : s.settleStart.attentionSound := by
  unfold State.settleStart
  repeat' split
  · exact h.enterPause
  · exact h.startLabel
  · exact h.rest

theorem State.attentionSound.startResync {forLabel : Bool} (h : s.attentionSound) :
    (s.startResync forLabel).attentionSound := .startMotion h

theorem State.attentionSound.prelimResync (h : s.attentionSound) : s.prelimResync.attentionSound := by
  unfold State.prelimResync
  repeat' split
  · exact h.startResync
  · exact h.settleStart
  · exact h.startMotion

theorem State.attentionSound.prelimCalibrate (h : s.attentionSound) : s.prelimCalibrate.attentionSound := by
  unfold State.prelimCalibrate
  split
  · exact h.startMotion
  · exact h.prelimResync

theorem State.attentionSound.attempt (h : s.attentionSound) : s.attempt.attentionSound := by
  unfold State.attempt
  split
  · exact h.startMotion
  · exact .prelimCalibrate h
  · exact h.prelimCalibrate

theorem State.attentionSound.takeLabel (h : s.attentionSound) : s.takeLabel.attentionSound := by
  unfold State.takeLabel
  dsimp only
  repeat' split
  · exact h.startMotion
  · exact .prelimCalibrate h
  · exact .rest h
  · exact h

theorem State.attentionSound.restPresented (h : s.attentionSound) : s.restPresented.attentionSound := by
  unfold State.restPresented
  dsimp only
  split
  · exact h.rest.takeLabel
  · exact h.rest

theorem State.attentionSound.beginOrRest (h : s.attentionSound) : s.beginOrRest.attentionSound := by
  unfold State.beginOrRest
  repeat' split
  · exact h.enterPause
  · exact h.attempt
  · exact h.restPresented

theorem State.attentionSound.tryStart (h : s.attentionSound) : s.tryStart.attentionSound := by
  unfold State.tryStart
  split
  · exact h.attempt
  · exact h

theorem State.attentionSound.present {distance : Nat} {under : Presentation} (h : s.attentionSound) :
    (s.present distance under).attentionSound := by
  unfold State.present
  split
  · exact .beginOrRest h
  · exact .startMotion h

theorem State.attentionSound.afterCompletion {distance : Nat} (h : s.attentionSound) :
    (s.afterCompletion distance).attentionSound := by
  unfold State.afterCompletion
  repeat' split
  · exact h.present
  · exact h.present
  · exact h.beginOrRest
  · exact h.beginOrRest

theorem State.attentionSound.completeLabel (h : s.attentionSound) : s.completeLabel.attentionSound := by
  unfold State.completeLabel
  split
  · exact .afterCompletion (.completeTicket h)
  · exact h

/-! ### Faults and their exits (R162, R168 to R170) -/

theorem State.attentionSound.dropPrinting (h : s.attentionSound) : s.dropPrinting.attentionSound := by
  unfold State.dropPrinting
  dsimp only
  repeat' split
  · exact .voidTicket h
  all_goals exact h

theorem State.attentionSound.addCause {causes : Causes} (h : s.attentionSound) :
    (s.addCause causes).attentionSound := by
  unfold State.addCause
  dsimp only
  split
  · exact .dropPrinting (h.cutLine.transit rfl)
  · exact .freeCut (h.cutLine.transit rfl)

theorem State.attentionSound.loseMedia (h : s.attentionSound) : s.loseMedia.attentionSound := .addCause h

theorem State.attentionSound.resumePrinting (h : s.attentionSound) : s.resumePrinting.attentionSound := by
  unfold State.resumePrinting
  dsimp only
  split
  · exact .lineStart (.placeEngine (h.transit rfl))
  · exact h.transit rfl

theorem State.attentionSound.faultPath (h : s.attentionSound) : s.faultPath.attentionSound := by
  unfold State.faultPath
  repeat' split
  · exact h.resumePrinting
  · exact h.transit rfl
  · exact h.startMotion
  · exact h.startMotion
  · exact h.startResync
  · exact h.beginOrRest

theorem State.attentionSound.clearCause {f : Causes → Causes} (h : s.attentionSound) :
    (s.clearCause f).attentionSound := by
  unfold State.clearCause
  dsimp only
  repeat' split
  · exact h
  · exact h.faultPath
  · exact h.transit rfl

theorem State.attentionSound.clearHold {f : Holds → Holds} (h : s.attentionSound) :
    (s.clearHold f).attentionSound := by
  unfold State.clearHold
  repeat' split
  · exact h
  · exact h.resumePrinting
  all_goals exact h

/-! ### Motor steps (R161 to R167) -/

theorem State.attentionSound.endMotion {m : Motion} (h : s.attentionSound) : (s.endMotion m).attentionSound := by
  unfold State.endMotion
  dsimp only
  repeat' split
  · exact .prelimCalibrate h
  · exact .settleStart h
  · exact .beginOrRest h

theorem State.attentionSound.arriveLabel (h : s.attentionSound) : s.arriveLabel.attentionSound := by
  unfold State.arriveLabel
  extract_lets length period tail
  have onTail : (tail s).attentionSound := by
    dsimp only [tail]
    split
    · exact h
    · exact h.completeLabel
  split
  · split
    · exact .lineStart h
    · exact onTail
  · exact onTail
  · exact h

theorem State.attentionSound.arrive (h : s.attentionSound) : s.arrive.attentionSound := by
  unfold State.arrive
  split
  · exact h
  · extract_lets more top
    have onTop : top.attentionSound := by
      dsimp only [top]
      split
      · exact h.endMotion
      · exact h
    split
    · exact h.arriveLabel
    · exact onTop
    · exact onTop
    · exact onTop
    · exact onTop
    · split
      · exact h.endMotion
      · exact h
    · split
      · exact .endMotion h
      · exact h
    · split
      · exact .endMotion h
      · exact h
    · exact h

theorem State.attentionSound.checkMediaOut (h : s.attentionSound) : s.checkMediaOut.attentionSound := by
  unfold State.checkMediaOut
  split
  · exact h
  · exact h.arrive

theorem State.attentionSound.checkLimit (h : s.attentionSound) : s.checkLimit.attentionSound := by
  unfold State.checkLimit
  repeat' split
  · exact h
  · exact h.checkMediaOut
  · exact h.arrive
  · exact h.checkMediaOut

theorem State.attentionSound.raiseCount (h : s.attentionSound) : s.raiseCount.attentionSound := by
  unfold State.raiseCount
  dsimp only
  split
  · exact h.loseMedia
  · exact h

theorem State.attentionSound.goodGap (h : s.attentionSound) : s.goodGap.attentionSound := by
  unfold State.goodGap
  dsimp only
  repeat' split
  all_goals exact h

theorem State.attentionSound.earlyGap (h : s.attentionSound) : s.earlyGap.attentionSound := by
  unfold State.earlyGap
  split
  · exact h
  · exact .raiseCount h

theorem State.attentionSound.missGap (h : s.attentionSound) : s.missGap.attentionSound := by
  unfold State.missGap
  split
  · exact h
  · exact .raiseCount h

theorem State.attentionSound.endCalibration {pitch gap : Nat} {forRecovery : Bool} (h : s.attentionSound) :
    (s.endCalibration pitch gap forRecovery).attentionSound := by
  unfold State.endCalibration
  split
  · exact .printableChanged h
  · exact h.loseMedia

theorem State.attentionSound.judgeEdge {missed : Bool} (h : s.attentionSound) :
    (s.judgeEdge missed).attentionSound := by
  unfold State.judgeEdge
  dsimp only
  split
  · exact h.goodGap
  · exact h.earlyGap

theorem State.attentionSound.takeEdge {missed fresh edge fell : Bool} (h : s.attentionSound) :
    (s.takeEdge missed fresh edge fell).attentionSound := by
  unfold State.takeEdge
  split
  · exact h
  · split
    · split <;> exact h
    · split <;> exact h
    · split <;> exact h
    · split <;> exact h
    · split
      · exact h.endCalibration
      · exact h
    · split
      · exact h.judgeEdge
      · exact h

theorem State.attentionSound.afterMiss {missed fresh edge fell : Bool} (h : s.attentionSound) :
    (s.afterMiss missed fresh edge fell).attentionSound := h.takeEdge.checkLimit

theorem State.attentionSound.stepMotor {gap : Bool} (h : s.attentionSound) : (s.stepMotor gap).attentionSound := by
  unfold State.stepMotor
  dsimp only
  split
  · split
    · exact h
    · exact .afterMiss h
  · exact h

theorem State.attentionSound.takeMiss (h : s.attentionSound) : s.takeMiss.attentionSound := by
  unfold State.takeMiss
  split
  · exact .afterMiss (.missGap h)
  · exact h

theorem State.attentionSound.takeResyncLimit (h : s.attentionSound) : s.takeResyncLimit.attentionSound := by
  unfold State.takeResyncLimit
  split
  · exact .checkMediaOut (.loseMedia h)
  · exact h

theorem State.attentionSound.takeRecoveryLimit (h : s.attentionSound) : s.takeRecoveryLimit.attentionSound := by
  unfold State.takeRecoveryLimit
  split
  · exact .checkMediaOut (.loseMedia h)
  · exact h

theorem State.attentionSound.takeCalibrationLimit (h : s.attentionSound) : s.takeCalibrationLimit.attentionSound := by
  unfold State.takeCalibrationLimit
  split
  · exact .checkMediaOut (.loseMedia h)
  · exact h

theorem State.attentionSound.takeMediaOut (h : s.attentionSound) : s.takeMediaOut.attentionSound := by
  unfold State.takeMediaOut
  split
  · exact .addCause h
  · exact h

end Sys2Proof.Machine
end

section
/-! SUPPORT. The attention line through resets and start-up, through what falls due before a command, and through the
effect of each command. -/

namespace Sys2Proof.Machine

variable {s : State}

/-! ### Reset, the store scan and start-up (chapter 10) -/

/-- A reset leaves an IDLE engine and no job: the line is deasserted, whatever it was before (R94, R159, R192). -/
theorem State.resetBlocks_attentionSound (mode : Mode) (rate : Nat) (s : State) :
    (s.resetBlocks mode rate).attentionSound := ⟨rfl, rfl⟩

theorem State.attentionSound.beginEngineStep {damaged duplicates : Nat} (h : s.attentionSound) :
    (s.beginEngineStep damaged duplicates).attentionSound := by
  unfold State.beginEngineStep
  dsimp only
  split
  · refine .addCause ?_
    split <;> exact h
  · split
    · exact .startResync h
    · exact h

theorem State.attentionSound.checkEngineStep (h : s.attentionSound) : s.checkEngineStep.attentionSound := by
  unfold State.checkEngineStep
  repeat' split
  all_goals exact h

theorem State.attentionSound.verifyFrom {sector : Nat} {c : Scan} (h : s.attentionSound) :
    (s.verifyFrom sector c).attentionSound := by
  unfold State.verifyFrom
  split
  · exact h
  · exact .beginEngineStep h

theorem State.attentionSound.staleNext {losers : List Extent} {c : Scan} (h : s.attentionSound) :
    (s.staleNext losers c).attentionSound := by
  unfold State.staleNext
  split
  · exact h
  · exact h.verifyFrom

theorem State.attentionSound.walkTo {sector : Nat} {c : Scan} (h : s.attentionSound) :
    (s.walkTo sector c).attentionSound := by
  unfold State.walkTo
  split
  · exact h
  · exact h.staleNext

theorem State.attentionSound.classLive {e : Extent} {c : Scan} (h : s.attentionSound) :
    (s.classLive e c).attentionSound := by
  unfold State.classLive
  split <;> exact h.walkTo

theorem State.attentionSound.readBody {e : Extent} {left : List Nat} {c : Scan} (h : s.attentionSound) :
    (s.readBody e left c).attentionSound := by
  unfold State.readBody
  split
  · exact h
  · exact h.classLive

theorem State.attentionSound.judgeHeader {sector : Nat} {c : Scan} (h : s.attentionSound) :
    (s.judgeHeader sector c).attentionSound := by
  unfold State.judgeHeader
  dsimp only
  split
  · exact h.readBody
  · exact h.walkTo

theorem State.attentionSound.scanRead {c : Scan} (h : s.attentionSound) : (s.scanRead c).attentionSound := by
  unfold State.scanRead
  split
  · exact h.judgeHeader
  · exact h.readBody
  · exact h
  · exact h.verifyFrom
  · exact h

theorem State.attentionSound.scanProgram {failed : Bool} {c : Scan} (h : s.attentionSound) :
    (s.scanProgram failed c).attentionSound := by
  unfold State.scanProgram
  split
  · exact h.staleNext
  · exact h

theorem State.beginStartUp_attentionSound (straps : BaudStraps) (s : State) :
    (s.beginStartUp straps).attentionSound := 
  .walkTo (s.resetBlocks_attentionSound (.startUp (.scan Scan.begin)) (rateOf straps))

theorem State.attentionSound.placeReady (h : s.attentionSound) : s.placeReady.attentionSound := by
  unfold State.placeReady
  split
  · exact .place h
  · exact h

/-! ### What falls due before a command -/

theorem State.attentionSound.takeSupplyCleared (h : s.attentionSound) : s.takeSupplyCleared.attentionSound := by
  unfold State.takeSupplyCleared
  split
  · exact .clearHold h
  · exact h

theorem State.attentionSound.placeJobEnd (h : s.attentionSound) : s.placeJobEnd.attentionSound := by
  unfold State.placeJobEnd
  repeat' split
  · exact State.departJob_attentionSound ..
  all_goals exact h

theorem State.attentionSound.placeJobEnds {n : Nat} (h : s.attentionSound) : (placeJobEnds n s).attentionSound := by
  induction n generalizing s with
  | zero => exact h
  | succ n ih => exact ih h.placeJobEnd

theorem State.attentionSound.placeNotices (h : s.attentionSound) : s.placeNotices.attentionSound :=
  h.placeJobEnds.placeEngine

theorem State.attentionSound.answerMark (h : s.attentionSound) : s.answerMark.attentionSound := by
  unfold State.answerMark
  split
  · exact h.takeHead.reply
  · exact h

theorem State.attentionSound.grantHead (h : s.attentionSound) : s.grantHead.attentionSound := by
  unfold State.grantHead
  split
  · exact h.takeHead
  · exact h.answerMark
  · exact h

theorem State.attentionSound.grantHeads {n : Nat} (h : s.attentionSound) : (grantHeads n s).attentionSound := by
  induction n generalizing s with
  | zero => exact h
  | succ n ih => exact ih h.grantHead

theorem State.attentionSound.grantRoom (h : s.attentionSound) : s.grantRoom.attentionSound :=
  h.placeNotices.grantHeads

theorem State.attentionSound.settle (h : s.attentionSound) : s.settle.attentionSound := by
  unfold State.settle
  simp only [dueEvents, List.foldl_cons, List.foldl_nil]
  exact h.grantRoom
    |>.takeMiss.grantRoom
    |>.takeResyncLimit.grantRoom
    |>.takeRecoveryLimit.grantRoom
    |>.takeCalibrationLimit.grantRoom
    |>.takeMediaOut.grantRoom
    |>.takeSupplyCleared.grantRoom
    |>.checkEngineStep.grantRoom
    |>.placeReady.grantRoom
    |>.takeGeometry.grantRoom

theorem State.attentionSound.after {f : State → State} (h : s.attentionSound)
    (hf : ∀ {x : State}, x.attentionSound → (f x).attentionSound) : (s.after f).attentionSound :=
  (hf h.settle).checkEngineStep

/-! ### Uploads, commits, retirements and wipes (chapter 3) -/

theorem State.attentionSound.failUpload {reason : Reason} {detail : Nat} (h : s.attentionSound) :
    (s.failUpload reason detail).attentionSound := .refuse h

theorem State.attentionSound.runRecordBegin {body : List Byte} (h : s.attentionSound) :
    (s.runRecordBegin body).attentionSound := by
  unfold State.runRecordBegin
  split
  · exact h.refuse
  · exact h

theorem State.attentionSound.headerEnd {failed : Bool} (h : s.attentionSound) :
    (s.headerEnd failed).attentionSound := by
  unfold State.headerEnd
  repeat' split
  · exact h.failUpload
  · exact h.ok
  · exact h.refuse

theorem State.attentionSound.runRecordData {body : List Byte} (h : s.attentionSound) :
    (s.runRecordData body).attentionSound := by
  unfold State.runRecordData
  dsimp only
  repeat' split
  · exact h.refuse
  · exact h.refuse
  · exact h.refuse
  · exact h.refuse
  · exact h
  · exact h

theorem State.attentionSound.dataEnd {failed : Bool} {len : Nat} {left : List (Nat × List Byte)}
    (h : s.attentionSound) : (s.dataEnd failed len left).attentionSound := by
  unfold State.dataEnd
  repeat' split
  · exact h.failUpload
  · exact h
  · exact .ok h
  · exact h.refuse

theorem State.attentionSound.runRecordEnd {body : List Byte} (h : s.attentionSound) :
    (s.runRecordEnd body).attentionSound := by
  unfold State.runRecordEnd
  dsimp only
  repeat' split
  · exact h.refuse
  · exact h.refuse
  · exact h
  · exact h

theorem State.attentionSound.readForValidation {check : Nat} {pages : List Nat} {pass : Pass} {u : Upload}
    (h : s.attentionSound) : (s.readForValidation check pages pass u).attentionSound := by
  unfold State.readForValidation
  split
  · exact h
  · exact h.failUpload

theorem State.attentionSound.bodyCheckEnd {check : Nat} {left : List Nat} (h : s.attentionSound) :
    (s.bodyCheckEnd check left).attentionSound := by
  unfold State.bodyCheckEnd
  dsimp only
  repeat' split
  · exact h
  · exact h.readForValidation
  · exact h.failUpload
  · exact h.refuse

theorem State.attentionSound.validateEnd {check : Nat} {left : List Nat} {read : Nat} {pass : Pass}
    (h : s.attentionSound) : (s.validateEnd check left read pass).attentionSound := by
  unfold State.validateEnd
  repeat' split
  · exact h.readForValidation
  · exact h.readForValidation
  · exact h.failUpload
  · exact h
  · exact h.refuse

theorem State.attentionSound.finishCommit {previous : Option RecRef} {staleFailed : Bool} (h : s.attentionSound) :
    (s.finishCommit previous staleFailed).attentionSound := by
  unfold State.finishCommit
  split
  · exact .ok h
  · exact h.refuse

theorem State.attentionSound.issueStale {r : RecRef} {work : Work} (h : s.attentionSound) :
    (s.issueStale r work).attentionSound := by
  unfold State.issueStale
  split <;> exact h

theorem State.attentionSound.commitEnd {failed : Bool} {previous : Option RecRef} (h : s.attentionSound) :
    (s.commitEnd failed previous).attentionSound := by
  unfold State.commitEnd
  repeat' split
  · exact h.failUpload
  · exact h.issueStale
  · exact h.finishCommit

theorem State.attentionSound.noteStale {failed : Bool} {r : RecRef} (h : s.attentionSound) :
    (s.noteStale failed r).attentionSound := by
  unfold State.noteStale
  split <;> exact h

theorem State.attentionSound.staleOldEnd {failed : Bool} {r : RecRef} (h : s.attentionSound) :
    (s.staleOldEnd failed r).attentionSound := h.noteStale.finishCommit

theorem State.attentionSound.runRecordAbandon (h : s.attentionSound) : s.runRecordAbandon.attentionSound := by
  unfold State.runRecordAbandon
  split
  · exact h.refuse
  · exact .ok h

theorem State.attentionSound.runRecordRetire {body : List Byte} (h : s.attentionSound) :
    (s.runRecordRetire body).attentionSound := by
  unfold State.runRecordRetire
  repeat' split
  · exact h.refuse
  · exact h.refuse
  · exact h.refuse
  · exact h.issueStale

theorem State.attentionSound.retireEnd {failed : Bool} {r : RecRef} (h : s.attentionSound) :
    (s.retireEnd failed r).attentionSound := by
  unfold State.retireEnd
  split
  · split
    · exact h.refuse
    · exact .ok h
  · exact h.refuse

theorem State.attentionSound.wipeNext {left : List RecRef} {failed : Nat} (h : s.attentionSound) :
    (s.wipeNext left failed).attentionSound := by
  unfold State.wipeNext
  split
  · exact h.issueStale
  · exact .ok h

theorem State.attentionSound.runStoreWipe {service : Bool} (h : s.attentionSound) :
    (s.runStoreWipe service).attentionSound := by
  unfold State.runStoreWipe
  repeat' split
  · exact h.refuse
  · exact h.refuse
  · exact h.refuse
  · exact h.wipeNext

theorem State.attentionSound.decoderProgram {failed : Bool} (h : s.attentionSound) :
    (s.decoderProgram failed).attentionSound := by
  unfold State.decoderProgram
  split
  · exact h.headerEnd
  · exact h.dataEnd
  · exact h.commitEnd
  · exact h.staleOldEnd
  · exact h.retireEnd
  · exact h.noteStale.wipeNext
  · exact h

/-! ### JOB_SUBMIT (section 5.2) -/

theorem State.attentionSound.bindJob {items : JobItems} (h : s.attentionSound) : (s.bindJob items).attentionSound := by
  unfold State.bindJob
  dsimp only
  repeat' split
  · exact h.refuse
  · exact h.refuse
  · exact .ok (.boundary (h.of_held (anyHoldCounter_insertJob rfl _)))

theorem State.attentionSound.submitFields {items : JobItems} {fields : List Field} {i : Nat} (h : s.attentionSound) :
    (s.submitFields items fields i).attentionSound := by
  induction fields generalizing i with
  | nil => exact h.bindJob
  | cons f fs ih =>
    unfold State.submitFields
    split
    · split
      · exact h.refuse
      · exact ih
    · split
      · exact ih
      · exact h.refuse
    · split
      · exact h.refuse
      · split
        · exact h.refuse
        · split
          · exact h.askGeometry
          · split
            · exact h.refuse
            · exact ih
    · exact ih

theorem State.attentionSound.geometryDone {items : JobItems} {field : Nat} (h : s.attentionSound) :
    (s.geometryDone items field).attentionSound := by
  unfold State.geometryDone
  repeat' split
  · exact h.refuse
  · exact h.submitFields
  · exact h.bindJob

theorem State.attentionSound.submitFormatEnd {items : JobItems} {left : List Nat} (h : s.attentionSound) :
    (s.submitFormatEnd items left).attentionSound := by
  unfold State.submitFormatEnd
  split
  · exact h
  · exact h.submitFields

theorem State.attentionSound.submitTableEnd {items : JobItems} {field : Nat} {left : List Nat}
    (h : s.attentionSound) : (s.submitTableEnd items field left).attentionSound := by
  unfold State.submitTableEnd
  split
  · exact h
  · exact .renderNext (.geometryDone h)

theorem State.attentionSound.runJobSubmit {body : List Byte} (h : s.attentionSound) :
    (s.runJobSubmit body).attentionSound := by
  unfold State.runJobSubmit
  repeat' split
  · exact h.refuse
  · exact h.refuse
  · exact h.refuse
  · exact h.refuse
  · exact h
  · exact h.submitFields

theorem State.attentionSound.decoderRead (h : s.attentionSound) : s.decoderRead.attentionSound := by
  unfold State.decoderRead
  split
  · exact h.bodyCheckEnd
  · exact h.validateEnd
  · exact h.submitFormatEnd
  · exact h.submitTableEnd
  · exact h

/-! ### The flash array and the erase service (section 1.9) -/

theorem State.attentionSound.afterProgram {client : Client} {failed : Bool} (h : s.attentionSound) :
    (s.afterProgram client failed).attentionSound := by
  unfold State.afterProgram
  split
  · refine .decoderProgram ?_
    split <;> exact h
  · split
    · exact h.scanProgram
    · exact h
  · exact h

theorem State.attentionSound.afterRead {client : Client} (h : s.attentionSound) :
    (s.afterRead client).attentionSound := by
  unfold State.afterRead
  repeat' split
  · exact h.decoderRead
  · exact .readHand h
  · exact h.scanRead
  · exact h
  · exact h

theorem State.attentionSound.endProgram {client : Client} {addr : Nat} {data : List Byte} {left : Option (List Byte)}
    (h : s.attentionSound) : (s.endProgram client addr data left).attentionSound := .afterProgram h

theorem State.attentionSound.failProgram {client : Client} {addr : Nat} {data : List Byte} (h : s.attentionSound) :
    (s.failProgram client addr data).attentionSound := .afterProgram h

theorem State.attentionSound.startErase (h : s.attentionSound) : s.startErase.attentionSound := by
  unfold State.startErase
  repeat' split
  all_goals exact h

theorem State.attentionSound.takeEffect (h : s.attentionSound) : s.takeEffect.attentionSound := by
  unfold State.takeEffect
  split <;> exact h

theorem State.attentionSound.endWindow (h : s.attentionSound) : s.endWindow.attentionSound := by
  unfold State.endWindow
  split <;> exact h

theorem State.attentionSound.completeErase {residue : List (Nat × Byte)} (h : s.attentionSound) :
    (s.completeErase residue).attentionSound := by
  unfold State.completeErase
  dsimp only
  repeat' split
  all_goals exact h

theorem State.attentionSound.reachGiveUp (h : s.attentionSound) : s.reachGiveUp.attentionSound := by
  unfold State.reachGiveUp
  split <;> exact h

theorem State.attentionSound.timeOutUpload (h : s.attentionSound) : s.timeOutUpload.attentionSound := by
  unfold State.timeOutUpload
  repeat' split
  all_goals exact h

/-! ### Requests that only report (R24 to R26, R89, R119) -/

theorem State.attentionSound.runRecordQuery {body : List Byte} (h : s.attentionSound) :
    (s.runRecordQuery body).attentionSound := by
  unfold State.runRecordQuery
  dsimp only
  repeat' split
  · exact h.refuse
  · exact h.refuse
  · exact h.ok

theorem State.attentionSound.runDirectoryList {body : List Byte} (h : s.attentionSound) :
    (s.runDirectoryList body).attentionSound := by
  unfold State.runDirectoryList
  split
  · exact h.refuse
  · exact h.ok

theorem State.attentionSound.runCounterRead {body : List Byte} (h : s.attentionSound) :
    (s.runCounterRead body).attentionSound := by
  unfold State.runCounterRead
  split
  · exact h.refuse
  · exact h.ok

theorem State.attentionSound.runJobQuery {body : List Byte} (h : s.attentionSound) :
    (s.runJobQuery body).attentionSound := by
  unfold State.runJobQuery
  dsimp only
  split
  · exact h.refuse
  · exact h.ok

/-! ### Counter requests (section 4.6) -/

theorem State.attentionSound.reportIfAble {id : Nat} {before : Counter} (h : s.attentionSound) :
    (s.reportIfAble id before).attentionSound := by
  unfold State.reportIfAble
  split
  · exact h.reportAble
  · exact h

theorem State.attentionSound.runCounterDefine {body : List Byte} (h : s.attentionSound) :
    (s.runCounterDefine body).attentionSound := by
  unfold State.runCounterDefine
  dsimp only
  repeat' split
  · exact h.refuse
  · exact h.refuse
  · exact .ok (.reportIfAble h)
  · exact h.refuse

theorem State.attentionSound.runCounterSet {body : List Byte} (h : s.attentionSound) :
    (s.runCounterSet body).attentionSound := by
  unfold State.runCounterSet
  dsimp only
  repeat' split
  · exact h.refuse
  · exact h.refuse
  · exact h.refuse
  · exact h.refuse
  · exact .ok (.reportIfAble h)

theorem State.attentionSound.runCounterUndefine {body : List Byte} (h : s.attentionSound) :
    (s.runCounterUndefine body).attentionSound := by
  unfold State.runCounterUndefine
  dsimp only
  repeat' split
  · exact h.refuse
  · exact h.refuse
  · exact h.refuse
  · exact .ok h

theorem State.attentionSound.runCounterClearReturns {body : List Byte} (h : s.attentionSound) :
    (s.runCounterClearReturns body).attentionSound := by
  unfold State.runCounterClearReturns
  dsimp only
  repeat' split
  · exact h.refuse
  · exact h.refuse
  · exact .ok h

theorem State.attentionSound.setLatch (h : s.attentionSound) : s.setLatch.attentionSound := by
  unfold State.setLatch
  split <;> exact h

/-! ### Job requests (sections 5.3, 5.8 and 5.10) -/

theorem State.attentionSound.cancelTags {tags : List Nat} (h : s.attentionSound) :
    (cancelTags tags s).1.attentionSound := by
  induction tags generalizing s with
  | nil => exact h
  | cons tag tags ih => exact ih h.cancelJob

theorem State.attentionSound.runJobCancel {body : List Byte} (h : s.attentionSound) :
    (s.runJobCancel body).attentionSound := by
  unfold State.runJobCancel
  dsimp only
  repeat' split
  · exact .ok (State.afterCancel_attentionSound ..)
  · exact h.refuse
  · exact h.refuse
  · exact .ok (State.afterCancel_attentionSound ..)
  · exact h.refuse

theorem State.attentionSound.runJobHold {body : List Byte} (h : s.attentionSound) :
    (s.runJobHold body).attentionSound := by
  unfold State.runJobHold
  dsimp only
  split
  · exact h.refuse
  · exact .ok (h.of_updateJob rfl rfl fun _ => rfl)

theorem State.attentionSound.runJobRelease {body : List Byte} (h : s.attentionSound) :
    (s.runJobRelease body).attentionSound := by
  unfold State.runJobRelease
  dsimp only
  split
  · exact h.refuse
  · refine .ok ?_
    split
    · exact .boundary (h.of_updateJob rfl rfl fun _ => rfl)
    · exact h.of_updateJob rfl rfl fun _ => rfl

theorem State.attentionSound.runReprint (h : s.attentionSound) : s.runReprint.attentionSound := by
  unfold State.runReprint
  repeat' split
  · exact h.refuse
  · exact h.refuse
  · exact .ok (.boundary h)

theorem State.attentionSound.clearLast (h : s.attentionSound) : s.clearLast.attentionSound := by
  unfold State.clearLast
  split <;> exact h

theorem State.attentionSound.runReprintClear (h : s.attentionSound) : s.runReprintClear.attentionSound := by
  unfold State.runReprintClear
  split
  · exact h.refuse
  · exact .ok (.clearLast h)

/-! ### Rendering and burning (chapters 6 and 7) -/

theorem State.attentionSound.bandReport {t : Ticket} {band : Nat} (h : s.attentionSound) :
    (s.bandReport t band).attentionSound := by
  unfold State.bandReport
  repeat' split
  · exact h.clearHold
  · exact h
  · exact h

theorem State.attentionSound.finishBand (h : s.attentionSound) : s.finishBand.attentionSound := by
  unfold State.finishBand
  split
  · split
    · split
      · exact h
      · extract_lets buffer after s1 s2 s3
        have reported : s2.attentionSound := .bandReport (s := s1) h
        have attempted : s3.attentionSound := by
          dsimp only [s3]
          split
          · exact reported.tryStart
          · exact reported
        refine .renderNext ?_
        split
        · exact attempted.boundary
        · exact attempted
    · exact h
  · exact h

theorem State.attentionSound.judgeSensor {theta : Int} (h : s.attentionSound) :
    (s.judgeSensor theta).attentionSound := by
  unfold State.judgeSensor
  dsimp only
  repeat' split
  · exact .addCause h
  · exact h
  · exact .clearCause h
  · exact h

theorem State.attentionSound.judgeHeat {theta : Int} (h : s.attentionSound) : (s.judgeHeat theta).attentionSound := by
  unfold State.judgeHeat
  split
  · exact h.clearHold
  · exact h

theorem State.attentionSound.countSupply {supply : Nat} (h : s.attentionSound) :
    (s.countSupply supply).attentionSound := by
  unfold State.countSupply
  split <;> exact h

theorem State.attentionSound.sampleHead {theta : Int} {supply : Nat} (h : s.attentionSound) :
    (s.sampleHead theta supply).attentionSound := by
  unfold State.sampleHead
  split
  · exact .countSupply (.judgeHeat (.judgeSensor h))
  · exact h

theorem State.attentionSound.endLoading (h : s.attentionSound) : s.endLoading.attentionSound := by
  unfold State.endLoading
  split
  · split
    · exact .freeBand h
    · exact h
  · exact h

theorem State.attentionSound.endPhase (h : s.attentionSound) : s.endPhase.attentionSound := by
  unfold State.endPhase
  repeat' split
  all_goals exact h

theorem State.attentionSound.endLine (h : s.attentionSound) : s.endLine.attentionSound := by
  unfold State.endLine
  dsimp only
  split
  · split <;> exact h
  · exact h

/-! ### Media commands (chapter 8) -/

theorem State.attentionSound.tryStep {gap : Bool} (h : s.attentionSound) : (s.tryStep gap).attentionSound := by
  unfold State.tryStep
  split
  · exact h.stepMotor
  · exact h

theorem State.attentionSound.seeHead {isOpen : Bool} (h : s.attentionSound) : (s.seeHead isOpen).attentionSound := by
  unfold State.seeHead
  dsimp only
  repeat' split
  · exact h
  · exact .addCause h
  · exact .clearCause h

theorem State.attentionSound.seeMedia {gap : Bool} (h : s.attentionSound) : (s.seeMedia gap).attentionSound := by
  unfold State.seeMedia
  dsimp only
  split
  · exact h
  · exact .clearCause h

theorem State.attentionSound.seeTaken {noLabel : Bool} (h : s.attentionSound) :
    (s.seeTaken noLabel).attentionSound := by
  unfold State.seeTaken
  dsimp only
  split
  · exact .takeLabel h
  · exact h

theorem State.attentionSound.takePause (h : s.attentionSound) : s.takePause.attentionSound := by
  unfold State.takePause
  repeat' split
  · exact h
  · exact h.enterPause
  · exact h

theorem State.attentionSound.takeResume (h : s.attentionSound) : s.takeResume.attentionSound := by
  unfold State.takeResume
  repeat' split
  · exact h.rest.beginOrRest
  · exact h.faultPath
  · exact h

theorem State.attentionSound.runResume (h : s.attentionSound) : s.runResume.attentionSound := by
  unfold State.runResume
  split
  · exact h.refuse
  · exact h.takeResume.ok

theorem State.attentionSound.runFeed (h : s.attentionSound) : s.runFeed.attentionSound := by
  unfold State.runFeed
  repeat' split
  · exact h.refuse
  all_goals exact h.startMotion.ok

theorem State.attentionSound.runCalibrate (h : s.attentionSound) : s.runCalibrate.attentionSound := by
  unfold State.runCalibrate
  repeat' split
  · exact h.refuse
  · exact h.ok
  · exact h.startMotion.ok

theorem State.attentionSound.powerDown (h : s.attentionSound) : s.powerDown.attentionSound := .transit h rfl

theorem State.attentionSound.compareIdle (h : s.attentionSound) : s.compareIdle.attentionSound := by
  unfold State.compareIdle
  split
  · exact h.powerDown
  · exact h

theorem State.attentionSound.applySettings {new : Settings} (h : s.attentionSound) :
    (s.applySettings new).attentionSound := by
  unfold State.applySettings
  extract_lets old s1
  have written : s1.attentionSound := by
    dsimp only [s1]
    split
    · exact h
    · exact .printableChanged h
  split
  · exact written
  · exact written.compareIdle

theorem State.attentionSound.runSettingsSet {body : List Byte} (h : s.attentionSound) :
    (s.runSettingsSet body).attentionSound := by
  unfold State.runSettingsSet
  repeat' split
  · exact h.refuse
  · exact h.refuse
  · exact h.applySettings.ok

theorem State.attentionSound.expireIdle (h : s.attentionSound) : s.expireIdle.attentionSound := by
  unfold State.expireIdle
  split
  · exact .powerDown h
  · exact h

theorem State.attentionSound.endWake (h : s.attentionSound) : s.endWake.attentionSound := by
  unfold State.endWake
  dsimp only
  repeat' split
  · exact .settleStart h
  all_goals exact h

/-! ### The serial line and its requests (chapter 9) -/

theorem State.attentionSound.receiveByte {b : Byte} {stopBit : Bool} (h : s.attentionSound) :
    (s.receiveByte b stopBit).attentionSound := by
  unfold State.receiveByte
  split
  · exact .wakeDecoder h
  · exact h

theorem State.attentionSound.expireByte (h : s.attentionSound) : s.expireByte.attentionSound := by
  unfold State.expireByte
  split
  · exact .wakeDecoder h
  · exact h

theorem State.attentionSound.seeRts {high : Bool} (h : s.attentionSound) : (s.seeRts high).attentionSound := by
  unfold State.seeRts
  dsimp only
  split
  · exact .beginSending h
  · exact h

theorem State.attentionSound.sendByte {straps : BaudStraps} (h : s.attentionSound) :
    (s.sendByte straps).attentionSound := by
  unfold State.sendByte
  dsimp only
  repeat' split
  · exact State.beginStartUp_attentionSound ..
  · exact .beginSending h
  · exact .beginSending h
  · exact h

theorem State.attentionSound.refuseUnknown (h : s.attentionSound) : s.refuseUnknown.attentionSound := by
  unfold State.refuseUnknown
  repeat' split
  · exact h.begun.refuse
  all_goals exact h

theorem State.attentionSound.runStatus (h : s.attentionSound) : s.runStatus.attentionSound :=
  .ok (s := s.setEvent .noChange) h

theorem State.attentionSound.runStatusClear {body : List Byte} (h : s.attentionSound) :
    (s.runStatusClear body).attentionSound := by
  unfold State.runStatusClear
  dsimp only
  split
  · exact h.refuse
  · exact .ok h

theorem State.attentionSound.runRestart (h : s.attentionSound) : s.runRestart.attentionSound :=
  State.attentionSound.ok (payload := [])
    (s := { s with line := { s.line with input := [], stored := [], assembly := .hunt, overrun := none } }) h

theorem State.attentionSound.endRestart {straps : BaudStraps} (h : s.attentionSound) :
    (s.endRestart straps).attentionSound := by
  unfold State.endRestart
  split
  · exact State.beginStartUp_attentionSound ..
  · exact h

/-! ### Power and the reset line (section 10.1) -/

theorem State.attentionSound.powerUp {straps : BaudStraps} (h : s.attentionSound) :
    (s.powerUp straps).attentionSound := by
  unfold State.powerUp
  repeat' split
  · exact h
  · exact State.beginStartUp_attentionSound ..
  · exact h

theorem State.attentionSound.releaseReset {straps : BaudStraps} (h : s.attentionSound) :
    (s.releaseReset straps).attentionSound := by
  unfold State.releaseReset
  dsimp only
  repeat' split
  · exact h
  · exact State.beginStartUp_attentionSound ..
  · exact h

theorem State.attentionSound.assertReset (h : s.attentionSound) : s.assertReset.attentionSound := by
  unfold State.assertReset
  dsimp only
  split
  · exact h
  · exact State.resetBlocks_attentionSound ..

theorem State.attentionSound.losePower (h : s.attentionSound) : s.losePower.attentionSound := by
  unfold State.losePower
  split
  · exact h
  · exact State.resetBlocks_attentionSound ..

end Sys2Proof.Machine
end

section
/-! SUPPORT. The attention line through each command and each step, and the obligation on it. -/

namespace Sys2Proof.Machine

variable {s : State}

/-! ### The commands -/

/-- The state that a command answers, where it answers one, has the line in agreement. -/
def AnswersAttentionSound (r : Result) : Prop := ∀ t, r = .next t → t.attentionSound

theorem AnswersAttentionSound.next (h : s.attentionSound) : AnswersAttentionSound (.next s) := by
  rintro _ ⟨⟩
  exact h

theorem AnswersAttentionSound.fault (f : Fault) : AnswersAttentionSound (.fault f) := by
  rintro _ ⟨⟩

/-- A command that takes its effect on the state as it stands once everything due has been taken. -/
theorem AnswersAttentionSound.event {f : State → State} (h : s.attentionSound)
    (hf : ∀ {x : State}, x.attentionSound → (f x).attentionSound) : AnswersAttentionSound (.next (s.after f)) :=
  .next (h.after hf)

theorem AnswersAttentionSound.request {code : Nat} {run : List Byte → State → State} (h : s.attentionSound)
    (hrun : ∀ {body : List Byte} {x : State}, x.attentionSound → (run body x).attentionSound) :
    AnswersAttentionSound (.next (s.after (State.onRequest code run))) :=
  .event h fun hx => hx.onRequest hrun

theorem AnswersAttentionSound.pageProgramEnd (left : Option (List Byte)) (h : s.attentionSound) :
    AnswersAttentionSound (execPageProgramEnd left s) := by
  unfold execPageProgramEnd
  dsimp only
  repeat' split
  · exact .next h.settle.endProgram.checkEngineStep
  · exact .next h.settle.failProgram.checkEngineStep
  · exact .fault _
  · exact .next h.settle

theorem AnswersAttentionSound.programTimeout (h : s.attentionSound) :
    AnswersAttentionSound (execProgramTimeout s) := by
  unfold execProgramTimeout
  dsimp only
  repeat' split
  · exact .next h.settle.atLeast.failProgram.checkEngineStep
  · exact .fault _
  · exact .next h.settle

theorem AnswersAttentionSound.pageReadEnd (h : s.attentionSound) : AnswersAttentionSound (execPageReadEnd s) := by
  unfold execPageReadEnd
  dsimp only
  repeat' split
  · exact .next h.settle.atLeast.passOn.afterRead.checkEngineStep
  · exact .fault _
  · exact .next h.settle

theorem exec_answersAttentionSound (c : Instr) (h : s.attentionSound) : AnswersAttentionSound (exec c s) := by
  unfold exec
  cases c with
  | powerOn straps => exact .event h .powerUp
  | resetLine straps => exact .event h .releaseReset
  | mainPowerLoss => exact .event h .losePower
  | batteryRetentionLoss => exact .event h .setLatch
  | batteryLow below => exact .event h id
  | ready => exact .next h.placeReady
  | serialByteReceived b stopBit => exact .event h .receiveByte
  | byteTimeout => exact .event h .expireByte
  | rtsChange high => exact .event h .seeRts
  | byteTransmitted straps => exact .event h .sendByte
  | nak => exact .next h.placeNotices.answerMark
  | unknownKind => exact .event h .refuseUnknown
  | recordBegin => exact .request h .runRecordBegin
  | recordData => exact .request h .runRecordData
  | recordEnd => exact .request h .runRecordEnd
  | recordAbandon => exact .request h .runRecordAbandon
  | uploadTimeout => exact .event h .timeOutUpload
  | recordRetire => exact .request h .runRecordRetire
  | recordQuery => exact .request h .runRecordQuery
  | directoryList => exact .request h .runDirectoryList
  | storeUsage => exact .request h .ok
  | storeWipe service => exact .request h .runStoreWipe
  | pageProgramEnd left => exact .pageProgramEnd left h
  | programTimeout => exact .programTimeout h
  | pageReadEnd => exact .pageReadEnd h
  | eraseStart => exact .event h .startErase
  | suspensionEffect => exact .event h .takeEffect
  | progressWindowEnd => exact .event h .endWindow
  | eraseComplete residue => exact .event h .completeErase
  | eraseGiveUp => exact .event h .reachGiveUp
  | counterDefine => exact .request h .runCounterDefine
  | counterSet => exact .request h .runCounterSet
  | counterUndefine => exact .request h .runCounterUndefine
  | counterClearReturns => exact .request h .runCounterClearReturns
  | counterRead => exact .request h .runCounterRead
  | jobSubmit => exact .request h .runJobSubmit
  | jobCancel => exact .request h .runJobCancel
  | jobHold => exact .request h .runJobHold
  | jobRelease => exact .request h .runJobRelease
  | jobQuery => exact .request h .runJobQuery
  | queueList => exact .request h .ok
  | reprint => exact .request h .runReprint
  | reprintClear => exact .request h .runReprintClear
  | jobEnd => exact .next h.placeJobEnd
  | bandDrawn => exact .event h .finishBand
  | headSample theta supply => exact .event h .sampleHead
  | supplyCleared => exact .next h.grantRoom.takeSupplyCleared
  | loadingEnd => exact .event h .endLoading
  | strobePhaseEnd => exact .event h .endPhase
  | lineEnd => exact .event h .endLine
  | motorStep gap => exact .event h .tryStep
  | missedGap => exact .next h.grantRoom.takeMiss.checkEngineStep
  | mediaOut => exact .next h.grantRoom.takeMediaOut.checkEngineStep
  | resyncNoEdge => exact .next h.grantRoom.takeResyncLimit.checkEngineStep
  | recoveryLimit => exact .next h.grantRoom.takeRecoveryLimit.checkEngineStep
  | calibrationLimit => exact .next h.grantRoom.takeCalibrationLimit.checkEngineStep
  | headSwitchChange isOpen => exact .event h .seeHead
  | mediaSensorChange gap => exact .event h .seeMedia
  | labelTaken noLabel => exact .event h .seeTaken
  | pause => exact .request h fun hx => hx.takePause.ok
  | resume => exact .request h .runResume
  | feed => exact .request h .runFeed
  | calibrate => exact .request h .runCalibrate
  | settingsSet => exact .request h .runSettingsSet
  | settingsGet service => exact .request h .ok
  | idleTimeout => exact .event h .expireIdle
  | wakeDelayEnd => exact .event h .endWake
  | engine => exact .next h.placeEngine
  | status => exact .request h .runStatus
  | statusClear => exact .request h .runStatusClear
  | restart => exact .request h .runRestart
  | restartLimit straps => exact .event h .endRestart
  | resetLineAsserted => exact .event h .assertReset

/-- One step, the idle one too. -/
theorem step_answersAttentionSound (h : s.attentionSound) : AnswersAttentionSound (step s) := by
  unfold step
  split
  · exact .next h
  · exact exec_answersAttentionSound _ h

/-- Settles O5: every operation that changes the engine's state or a job's reason COUNTER sets the line after it, and
every command is made of such operations and of ones that leave both alone. -/
theorem attentionFollowsFaultAndCounterHold : Obligations.AttentionFollowsFaultAndCounterHold := by
  unfold Obligations.AttentionFollowsFaultAndCounterHold
  intro s t h hstep
  exact step_answersAttentionSound h t hstep

end Sys2Proof.Machine
end

section
/-! SUPPORT. What a command can do, said once: a request runs its own rule and an event its effect on the state with
everything due taken, an event that itself falls due takes its effect at once, and the end of an access goes on with the
partner it was issued for. A property that every step keeps is proved by these cases. -/

set_option Elab.async false

namespace Sys2Proof.Machine

/-! ### The effect of a command -/

/-- The code of the request that a command executes, and the request's own rule (R186). -/
def requestRun : Instr → Option (Nat × (List Byte → State → State))
  | .recordBegin => some (0x01, State.runRecordBegin)
  | .recordData => some (0x02, State.runRecordData)
  | .recordEnd => some (0x03, State.runRecordEnd)
  | .recordAbandon => some (0x04, fun _ => State.runRecordAbandon)
  | .recordRetire => some (0x05, State.runRecordRetire)
  | .recordQuery => some (0x06, State.runRecordQuery)
  | .directoryList => some (0x07, State.runDirectoryList)
  | .storeUsage => some (0x08, fun _ => State.runStoreUsage)
  | .storeWipe service => some (0x09, fun _ => State.runStoreWipe service)
  | .counterDefine => some (0x10, State.runCounterDefine)
  | .counterSet => some (0x11, State.runCounterSet)
  | .counterUndefine => some (0x12, State.runCounterUndefine)
  | .counterClearReturns => some (0x13, State.runCounterClearReturns)
  | .counterRead => some (0x14, State.runCounterRead)
  | .jobHold => some (0x20, State.runJobHold)
  | .jobRelease => some (0x21, State.runJobRelease)
  | .jobSubmit => some (0x22, State.runJobSubmit)
  | .jobCancel => some (0x23, State.runJobCancel)
  | .jobQuery => some (0x24, State.runJobQuery)
  | .queueList => some (0x25, fun _ => State.runQueueList)
  | .reprint => some (0x26, fun _ => State.runReprint)
  | .reprintClear => some (0x27, fun _ => State.runReprintClear)
  | .pause => some (0x30, fun _ => State.runPause)
  | .resume => some (0x31, fun _ => State.runResume)
  | .feed => some (0x32, fun _ => State.runFeed)
  | .calibrate => some (0x33, fun _ => State.runCalibrate)
  | .settingsSet => some (0x34, State.runSettingsSet)
  | .settingsGet service => some (0x35, fun _ => State.runSettingsGet service)
  | .status => some (0x38, fun _ => State.runStatus)
  | .statusClear => some (0x39, State.runStatusClear)
  | .restart => some (0x3A, fun _ => State.runRestart)
  | _ => none

/-- The effect of an event on the state with everything due taken (log entry 3). -/
def eventEffect : Instr → Option (State → State)
  | .powerOn straps => some (State.powerUp straps)
  | .resetLine straps => some (State.releaseReset straps)
  | .resetLineAsserted => some State.assertReset
  | .mainPowerLoss => some State.losePower
  | .batteryRetentionLoss => some State.setLatch
  | .batteryLow below => some (State.seeBattery below)
  | .serialByteReceived b stopBit => some (State.receiveByte b stopBit)
  | .byteTimeout => some State.expireByte
  | .rtsChange high => some (State.seeRts high)
  | .byteTransmitted straps => some (State.sendByte straps)
  | .restartLimit straps => some (State.endRestart straps)
  | .unknownKind => some State.refuseUnknown
  | .uploadTimeout => some State.timeOutUpload
  | .eraseStart => some State.startErase
  | .suspensionEffect => some State.takeEffect
  | .progressWindowEnd => some State.endWindow
  | .eraseComplete residue => some (State.completeErase residue)
  | .eraseGiveUp => some State.reachGiveUp
  | .bandDrawn => some State.finishBand
  | .headSample theta supply => some (State.sampleHead theta supply)
  | .loadingEnd => some State.endLoading
  | .strobePhaseEnd => some State.endPhase
  | .lineEnd => some State.endLine
  | .motorStep gap => some (State.tryStep gap)
  | .headSwitchChange isOpen => some (State.seeHead isOpen)
  | .mediaSensorChange gap => some (State.seeMedia gap)
  | .labelTaken noLabel => some (State.seeTaken noLabel)
  | .idleTimeout => some State.expireIdle
  | .wakeDelayEnd => some State.endWake
  | _ => none

/-- The effect of an event that itself falls due, on the state as it stands (log entry 3). -/
def dueEffect : Instr → Option (State → State)
  | .ready => some State.placeReady
  | .nak => some fun s => s.placeNotices.answerMark
  | .jobEnd => some State.placeJobEnd
  | .engine => some State.placeEngine
  | .supplyCleared => some fun s => s.grantRoom.takeSupplyCleared
  | .missedGap => some fun s => s.grantRoom.takeMiss.checkEngineStep
  | .mediaOut => some fun s => s.grantRoom.takeMediaOut.checkEngineStep
  | .resyncNoEdge => some fun s => s.grantRoom.takeResyncLimit.checkEngineStep
  | .recoveryLimit => some fun s => s.grantRoom.takeRecoveryLimit.checkEngineStep
  | .calibrationLimit => some fun s => s.grantRoom.takeCalibrationLimit.checkEngineStep
  | _ => none

/-- What a command that answers a next state can have done. -/
inductive Executes : Instr → State → State → Prop
  | request {c code run s} (h : requestRun c = some (code, run)) : Executes c s (s.after (State.onRequest code run))
  | event {c f s} (h : eventEffect c = some f) : Executes c s (s.after f)
  | due {c f s} (h : dueEffect c = some f) : Executes c s (f s)
  /-- The end of an access with no such access in progress (log entry 1). -/
  | noAccess {c s} : Executes c s s.settle
  | programEnd {left client addr data s} :
    Executes (.pageProgramEnd left) s (s.settle.endProgram client addr data left).checkEngineStep
  | programFail {c client addr data time s} (h : c = .programTimeout ∨ ∃ left, c = .pageProgramEnd left) :
    Executes c s ((s.settle.atLeast time).failProgram client addr data).checkEngineStep
  | readEnd {client time s} :
    Executes .pageReadEnd s (State.afterRead client (s.settle.atLeast time).passOn).checkEngineStep

theorem State.atLeast_zero (s : State) : s.atLeast 0 = s := by simp [State.atLeast]

theorem exec_of_requestRun {c : Instr} {code : Nat} {run : List Byte → State → State}
    (h : requestRun c = some (code, run)) (s : State) : exec c s = .next (s.after (State.onRequest code run)) := by
  cases c <;> cases h <;> rfl

theorem exec_of_eventEffect {c : Instr} {f : State → State} (h : eventEffect c = some f) (s : State) :
    exec c s = .next (s.after f) := by
  cases c <;> cases h <;> rfl

theorem exec_of_dueEffect {c : Instr} {f : State → State} (h : dueEffect c = some f) (s : State) :
    exec c s = .next (f s) := by
  cases c <;> cases h <;> rfl

/-- Every command is a request, an event, an event that falls due, or the end of an access. -/
theorem command_cases (c : Instr) :
    (requestRun c).isSome ∨ (eventEffect c).isSome ∨ (dueEffect c).isSome
      ∨ c = .pageReadEnd ∨ c = .programTimeout ∨ ∃ left, c = .pageProgramEnd left := by
  cases c <;> simp [requestRun, eventEffect, dueEffect]

/-- The end of a program answers what the partner made of it, or finds no program to end, or a page that the array does
not have (log entry 39). -/
theorem pageProgramEnd_cases (left : Option (List Byte)) (s : State) :
    (∃ t, exec (.pageProgramEnd left) s = .next t ∧ Executes (.pageProgramEnd left) s t)
      ∨ exec (.pageProgramEnd left) s = .fault .noSuchFlashAddress
        ∧ ∃ b, s.settle.array.busy = some b ∧ Config.pages ≤ b.access.op.page := by
  simp only [exec, execPageProgramEnd]
  split
  · rename_i client addr data t hbusy
    split
    · left
      split
      · exact ⟨_, rfl, .programEnd⟩
      · have he := Executes.programFail (s := s) (client := client) (addr := addr) (data := data) (time := 0)
          (.inr ⟨left, rfl⟩)
        rw [State.atLeast_zero] at he
        exact ⟨_, rfl, he⟩
    · rename_i hpage
      exact .inr ⟨rfl, _, hbusy, by simpa [pageExists, AccessOp.page] using hpage⟩
  · exact .inl ⟨_, rfl, .noAccess⟩

theorem programTimeout_cases (s : State) :
    (∃ t, exec .programTimeout s = .next t ∧ Executes .programTimeout s t)
      ∨ exec .programTimeout s = .fault .noSuchFlashAddress
        ∧ ∃ b, s.settle.array.busy = some b ∧ Config.pages ≤ b.access.op.page := by
  simp only [exec, execProgramTimeout]
  split
  · rename_i client addr data t hbusy
    split
    · exact .inl ⟨_, rfl, .programFail (.inl rfl)⟩
    · rename_i hpage
      exact .inr ⟨rfl, _, hbusy, by simpa [pageExists, AccessOp.page] using hpage⟩
  · exact .inl ⟨_, rfl, .noAccess⟩

theorem pageReadEnd_cases (s : State) :
    (∃ t, exec .pageReadEnd s = .next t ∧ Executes .pageReadEnd s t)
      ∨ exec .pageReadEnd s = .fault .noSuchFlashAddress
        ∧ ∃ b, s.settle.array.busy = some b ∧ Config.pages ≤ b.access.op.page := by
  simp only [exec, execPageReadEnd]
  split
  · rename_i client page t hbusy
    split
    · exact .inl ⟨_, rfl, .readEnd⟩
    · rename_i hpage
      exact .inr ⟨rfl, _, hbusy, by simpa [pageExists, AccessOp.page] using hpage⟩
  · exact .inl ⟨_, rfl, .noAccess⟩

/-- A command answers a next state by one of the cases, or ends an access of a page that the array does not have. -/
theorem exec_cases (c : Instr) (s : State) :
    (∃ t, exec c s = .next t ∧ Executes c s t)
      ∨ exec c s = .fault .noSuchFlashAddress
        ∧ (c = .pageReadEnd ∨ c = .programTimeout ∨ ∃ left, c = .pageProgramEnd left)
        ∧ ∃ b, s.settle.array.busy = some b ∧ Config.pages ≤ b.access.op.page := by
  rcases command_cases c with h | h | h | rfl | rfl | ⟨left, rfl⟩
  · obtain ⟨⟨code, run⟩, h⟩ := Option.isSome_iff_exists.mp h
    exact .inl ⟨_, exec_of_requestRun h s, .request h⟩
  · obtain ⟨f, h⟩ := Option.isSome_iff_exists.mp h
    exact .inl ⟨_, exec_of_eventEffect h s, .event h⟩
  · obtain ⟨f, h⟩ := Option.isSome_iff_exists.mp h
    exact .inl ⟨_, exec_of_dueEffect h s, .due h⟩
  · exact (pageReadEnd_cases s).imp id fun ⟨hf, hb⟩ => ⟨hf, .inl rfl, hb⟩
  · exact (programTimeout_cases s).imp id fun ⟨hf, hb⟩ => ⟨hf, .inr (.inl rfl), hb⟩
  · exact (pageProgramEnd_cases left s).imp id fun ⟨hf, hb⟩ => ⟨hf, .inr (.inr ⟨left, rfl⟩), hb⟩

theorem executes_of_exec {c : Instr} {s t : State} (h : exec c s = .next t) : Executes c s t := by
  rcases exec_cases c s with ⟨t', ht, he⟩ | ⟨hf, -⟩
  · rw [ht] at h
    cases h
    exact he
  · rw [hf] at h
    cases h

/-- A property that the clock does not touch and every command keeps is kept by every step. -/
theorem step_keeps {P : State → Prop} (hclock : ∀ s, P s → P { s with now := s.now + 1 })
    (hpending : ∀ s rest, P s → P { s with pending := rest })
    (hexec : ∀ c s t, P s → Executes c s t → P t) {s t : State} (h : P s) (hstep : step s = .next t) : P t := by
  unfold step at hstep
  split at hstep
  · cases hstep
    exact hclock s h
  · exact hexec _ _ _ (hpending s _ h) (executes_of_exec hstep)

/-! ### The queue of waiting commands (section 1.2) -/

theorem requestRun_pending {c : Instr} {code : Nat} {run : List Byte → State → State}
    (h : requestRun c = some (code, run)) (b : List Byte) (x : State) : (run b x).pending = x.pending := by
  cases c <;> cases h <;> simp

theorem eventEffect_pending {c : Instr} {f : State → State} (h : eventEffect c = some f) (x : State) :
    (f x).pending = x.pending := by
  cases c <;> cases h <;> simp

theorem dueEffect_pending {c : Instr} {f : State → State} (h : dueEffect c = some f) (x : State) :
    (f x).pending = x.pending := by
  cases c <;> cases h <;> simp

theorem Executes.pending {c : Instr} {s t : State} (h : Executes c s t) : t.pending = s.pending := by
  cases h with
  | request h => exact State.after_pending _ _ fun x => State.onRequest_pending _ _ x (requestRun_pending h)
  | event h => exact State.after_pending _ _ (eventEffect_pending h)
  | due h => exact dueEffect_pending h s
  | noAccess => simp
  | programEnd => simp
  | programFail => simp
  | readEnd => simp

/-- Settles O2: every case of a command's answer leaves the queue, and only the end of an access of a page that the
array does not have answers no next state. -/
theorem commandsAnswerAndLeaveTheQueueAlone : Obligations.CommandsAnswerAndLeaveTheQueueAlone := by
  unfold Obligations.CommandsAnswerAndLeaveTheQueueAlone
  intro c s
  exact (exec_cases c s).imp (fun ⟨t, ht, he⟩ => ⟨t, ht, he.pending⟩) id

/-! ### The flash contents (section 1.1) -/

theorem State.flashSound.of_eq {s t : State} (h : s.flashSound) (he : t.flash = s.flash) : t.flashSound := by
  rw [State.flashSound, he]
  exact h

theorem State.flashSound.cutProgram {s : State} {addr : Nat} {data : List Byte} (h : s.flashSound) :
    (s.cutProgram addr data).flashSound := Memory.wf_flashWriteAll h

theorem State.flashSound.cutErase {s : State} {sector : Nat} (h : s.flashSound) : (s.cutErase sector).flashSound := by
  simp only [State.flashSound, State.cutErase]
  exact Memory.wf_flashWriteAll h

theorem State.flashSound.cutArray {s : State} (h : s.flashSound) : s.cutArray.flashSound := by
  unfold State.cutArray
  dsimp only
  split <;> split
  · exact h.cutProgram.cutErase
  · exact h.cutErase
  · exact h.cutProgram
  · exact h

theorem State.flashSound.resetBlocks {s : State} {mode : Mode} {rate : Nat} (h : s.flashSound) :
    (s.resetBlocks mode rate).flashSound := h.cutArray

theorem State.flashSound.beginStartUp {s : State} {straps : BaudStraps} (h : s.flashSound) :
    (s.beginStartUp straps).flashSound :=
  (h.resetBlocks (mode := .startUp (.scan Scan.begin)) (rate := rateOf straps)).of_eq (by simp [State.beginStartUp])

theorem State.flashSound.endProgram {s : State} {client : Client} {addr : Nat} {data : List Byte}
    {left : Option (List Byte)} (h : s.flashSound) : (s.endProgram client addr data left).flashSound := by
  have hw : Memory.wf (flashWriteAll s.flash addr (leftBy (flashRange s.flash addr data.length)
      (programmed (flashRange s.flash addr data.length) data) left)) = true := Memory.wf_flashWriteAll h
  unfold State.flashSound
  simpa [State.endProgram] using hw

theorem State.flashSound.failProgram {s : State} {client : Client} {addr : Nat} {data : List Byte}
    (h : s.flashSound) : (s.failProgram client addr data).flashSound :=
  (h.cutProgram (addr := addr) (data := data)).of_eq (by simp [State.failProgram])

theorem State.flashSound.giveUp {s : State} {n : Nat} (h : s.flashSound) : (s.giveUp n).flashSound := by
  have hc : (s.setStoreFault.cutErase n).flashSound := State.flashSound.cutErase h
  exact hc.of_eq (by simp [State.giveUp])

theorem State.flashSound.completeErase {s : State} {residue : List (Nat × Byte)} (h : s.flashSound) :
    (s.completeErase residue).flashSound := by
  unfold State.completeErase
  dsimp only
  repeat' split
  · exact h
  · exact h.giveUp
  · exact h
  · exact Memory.wf_erasedBut h
  · exact Memory.wf_erasedBut h
  · exact h

theorem State.flashSound.reachGiveUp {s : State} (h : s.flashSound) : s.reachGiveUp.flashSound := by
  unfold State.reachGiveUp
  split
  · exact State.flashSound.giveUp h
  · exact h

theorem State.flashSound.powerUp {s : State} {straps : BaudStraps} (h : s.flashSound) :
    (s.powerUp straps).flashSound := by
  unfold State.powerUp
  repeat' split
  · exact h
  · exact h.beginStartUp
  · exact h

theorem State.flashSound.releaseReset {s : State} {straps : BaudStraps} (h : s.flashSound) :
    (s.releaseReset straps).flashSound := by
  unfold State.releaseReset
  dsimp only
  repeat' split
  · exact h
  · exact State.flashSound.beginStartUp h
  · exact h

theorem State.flashSound.assertReset {s : State} (h : s.flashSound) : s.assertReset.flashSound := by
  unfold State.assertReset
  dsimp only
  split
  · exact h
  · exact State.flashSound.resetBlocks h

theorem State.flashSound.losePower {s : State} (h : s.flashSound) : s.losePower.flashSound := by
  unfold State.losePower
  split
  · exact h
  · exact h.resetBlocks

theorem State.flashSound.sendByte {s : State} {straps : BaudStraps} (h : s.flashSound) :
    (s.sendByte straps).flashSound := by
  unfold State.sendByte
  dsimp only
  repeat' split
  · exact State.flashSound.beginStartUp h
  · exact h.of_eq (by simp)
  · exact h.of_eq (by simp)
  · exact h

theorem State.flashSound.endRestart {s : State} {straps : BaudStraps} (h : s.flashSound) :
    (s.endRestart straps).flashSound := by
  unfold State.endRestart
  split
  · exact State.flashSound.beginStartUp h
  · exact h

theorem requestRun_flash {c : Instr} {code : Nat} {run : List Byte → State → State}
    (h : requestRun c = some (code, run)) (b : List Byte) (x : State) : (run b x).flash = x.flash := by
  cases c <;> cases h <;> simp

theorem dueEffect_flash {c : Instr} {f : State → State} (h : dueEffect c = some f) (x : State) :
    (f x).flash = x.flash := by
  cases c <;> cases h <;> simp

/-- The events: those that end an erase or reset the part write flash, and the others leave it. -/
theorem eventEffect_flashSound {c : Instr} {f : State → State} (h : eventEffect c = some f) {x : State}
    (hx : x.flashSound) : (f x).flashSound := by
  cases c with
  | powerOn straps => cases h; exact hx.powerUp
  | resetLine straps => cases h; exact hx.releaseReset
  | resetLineAsserted => cases h; exact hx.assertReset
  | mainPowerLoss => cases h; exact hx.losePower
  | byteTransmitted straps => cases h; exact hx.sendByte
  | restartLimit straps => cases h; exact hx.endRestart
  | eraseComplete residue => cases h; exact hx.completeErase
  | eraseGiveUp => cases h; exact hx.reachGiveUp
  | _ => cases h <;> exact hx.of_eq (by simp)

theorem State.flashSound.after {s : State} {f : State → State} (h : s.flashSound)
    (hf : ∀ {x : State}, x.flashSound → (f x).flashSound) : (s.after f).flashSound :=
  (hf (h.of_eq (State.settle_flash s))).of_eq (by simp [State.after])

theorem Executes.flashSound {c : Instr} {s t : State} (h : Executes c s t) (hs : s.flashSound) : t.flashSound := by
  have hsettle : s.settle.flashSound := hs.of_eq (by simp)
  cases h with
  | request h => exact hs.of_eq (State.after_flash _ _ fun x => State.onRequest_flash _ _ x (requestRun_flash h))
  | event h => exact hs.after (eventEffect_flashSound h)
  | due h => exact hs.of_eq (dueEffect_flash h s)
  | noAccess => exact hsettle
  | @programEnd left client addr data s =>
    exact (hsettle.endProgram (client := client) (addr := addr) (data := data) (left := left)).of_eq
      (State.checkEngineStep_flash _)
  | @programFail c client addr data time s h =>
    have ht : (s.settle.atLeast time).flashSound := hsettle.of_eq (State.atLeast_flash _ _)
    exact (ht.failProgram (client := client) (addr := addr) (data := data)).of_eq (State.checkEngineStep_flash _)
  | readEnd => exact hsettle.of_eq (by simp)

/-- Settles O4: flash is written by the ends of programs and erases and by the resets that cut them short alone, and
each of these writes keeps the canonical form. -/
theorem flashStaysCanonical : Obligations.FlashStaysCanonical := by
  unfold Obligations.FlashStaysCanonical
  intro s t h hstep
  exact step_keeps (fun _ h => h) (fun _ _ h => h) (fun _ _ _ h he => he.flashSound h) h hstep

end Sys2Proof.Machine
end

section
/-! SUPPORT. What every operation of the part keeps: the bounds of the counters, the table check, the room of the queue,
the registration count, and, but for the resets and STATUS_CLEAR, the sticky flags. An operation *follows* a state where
it keeps all of them; this part says what the counter table, the job list and the few changes of the other items do. -/

set_option Elab.async false

namespace Sys2Proof.Machine

/-! ### What is kept -/

/-- The items of a state that the kept properties speak of. -/
structure Ledger where
  battery : Battery
  count : Nat
  tags : List Nat
  tickets : Nat
  submitted : Option JobItems
  sticky : Sticky

/-- The tags of the jobs, in queue order. -/
def JobQueue.tags (q : JobQueue) : List Nat := q.jobs.map fun j => j.items.tag

def State.ledger (s : State) : Ledger :=
  { battery := s.battery, count := s.media.count, tags := s.queue.tags, tickets := s.queue.tickets.length,
    submitted := itemsSubmitted s.dec.work, sticky := s.sticky }

/-- A place for a job in a queue of jobs: fewer than 32 of them, none of its tag (R95, R96). -/
def PlaceFor (items : JobItems) (tags : List Nat) : Prop := tags.length < Config.maxJobs ∧ items.tag ∉ tags

/-- The queue within its room, in the items of a ledger (R95, R96). -/
def Ledger.Roomy (l : Ledger) : Prop :=
  l.tags.length ≤ Config.maxJobs ∧ l.tickets ≤ Config.maxTickets ∧ l.tags.Nodup
    ∧ ∀ items, l.submitted = some items → PlaceFor items l.tags

/-- A return list of 8 values at most, none twice (R76). -/
def Counter.Distinct (c : Counter) : Prop := c.returns.length ≤ 8 ∧ c.returns.Nodup

/-- A change of a counter record that keeps its bounds and its return list (R75, R76). -/
structure Counter.Follows (c d : Counter) : Prop where
  bounds : c.inBounds → d.inBounds
  distinct : c.Distinct → d.Distinct

/-- A change of the counter table that keeps the bounds and the return lists (R75, R76). -/
structure CountersFollow (cs ds : List Counter) : Prop where
  bounds : (∀ c ∈ cs, c.inBounds) → ∀ d ∈ ds, d.inBounds
  distinct : (∀ c ∈ cs, c.Distinct) → ∀ d ∈ ds, d.Distinct

/-- A change of the battery-backed RAM that keeps its table check and its counters (R75, R76, R90). -/
structure Battery.Follows (a b : Battery) : Prop where
  check : a.check = tableSum a → b.check = tableSum b
  counters : CountersFollow a.counters b.counters

/-- What every command keeps. -/
structure Ledger.Keeps (a b : Ledger) : Prop where
  battery : a.battery.Follows b.battery
  count : a.count ≤ 256 → b.count ≤ 256
  queue : a.Roomy → b.Roomy

/-- What every operation but the resets and STATUS_CLEAR keeps. -/
structure Ledger.Follows (a b : Ledger) : Prop extends a.Keeps b where
  sticky : a.sticky.kept b.sticky

/-- The second state has what every command keeps, where the first has. -/
def State.Keeps (r s : State) : Prop := r.ledger.Keeps s.ledger

/-- The second state has what every operation keeps, where the first has, and every sticky flag of the first. -/
def State.Follows (r s : State) : Prop := r.ledger.Follows s.ledger

theorem State.queueSound_iff (s : State) : s.queueSound ↔ s.ledger.Roomy := by
  simp only [State.queueSound, Ledger.Roomy, State.ledger, JobQueue.tags, PlaceFor, List.length_map, List.mem_map,
    not_exists, not_and, ne_eq]

theorem State.Keeps.queueSound {r s : State} (h : r.Keeps s) (hr : r.queueSound) : s.queueSound :=
  s.queueSound_iff.mpr (h.queue (r.queueSound_iff.mp hr))

theorem State.Keeps.countSound {r s : State} (h : r.Keeps s) (hr : r.countSound) : s.countSound := h.count hr

theorem State.Keeps.tableSound {r s : State} (h : r.Keeps s) (hr : r.tableSound) : s.tableSound := h.battery.check hr

theorem State.Keeps.countersInBounds {r s : State} (h : r.Keeps s) (hr : r.countersInBounds) : s.countersInBounds :=
  h.battery.counters.bounds hr

theorem State.Keeps.returnsSound {r s : State} (h : r.Keeps s) (hr : r.returnsSound) : s.returnsSound :=
  h.battery.counters.distinct hr

/-! ### One change after another -/

theorem Counter.Follows.refl (c : Counter) : c.Follows c := ⟨id, id⟩

theorem CountersFollow.refl (cs : List Counter) : CountersFollow cs cs := ⟨id, id⟩

theorem CountersFollow.trans {as bs cs : List Counter} (h : CountersFollow as bs) (k : CountersFollow bs cs) :
    CountersFollow as cs :=
  ⟨fun x => k.bounds (h.bounds x), fun x => k.distinct (h.distinct x)⟩

theorem Battery.Follows.refl (b : Battery) : b.Follows b := ⟨id, .refl _⟩

theorem Battery.Follows.trans {a b c : Battery} (h : a.Follows b) (k : b.Follows c) : a.Follows c :=
  ⟨fun x => k.check (h.check x), h.counters.trans k.counters⟩

theorem Sticky.kept.refl (a : Sticky) : a.kept a := ⟨id, id, id, id, id, id, id⟩

theorem Sticky.kept.trans {a b c : Sticky} (h : a.kept b) (k : b.kept c) : a.kept c := by
  obtain ⟨h1, h2, h3, h4, h5, h6, h7⟩ := h
  obtain ⟨k1, k2, k3, k4, k5, k6, k7⟩ := k
  exact ⟨k1 ∘ h1, k2 ∘ h2, k3 ∘ h3, k4 ∘ h4, k5 ∘ h5, k6 ∘ h6, k7 ∘ h7⟩

theorem State.Keeps.refl (s : State) : s.Keeps s := ⟨.refl _, id, id⟩

theorem State.Keeps.trans {q r s : State} (h : q.Keeps r) (k : r.Keeps s) : q.Keeps s :=
  ⟨h.battery.trans k.battery, fun x => k.count (h.count x), fun x => k.queue (h.queue x)⟩

theorem State.Follows.refl (s : State) : s.Follows s := ⟨State.Keeps.refl s, .refl _⟩

theorem State.Follows.keeps {r s : State} (h : r.Follows s) : r.Keeps s := h.toKeeps

theorem State.Follows.trans {q r s : State} (h : q.Follows r) (k : r.Follows s) : q.Follows s :=
  ⟨h.keeps.trans k.keeps, h.sticky.trans k.sticky⟩

/-- A state with the same items follows. -/
theorem State.Follows.of_ledger {r s t : State} (h : r.Follows s) (he : t.ledger = s.ledger) : r.Follows t := by
  unfold State.Follows
  rw [he]
  exact h

/-! ### The counter table (chapter 4) -/

theorem Counter.undefinedRecord_inBounds : Counter.undefinedRecord.inBounds := by
  simp [Counter.inBounds, Counter.undefinedRecord, CounterDef.zero]

theorem Counter.undefinedRecord_distinct : Counter.undefinedRecord.Distinct := by
  simp [Counter.Distinct, Counter.undefinedRecord]

/-- One record replaced: the others are as they were, and an id outside the table replaces none. -/
theorem CountersFollow.setCounter {id : Nat} {c : Counter} {cs : List Counter}
    (h : (cs.getD (id - 1) Counter.undefinedRecord).Follows c) : CountersFollow cs (setCounter id c cs) := by
  have key : ∀ P : Counter → Prop, (P (cs.getD (id - 1) Counter.undefinedRecord) → P c) → (∀ x ∈ cs, P x) →
      ∀ y ∈ Machine.setCounter id c cs, P y := by
    intro P hP hcs y hy
    rw [Machine.setCounter] at hy
    by_cases hlt : id - 1 < cs.length
    · obtain hmem | rfl := List.mem_or_eq_of_mem_set hy
      · exact hcs y hmem
      · refine hP (hcs _ ?_)
        rw [List.getD_eq_getElem _ _ hlt]
        exact List.getElem_mem hlt
    · rw [List.set_eq_of_length_le (by omega)] at hy
      exact hcs y hy
  exact ⟨key _ h.bounds, key _ h.distinct⟩

/-- Every record changed alike. -/
theorem CountersFollow.map {f : Counter → Counter} (hf : ∀ c : Counter, c.Follows (f c)) (cs : List Counter) :
    CountersFollow cs (cs.map f) := by
  constructor <;> intro h d hd <;> obtain ⟨c, hc, rfl⟩ := List.mem_map.mp hd
  · exact (hf c).bounds (h c hc)
  · exact (hf c).distinct (h c hc)

/-- A record changed neither in its definition, current value nor return list, its outstanding list only shortened. -/
theorem Counter.Follows.of_outstanding {c d : Counter} (hd : d.defn = c.defn := by rfl)
    (hc : d.current = c.current := by rfl) (hr : d.returns = c.returns := by rfl)
    (ho : ∀ o ∈ d.outstanding, o ∈ c.outstanding) : c.Follows d := by
  refine ⟨fun ⟨h1, h2, h3, h4⟩ => ?_, fun h => by rwa [Counter.Distinct, hr]⟩
  unfold Counter.inBounds
  rw [hd, hc, hr]
  exact ⟨h1, h2, h3, fun o ho' => h4 o (ho o ho')⟩

theorem keepReturn_cases {policy : VoidPolicy} {returns kept : List Nat} {v : Nat}
    (h : keepReturn policy returns v = some kept) : v ∉ returns ∧ returns.length < 8 ∧ kept = returns ++ [v] := by
  unfold keepReturn at h
  split at h
  · split at h
    · rename_i hc
      simp only [Bool.and_eq_true, Bool.not_eq_true', decide_eq_true_eq] at hc
      refine ⟨by simpa using hc.1, hc.2, (Option.some.inj h).symm⟩
    · cases h
  · cases h

/-- What a return leaves in the list stood there or is a value of the outstanding list (R84). -/
theorem giveBack_mem {policy : VoidPolicy} {groups : List (Nat × Nat)} {os : List Outstanding} {returns : List Nat}
    {v : Nat} (h : v ∈ (giveBack policy groups os returns).1) : v ∈ returns ∨ ∃ o ∈ os, o.value = v := by
  induction os generalizing returns with
  | nil => exact .inl h
  | cons o os ih =>
    have later : ∀ {rs : List Nat}, v ∈ (giveBack policy groups os rs).1 → v ∈ rs ∨ ∃ p ∈ o :: os, p.value = v :=
      fun hv => (ih hv).imp id fun ⟨p, hp, hv⟩ => ⟨p, List.mem_cons_of_mem _ hp, hv⟩
    unfold giveBack at h
    split at h
    · split at h
      · rename_i kept hk
        obtain ⟨-, -, rfl⟩ := keepReturn_cases hk
        obtain hv | ⟨p, hp, hv⟩ := later h
        · simp only [List.mem_append, List.mem_singleton] at hv
          exact hv.imp id fun hv => ⟨o, List.mem_cons_self, hv.symm⟩
        · exact .inr ⟨p, hp, hv⟩
      · exact later h
    · exact later h

/-- A return joins only absent values, and none past 8 (R76, R84). -/
theorem giveBack_distinct {policy : VoidPolicy} {groups : List (Nat × Nat)} {os : List Outstanding}
    {returns : List Nat} (h : returns.length ≤ 8 ∧ returns.Nodup) :
    (giveBack policy groups os returns).1.length ≤ 8 ∧ (giveBack policy groups os returns).1.Nodup := by
  induction os generalizing returns with
  | nil => exact h
  | cons o os ih =>
    unfold giveBack
    split
    · split
      · rename_i kept hk
        obtain ⟨hv, hlen, rfl⟩ := keepReturn_cases hk
        refine ih ⟨by simp; omega, ?_⟩
        rw [List.nodup_append]
        refine ⟨h.2, List.nodup_singleton _, ?_⟩
        rintro a ha b hb rfl
        exact hv (List.mem_singleton.mp hb ▸ ha)
      · exact ih h
    · exact ih h

theorem Counter.follows_returned (groups : List (Nat × Nat)) (c : Counter) : c.Follows (c.returned groups) := by
  refine ⟨fun ⟨h1, h2, h3, h4⟩ => ⟨h1, h2, fun v hv => ?_, fun o ho => h4 o (List.mem_of_mem_filter ho)⟩,
    fun h => giveBack_distinct h⟩
  obtain hv | ⟨o, ho, rfl⟩ := giveBack_mem hv
  · exact h3 v hv
  · exact h4 o ho

theorem CountersFollow.returnGroups (groups : List (Nat × Nat)) (cs : List Counter) :
    CountersFollow cs (returnGroups groups cs).counters := .map (Counter.follows_returned groups) cs

theorem CountersFollow.confirmGroup (tag label : Nat) (cs : List Counter) :
    CountersFollow cs (confirmGroup tag label cs) :=
  .map (fun _ => .of_outstanding (ho := fun _ ho => List.mem_of_mem_filter ho)) cs

theorem CountersFollow.confirmGroups (tag : Nat) (labels : List Nat) (cs : List Counter) :
    CountersFollow cs (labels.foldl (fun acc l => Machine.confirmGroup tag l acc) cs) := by
  induction labels generalizing cs with
  | nil => exact .refl cs
  | cons l ls ih => exact (CountersFollow.confirmGroup tag l cs).trans (ih _)

/-- An advance changes the current value and the state alone. -/
theorem Counter.advance_frame (c : Counter) :
    c.advance.defn = c.defn ∧ c.advance.returns = c.returns ∧ c.advance.outstanding = c.outstanding := by
  obtain ⟨-, ha⟩ | ⟨-, ha⟩ | ⟨-, ha⟩ := c.advance_cases
  · simp [ha]
  · simp [ha]
  · rw [ha, Counter.passBound]
    split <;> simp

theorem Counter.follows_issue {c after : Counter} {v : Nat} (tag label : Nat) (h : c.issue = some (v, after)) :
    c.Follows (after.joinOutstanding tag label v) := by
  cases hr : c.returns with
  | cons w rest =>
    rw [Counter.issue_of_returns_cons hr] at h
    cases h
    refine ⟨fun ⟨h1, h2, h3, h4⟩ => ⟨h1, h2, fun x hx => h3 x (hr ▸ List.mem_cons_of_mem _ hx), fun o ho => ?_⟩,
      fun ⟨hlen, hnd⟩ => ?_⟩
    · simp only [Counter.joinOutstanding, List.mem_append, List.mem_singleton] at ho
      obtain ho | rfl := ho
      · exact h4 o ho
      · exact h3 v (by simp [hr])
    · rw [hr] at hlen hnd
      exact ⟨by simp [Counter.joinOutstanding] at hlen ⊢; omega, hnd.of_cons⟩
  | nil =>
    by_cases hs : c.state = .active
    · rw [Counter.issue_of_active hr hs] at h
      cases h
      obtain ⟨hd, hret, hout⟩ := c.advance_frame
      refine ⟨fun ⟨h1, h2, h3, h4⟩ => ⟨?_, ?_, ?_, fun o ho => ?_⟩, fun h => ?_⟩
      · have := Counter.advance_within (c := c) h2 h1
        simpa [Counter.joinOutstanding, hd, Counter.Within] using this
      · simpa [Counter.joinOutstanding, hd] using h2
      · simpa [Counter.joinOutstanding, hd, hret] using h3
      · simp only [Counter.joinOutstanding, hout, List.mem_append, List.mem_singleton, hd] at ho ⊢
        obtain ho | rfl := ho
        · exact h4 o ho
        · exact h1
      · simpa [Counter.Distinct, Counter.joinOutstanding, hret] using h
    · rw [Counter.issue_of_not_active hr hs] at h
      cases h

/-- The table that a draw answers, whether it is issued or fails (R80, R81). -/
def DrawAnswer.table : DrawAnswer → List Counter
  | .issued _ cs => cs
  | .failed _ a => a.counters

theorem CountersFollow.drawGroup (tag label : Nat) (ids : List Nat) (values : List Drawn) (cs : List Counter) :
    CountersFollow cs (drawGroup tag label ids values cs).table := by
  induction ids generalizing values cs with
  | nil => exact .refl cs
  | cons id ids ih =>
    unfold Machine.drawGroup
    dsimp only
    split
    · rename_i v after hissue
      exact (CountersFollow.setCounter (Counter.follows_issue tag label hissue)).trans (ih _ _)
    · exact .returnGroups _ cs

theorem CountersFollow.bindCounters (ids : List Nat) (cs : List Counter) : CountersFollow cs (bindCounters ids cs) := by
  unfold Machine.bindCounters
  induction ids generalizing cs with
  | nil => exact .refl cs
  | cons id ids ih =>
    rw [List.foldl_cons]
    refine CountersFollow.trans ?_ (ih _)
    exact CountersFollow.setCounter (.of_outstanding (ho := fun _ ho => ho))

theorem CountersFollow.unbindCounters (ids : List Nat) (cs : List Counter) :
    CountersFollow cs (unbindCounters ids cs) := by
  unfold Machine.unbindCounters
  induction ids generalizing cs with
  | nil => exact .refl cs
  | cons id ids ih =>
    rw [List.foldl_cons]
    refine CountersFollow.trans ?_ (ih _)
    exact CountersFollow.setCounter (.of_outstanding (ho := fun _ ho => ho))

/-! ### The battery-backed RAM (R90 to R92) -/

theorem Battery.checked_check (b : Battery) : b.checked.check = tableSum b.checked := rfl

/-- A table written with its check. -/
theorem Battery.Follows.checked {a b : Battery} (h : CountersFollow a.counters b.counters) : a.Follows b.checked :=
  ⟨fun _ => b.checked_check, h⟩

theorem Battery.Follows.withCounters {b : Battery} {cs : List Counter} (h : CountersFollow b.counters cs) :
    b.Follows (b.withCounters cs) := by
  unfold Battery.withCounters
  split
  · exact .refl b
  · exact .checked h

theorem Battery.follows_kept (b : Battery) : b.Follows b.kept :=
  .checked (.map (fun _ => .of_outstanding (ho := by simp)) b.counters)

theorem Battery.follows_rebuilt (b : Battery) : b.Follows Battery.rebuilt := by
  have hc : ∀ c ∈ Battery.rebuilt.counters, c = Counter.undefinedRecord := fun c hc => List.eq_of_mem_replicate hc
  refine ⟨fun _ => Battery.checked_check _, fun _ c h => ?_, fun _ c h => ?_⟩
  · rw [hc c h]
    exact Counter.undefinedRecord_inBounds
  · rw [hc c h]
    exact Counter.undefinedRecord_distinct

/-! ### The jobs (sections 5.1 and 5.2) -/

theorem JobQueue.tags_map {q : JobQueue} {g : Job → Job} (hg : ∀ j, (g j).items.tag = j.items.tag) :
    (q.jobs.map g).map (fun j => j.items.tag) = q.tags := by
  simp [JobQueue.tags, hg]

theorem JobQueue.tags_updateJob {q : JobQueue} {tag : Nat} {f : Job → Job} (hf : ∀ j, (f j).items.tag = j.items.tag) :
    (q.updateJob tag f).tags = q.tags :=
  JobQueue.tags_map fun j => by split <;> simp [hf]

/-- Jobs gone and tickets gone leave the rest within its room. -/
theorem Ledger.Roomy.of_sublist {a b : Ledger} (h : a.Roomy) (ht : b.tags.Sublist a.tags) (hn : b.tickets ≤ a.tickets)
    (hw : ∀ items, b.submitted = some items → a.submitted = some items) : b.Roomy := by
  obtain ⟨hlen, htickets, hnodup, hplace⟩ := h
  refine ⟨ht.length_le.trans hlen, hn.trans htickets, hnodup.sublist ht, fun items hi => ?_⟩
  obtain ⟨hroom, hnew⟩ := hplace items (hw items hi)
  exact ⟨ht.length_le.trans_lt hroom, fun hmem => hnew (ht.subset hmem)⟩

theorem insertJob_perm (j : Job) (jobs : List Job) : (insertJob j jobs).Perm (j :: jobs) := by
  unfold insertJob
  split
  · calc (splitRush jobs).1 ++ j :: (splitRush jobs).2
        |>.Perm (j :: ((splitRush jobs).1 ++ (splitRush jobs).2)) := List.perm_middle
      _ = j :: jobs := by rw [splitRush_append]
  · exact List.perm_append_singleton j jobs

/-! ### The changes of the kept items -/

variable {r s t : State}

/-- The queue changed where it stays within its room, the rest as in a state that follows. -/
theorem State.Follows.of_queue (h : r.Follows s) (hq : r.ledger.Roomy → s.ledger.Roomy → t.ledger.Roomy)
    (hb : t.battery = s.battery := by rfl) (hc : t.media.count = s.media.count := by rfl)
    (hs : t.sticky = s.sticky := by rfl) : r.Follows t := by
  obtain ⟨⟨battery, count, queue⟩, sticky⟩ := h
  refine ⟨⟨?_, ?_, fun x => hq x (queue x)⟩, ?_⟩
  · rw [show t.ledger.battery = s.ledger.battery from hb]; exact battery
  · rw [show t.ledger.count = s.ledger.count from hc]; exact count
  · rw [show t.ledger.sticky = s.ledger.sticky from hs]; exact sticky

/-- Jobs and tickets changed in place or gone, the rest as in a state that follows. -/
theorem State.Follows.of_sublist (h : r.Follows s) (ht : t.queue.tags.Sublist s.queue.tags)
    (hn : t.queue.tickets.length ≤ s.queue.tickets.length) (hw : t.dec.work = s.dec.work := by rfl)
    (hb : t.battery = s.battery := by rfl) (hc : t.media.count = s.media.count := by rfl)
    (hs : t.sticky = s.sticky := by rfl) : r.Follows t :=
  h.of_queue (fun _ x => x.of_sublist ht hn fun items hi => by
    have : t.ledger.submitted = s.ledger.submitted := congrArg itemsSubmitted hw
    rwa [← this]) hb hc hs

/-- The jobs changed in place, their tags kept. -/
theorem State.Follows.of_tags (h : r.Follows s) (ht : t.queue.tags = s.queue.tags)
    (hn : t.queue.tickets.length = s.queue.tickets.length := by rfl) (hw : t.dec.work = s.dec.work := by rfl)
    (hb : t.battery = s.battery := by rfl) (hc : t.media.count = s.media.count := by rfl)
    (hs : t.sticky = s.sticky := by rfl) : r.Follows t :=
  h.of_sublist (ht ▸ .refl _) hn.le hw hb hc hs

/-- The battery-backed RAM changed with its check, the rest as in a state that follows. -/
theorem State.Follows.of_battery (h : r.Follows s) (hb : s.battery.Follows t.battery)
    (hq : t.queue = s.queue := by rfl) (hw : t.dec.work = s.dec.work := by rfl)
    (hc : t.media.count = s.media.count := by rfl) (hs : t.sticky = s.sticky := by rfl) : r.Follows t := by
  obtain ⟨⟨battery, count, queue⟩, sticky⟩ := h
  refine ⟨⟨battery.trans hb, ?_, fun x => (queue x).of_sublist ?_ ?_ ?_⟩, ?_⟩
  · rw [show t.ledger.count = s.ledger.count from hc]; exact count
  · simp [State.ledger, hq]
  · simp [State.ledger, hq]
  · simp [State.ledger, hw]
  · rw [show t.ledger.sticky = s.ledger.sticky from hs]; exact sticky

/-- The work of the Decoder ended or changed to one that submits no job, or the job being submitted. -/
theorem State.Follows.of_work (h : r.Follows s)
    (hw : ∀ items, itemsSubmitted t.dec.work = some items → itemsSubmitted s.dec.work = some items)
    (hq : t.queue = s.queue := by rfl) (hb : t.battery = s.battery := by rfl)
    (hc : t.media.count = s.media.count := by rfl) (hs : t.sticky = s.sticky := by rfl) : r.Follows t :=
  h.of_queue (fun _ x => x.of_sublist (by simp [State.ledger, hq]) (by simp [State.ledger, hq]) hw) hb hc hs

/-- Sticky flags set, the rest as in a state that follows. -/
theorem State.Follows.of_sticky (h : r.Follows s) (hk : s.sticky.kept t.sticky)
    (hq : t.queue = s.queue := by rfl) (hw : t.dec.work = s.dec.work := by rfl)
    (hb : t.battery = s.battery := by rfl) (hc : t.media.count = s.media.count := by rfl) : r.Follows t := by
  have he : { t with sticky := s.sticky }.ledger = s.ledger := by simp [State.ledger, hq, hw, hb, hc]
  have hs : r.Follows { t with sticky := s.sticky } := h.of_ledger he
  exact ⟨⟨hs.battery, hs.count, hs.queue⟩, hs.sticky.trans hk⟩

theorem State.Follows.withCounters {cs : List Counter} (h : r.Follows s) (hc : CountersFollow s.battery.counters cs) :
    r.Follows (s.withCounters cs) := h.of_battery (.withCounters hc)

theorem State.Follows.setStoreFault (h : r.Follows s) : r.Follows s.setStoreFault :=
  h.of_sticky ⟨fun _ => rfl, id, id, id, id, id, id⟩

/-- The count set to one within its range; the warning flag is set or stays (R164). -/
theorem State.Follows.setCount {n : Nat} (hn : s.media.count ≤ 256 → n ≤ 256) (h : r.Follows s) :
    r.Follows (s.setCount n) := by
  have hk : s.sticky.kept (s.setCount n).sticky := ⟨id, id, id, id, fun h => by simp [State.setCount, h], id, id⟩
  obtain ⟨⟨battery, count, queue⟩, sticky⟩ := h
  exact ⟨⟨battery, fun x => hn (count x), queue⟩, sticky.trans hk⟩

end Sys2Proof.Machine
end


section
/-! SUPPORT. The operations that the commands share follow the state they are given: each is walked through once, branch by
branch, with a changed counter table, job list or flag taken from the rules above. -/

set_option Elab.async false

namespace Sys2Proof.Machine

variable {r s : State}

/-! ### The clock, the array, the line and the Decoder -/

theorem State.Follows.atLeast {time : Nat} (h : r.Follows s) : r.Follows (s.atLeast time) := h

theorem State.Follows.passOn (h : r.Follows s) : r.Follows s.passOn := h

theorem State.Follows.beginSending (h : r.Follows s) : r.Follows s.beginSending := by
  unfold State.beginSending
  split <;> exact h

theorem State.Follows.place {frame : List Byte} (h : r.Follows s) : r.Follows (s.place frame) :=
  .beginSending h

theorem State.Follows.wakeDecoder (h : r.Follows s) : r.Follows s.wakeDecoder := by
  unfold State.wakeDecoder
  split <;> exact h

/-- A reply ends the work of its request. -/
theorem State.Follows.reply {kind : Byte} {body : List Byte} (h : r.Follows s) :
    r.Follows (s.reply kind body) := by
  have ended : r.Follows (s.await .none) := h.of_work (by simp [State.await, itemsSubmitted])
  refine .wakeDecoder ?_
  split <;> exact .place ended

theorem State.Follows.ok {payload : List Byte} (h : r.Follows s) : r.Follows (s.ok payload) := .reply h

theorem State.Follows.refuse {reason : Reason} {detail : Nat} (h : r.Follows s) :
    r.Follows (s.refuse reason detail) := .reply h

theorem State.Follows.takeHead {item : InItem} (h : r.Follows s) : r.Follows (s.takeHead item) :=
  h.of_ledger (by
    have hwork : (s.takeHead item).dec.work = s.dec.work := by
      unfold State.takeHead
      dsimp only
      split <;> split <;> rfl
    simp [State.ledger, hwork])

theorem State.Follows.begun {kind : Byte} (h : r.Follows s) : r.Follows (s.begun kind) := by
  unfold State.begun
  split <;> exact h

theorem State.Follows.onRequest {code : Nat} {run : List Byte → State → State} (h : r.Follows s)
    (hrun : ∀ {body : List Byte} {x : State}, r.Follows x → r.Follows (run body x)) :
    r.Follows (s.onRequest code run) := by
  unfold State.onRequest
  repeat' split
  · exact hrun h.begun
  · exact h.begun.refuse
  · exact h
  · exact h

/-! ### Rendering (sections 6.1 and 6.2) -/

theorem State.Follows.abandonDrawing {keys : List TicketKey} (h : r.Follows s) :
    r.Follows (s.abandonDrawing keys) := by
  unfold State.abandonDrawing
  repeat' split
  all_goals exact h

theorem State.Follows.freeTickets {keys : List TicketKey} (h : r.Follows s) :
    r.Follows (s.freeTickets keys) := h.abandonDrawing (keys := keys)

theorem State.Follows.readHand (h : r.Follows s) : r.Follows s.readHand := by
  unfold State.readHand
  repeat' split
  all_goals exact h

theorem State.Follows.takeBuffer {i : Nat} {t : Ticket} (h : r.Follows s) :
    r.Follows (s.takeBuffer i t) := .readHand (h.of_tags rfl (List.length_map _))

/-- Where the queue of the first state is within its room, that of the second has a place for a job (R95, R96). -/
def State.HasPlace (r s : State) (items : JobItems) : Prop := r.ledger.Roomy → PlaceFor items s.queue.tags

/-- A job being submitted has its place. -/
theorem State.Follows.hasPlace {items : JobItems} (h : r.Follows s) (hw : itemsSubmitted s.dec.work = some items) :
    r.HasPlace s items :=
  fun hr =>
    have ⟨_, _, _, hplace⟩ := h.queue hr
    hplace items hw

/-- The request in execution waits for what submits no job, or one that has a place. -/
theorem State.Follows.await {work : Work} (h : r.Follows s)
    (hp : ∀ items, itemsSubmitted work = some items → r.HasPlace s items) : r.Follows (s.await work) :=
  h.of_queue fun hr ⟨hlen, htickets, hnodup, _⟩ => ⟨hlen, htickets, hnodup, fun items hi => hp items hi hr⟩

theorem State.Follows.decoderIssue {op : AccessOp} {work : Work} (h : r.Follows s)
    (hp : ∀ items, itemsSubmitted work = some items → r.HasPlace s items) : r.Follows (s.decoderIssue op work) :=
  h.await hp

theorem State.Follows.readTable {items : JobItems} {field page : Nat} {left : List Nat} (h : r.Follows s)
    (hp : r.HasPlace s items) : r.Follows (s.readTable items field page left) :=
  h.decoderIssue fun _ hi => Option.some.inj hi ▸ hp

theorem State.Follows.askGeometry {items : JobItems} {field page : Nat} {left : List Nat} (h : r.Follows s)
    (hp : r.HasPlace s items) : r.Follows (s.askGeometry items field page left) := by
  unfold State.askGeometry
  split
  · exact h.await fun _ hi => Option.some.inj hi ▸ hp
  · exact h.readTable hp

theorem State.Follows.takeGeometry (h : r.Follows s) : r.Follows s.takeGeometry := by
  unfold State.takeGeometry
  split
  · rename_i items field page left hwork
    split
    · exact h.readTable (h.hasPlace (by rw [hwork]; rfl))
    · exact h
  · exact h

theorem State.Follows.renderNext (h : r.Follows s) : r.Follows s.renderNext := by
  unfold State.renderNext
  repeat' split
  · exact h
  · exact .takeBuffer h
  · exact h
  · exact h

theorem State.Follows.printableChanged (h : r.Follows s) : r.Follows s.printableChanged :=
  .renderNext (.freeTickets (h.of_tags rfl (List.length_map _)))

/-! ### The Job Queue (chapter 5) -/

theorem State.clearBlocked_tags (ids : List Nat) (s : State) : (s.clearBlocked ids).queue.tags = s.queue.tags :=
  JobQueue.tags_map fun j => by split <;> rfl

theorem State.Follows.clearBlocked {ids : List Nat} (h : r.Follows s) : r.Follows (s.clearBlocked ids) :=
  h.of_tags (State.clearBlocked_tags ids s) (by simp [State.clearBlocked, State.syncCounterHold])

theorem State.Follows.suspendRunning (h : r.Follows s) : r.Follows s.suspendRunning :=
  h.of_tags (JobQueue.tags_map fun j => by split <;> rfl)

/-- A ticket is appended where the list has room (R95, R104). -/
theorem State.Follows.appendTicket {t : Ticket} (h : r.Follows s)
    (hroom : s.queue.tickets.length < Config.maxTickets) : r.Follows (s.appendTicket t) :=
  .renderNext (h.of_queue fun _ ⟨hlen, _, hrest⟩ => ⟨hlen, by simpa [State.ledger] using hroom, hrest⟩)

theorem State.Follows.createCopy {tag label copy copies : Nat} {values : List Drawn} (h : r.Follows s)
    (hroom : s.queue.tickets.length < Config.maxTickets) : r.Follows (s.createCopy tag label copy copies values) :=
  .appendTicket (h.of_tags (JobQueue.tags_updateJob fun _ => rfl)) hroom

theorem State.Follows.createReprint {l : LastLabel} (h : r.Follows s)
    (hroom : s.queue.tickets.length < Config.maxTickets) : r.Follows (s.createReprint l) :=
  .appendTicket (h.of_tags rfl) hroom

theorem Job.afterChoice_tag (tag : Nat) (j : Job) : (j.afterChoice tag).items.tag = j.items.tag := by
  unfold Job.afterChoice
  repeat' split
  all_goals rfl

theorem State.Follows.createGroup {j : Job} {values : List Drawn} {cs : List Counter} (h : r.Follows s)
    (hroom : s.queue.tickets.length < Config.maxTickets) (hc : CountersFollow s.battery.counters cs) :
    r.Follows (s.createGroup j values cs) :=
  .appendTicket ((h.withCounters hc).of_tags (JobQueue.tags_map (Job.afterChoice_tag _))) hroom

theorem State.Follows.drawFailed {tag counter : Nat} {a : ReturnAnswer} (h : r.Follows s)
    (hc : CountersFollow s.battery.counters a.counters) : r.Follows (s.drawFailed tag counter a) :=
  .of_tags (h.withCounters hc).clearBlocked (JobQueue.tags_updateJob fun _ => rfl)

theorem State.Follows.choose (fuel : Nat) (h : r.Follows s) (hroom : s.queue.tickets.length < Config.maxTickets) :
    r.Follows (State.choose fuel s) := by
  induction fuel generalizing s with
  | zero => exact h.suspendRunning
  | succ fuel ih =>
    unfold State.choose
    split
    · exact h.createCopy hroom
    · exact h.createReprint hroom
    · exact h.suspendRunning
    · rename_i j hj
      have table := CountersFollow.drawGroup j.items.tag j.nextLabel j.counters [] s.battery.counters
      split
      · rename_i hdraw
        rw [hdraw] at table
        exact h.createGroup hroom table
      · rename_i hdraw
        rw [hdraw] at table
        exact ih (h.drawFailed table) hroom

theorem State.Follows.boundary (h : r.Follows s) : r.Follows s.boundary := by
  unfold State.boundary
  split
  · rename_i hdue
    simp only [State.boundaryDue, Bool.and_eq_true, decide_eq_true_eq] at hdue
    exact h.choose _ hdue.1
  · exact h

@[simp] theorem JobQueue.tags_updateTicket (q : JobQueue) (key : TicketKey) (f : Ticket → Ticket) :
    (q.updateTicket key f).tags = q.tags := rfl

@[simp] theorem State.readHand_queue (s : State) : s.readHand.queue = s.queue := by
  unfold State.readHand
  repeat' split
  all_goals rfl

/-- The renderer's next band changes one ticket in place. -/
theorem State.renderNext_queue (s : State) :
    s.renderNext.queue.jobs = s.queue.jobs ∧ s.renderNext.queue.tickets.length = s.queue.tickets.length := by
  unfold State.renderNext
  repeat' split
  · exact ⟨rfl, rfl⟩
  · simp [State.takeBuffer, JobQueue.updateTicket]
  · exact ⟨rfl, rfl⟩
  · exact ⟨rfl, rfl⟩

theorem State.appendTicket_queue (t : Ticket) (s : State) :
    (s.appendTicket t).queue.tags = s.queue.tags
      ∧ (s.appendTicket t).queue.tickets.length = s.queue.tickets.length + 1 := by
  obtain ⟨hj, ht⟩ := State.renderNext_queue { s with queue := { s.queue with tickets := s.queue.tickets ++ [t] } }
  exact ⟨congrArg (List.map _) hj, ht.trans (by simp)⟩

theorem State.drawFailed_tags (tag counter : Nat) (a : ReturnAnswer) (s : State) :
    (s.drawFailed tag counter a).queue.tags = s.queue.tags :=
  calc (s.drawFailed tag counter a).queue.tags
      = ((s.withCounters a.counters).clearBlocked a.able).queue.tags := JobQueue.tags_updateJob fun _ => rfl
    _ = s.queue.tags := State.clearBlocked_tags a.able (s.withCounters a.counters)

theorem State.choose_queue (fuel : Nat) (s : State) :
    (State.choose fuel s).queue.tags = s.queue.tags
      ∧ (State.choose fuel s).queue.tickets.length ≤ s.queue.tickets.length + 1 := by
  induction fuel generalizing s with
  | zero => exact ⟨JobQueue.tags_map fun j => by split <;> rfl, Nat.le_succ _⟩
  | succ fuel ih =>
    unfold State.choose
    split
    · exact (State.appendTicket_queue ..).imp (·.trans (JobQueue.tags_updateJob fun _ => rfl)) (·.le)
    · exact (State.appendTicket_queue ..).imp id (·.le)
    · exact ⟨JobQueue.tags_map fun j => by split <;> rfl, Nat.le_succ _⟩
    · split
      · exact (State.appendTicket_queue ..).imp (·.trans (JobQueue.tags_map (Job.afterChoice_tag _))) (·.le)
      · refine (ih _).imp (·.trans ?_) id
        exact State.drawFailed_tags ..

/-- A boundary keeps the tags of the jobs and the room of the ticket list, whatever the Decoder waits for. -/
theorem State.boundary_queue (s : State) :
    s.boundary.queue.tags = s.queue.tags
      ∧ (s.queue.tickets.length ≤ Config.maxTickets → s.boundary.queue.tickets.length ≤ Config.maxTickets) := by
  unfold State.boundary
  split
  · rename_i hdue
    simp only [State.boundaryDue, Bool.and_eq_true, decide_eq_true_eq] at hdue
    obtain ⟨htags, hlen⟩ := State.choose_queue (s.queue.jobs.length + 1) s
    exact ⟨htags, fun _ => hlen.trans hdue.1⟩
  · exact ⟨rfl, id⟩

theorem State.Follows.reportAble {ids : List Nat} (h : r.Follows s) :
    r.Follows (s.reportAble ids) := by
  unfold State.reportAble
  split
  · exact .boundary h.clearBlocked
  · exact h

theorem State.Follows.endJob {tag : Nat} {outcome : JobOutcome} (h : r.Follows s) :
    r.Follows (s.endJob tag outcome) :=
  h.of_tags (JobQueue.tags_updateJob fun _ => rfl)

theorem State.Follows.departJob {j : Job} (h : r.Follows s) : r.Follows (s.departJob j) :=
  (h.withCounters (.unbindCounters j.counters _)).of_sublist (List.filter_sublist.map _) le_rfl

theorem State.Follows.settleGroup {j : Job} {t : Ticket} (h : r.Follows s) :
    r.Follows (s.settleGroup j t) := by
  have confirmed : r.Follows (s.withCounters (confirmGroup j.items.tag t.key.label s.battery.counters)) :=
    h.withCounters (.confirmGroup ..)
  unfold State.settleGroup
  repeat' split
  · exact confirmed.of_tags (JobQueue.tags_updateJob fun _ => rfl)
  · exact confirmed
  · exact h

theorem State.Follows.endIfDone {tag : Nat} (h : r.Follows s) : r.Follows (s.endIfDone tag) := by
  unfold State.endIfDone
  split
  · split
    · exact h.endJob
    · exact h
  · exact h

theorem State.Follows.replaceLast {l : LastLabel} (h : r.Follows s) : r.Follows (s.replaceLast l) := h.of_tags rfl

theorem State.Follows.removeTicket {key : TicketKey} (h : r.Follows s) : r.Follows (s.removeTicket key) :=
  h.of_sublist (.refl _) (List.length_filter_le _ _)

theorem State.Follows.completeTicket {t : Ticket} (h : r.Follows s) :
    r.Follows (s.completeTicket t) := by
  unfold State.completeTicket
  dsimp only
  split
  · split
    · refine .boundary (.endIfDone (.replaceLast (.settleGroup ?_)))
      exact h.removeTicket.of_tags (JobQueue.tags_updateJob fun _ => rfl)
    · exact .boundary h.removeTicket
  · exact .boundary h.removeTicket

theorem State.Follows.voidTicket {t : Ticket} (h : r.Follows s) : r.Follows (s.voidTicket t) := by
  refine .renderNext ?_
  cases ht : t.key.source with
  | some tag => exact h.of_tags (JobQueue.tags_updateJob fun _ => rfl) (List.length_map _)
  | none => exact h.of_tags rfl (List.length_map _)

theorem State.Follows.cancelJob {tag : Nat} (h : r.Follows s) : r.Follows (s.cancelJob tag).1 := by
  have cancelled := fun (labels : List Nat) (groups : List (Nat × Nat)) => State.Follows.withCounters
    (cs := labels.foldl (fun cs l => confirmGroup tag l cs) (returnGroups groups s.battery.counters).counters) h
    ((CountersFollow.returnGroups ..).trans (.confirmGroups ..))
  have tags := fun gaps : Nat => s.queue.tags_updateJob (tag := tag)
    (f := fun j => { j with cancelled := true, openGroup := none, gaps := sat16 (j.gaps + gaps) }) fun _ => rfl
  unfold State.cancelJob
  dsimp only
  split
  · exact .freeTickets ((cancelled _ _).of_sublist (Eq.subst (motive := (List.Sublist · s.queue.tags)) (tags _).symm (.refl _))
      (List.length_filter_le _ _))
  · exact .endJob (.freeTickets ((cancelled _ _).of_sublist (Eq.subst (motive := (List.Sublist · s.queue.tags)) (tags _).symm (.refl _))
      (List.length_filter_le _ _)))

theorem State.Follows.afterCancel {discarded : Nat} {able : List Nat} (h : r.Follows s) :
    r.Follows (s.afterCancel discarded able) := by
  unfold State.afterCancel
  dsimp only
  split
  · exact h.clearBlocked.renderNext.boundary
  · exact h.clearBlocked.renderNext

end Sys2Proof.Machine
end

section
/-! SUPPORT. The Burn Controller and the Media Tracker (chapters 7 and 8) keep what is kept: a `State.transit` changes
neither the table, the queue nor the flags, and a hold and the registration count only set a flag. -/

set_option Elab.async false

namespace Sys2Proof.Machine

variable {r s : State}

/-! ### Lines and holds (chapter 7) -/

/-- A change of the Media Tracker that leaves the count alone. -/
theorem State.Follows.transit {f : Media → Media} (h : r.Follows s) (hf : (f s.media).count = s.media.count := by rfl) :
    r.Follows (s.transit f) :=
  h.of_ledger (by
    have hcount : (s.transit f).media.count = s.media.count := by
      simp only [State.transit, State.followAttention]
      split <;> split <;> exact hf
    simp [State.ledger, hcount])

theorem State.Follows.placeEngine (h : r.Follows s) : r.Follows s.placeEngine := by
  unfold State.placeEngine
  split
  · split
    · refine h.of_ledger ?_
      simp only [State.place, State.beginSending]
      split <;> rfl
    · exact h
  · exact h

theorem State.Follows.loadLine {n i : Nat} {t : Ticket} {v : LabelValues} (h : r.Follows s) :
    r.Follows (s.loadLine n i t v) := by
  refine h.of_tags (s := s) ?_ ?_ rfl rfl rfl rfl <;> dsimp only [State.loadLine] <;> split
  · rfl
  · rfl
  · exact List.length_map _
  · rfl

theorem State.Follows.requestHold {reasons : Holds} (h : r.Follows s) :
    r.Follows (s.requestHold reasons) :=
  .transit (h.of_sticky ⟨id, fun hs => by simp [hs], fun hs => by simp [hs], fun hs => by simp [hs], id, id, id⟩)

theorem State.Follows.lineStart {n : Nat} (h : r.Follows s) : r.Follows (s.lineStart n) := by
  unfold State.lineStart
  repeat' split
  · exact h.loadLine
  · exact h.requestHold
  · exact h.requestHold
  · exact h

theorem State.Follows.freeBand {n : Nat} (h : r.Follows s) : r.Follows (s.freeBand n) := by
  unfold State.freeBand
  repeat' split
  · exact .renderNext h
  all_goals exact h

theorem State.Follows.cutLine (h : r.Follows s) : r.Follows s.cutLine := by
  unfold State.cutLine
  split <;> exact h

theorem State.Follows.freeCut {line : Option LineInHand} (h : r.Follows s) :
    r.Follows (s.freeCut line) := by
  unfold State.freeCut
  repeat' split
  · exact h.freeBand
  all_goals exact h

/-! ### Label starts and presentation (R159 to R161, R171) -/

theorem State.Follows.startMotion {kind : MotionKind} {engine : Engine} {forLabel forRecovery : Bool}
    (h : r.Follows s) : r.Follows (s.startMotion kind engine forLabel forRecovery) := .transit h

theorem State.Follows.rest (h : r.Follows s) : r.Follows s.rest := .transit h

theorem State.Follows.enterPause (h : r.Follows s) : r.Follows s.enterPause := .transit h

theorem State.Follows.startLabel (h : r.Follows s) : r.Follows s.startLabel := by
  unfold State.startLabel
  split
  · exact .lineStart (.transit (h.of_tags rfl (List.length_map _)))
  · exact h

theorem State.Follows.settleStart (h : r.Follows s) : r.Follows s.settleStart := by
  unfold State.settleStart
  repeat' split
  · exact h.enterPause
  · exact h.startLabel
  · exact h.rest

theorem State.Follows.startResync {forLabel : Bool} (h : r.Follows s) :
    r.Follows (s.startResync forLabel) := .startMotion h

theorem State.Follows.prelimResync (h : r.Follows s) : r.Follows s.prelimResync := by
  unfold State.prelimResync
  repeat' split
  · exact h.startResync
  · exact h.settleStart
  · exact h.startMotion

theorem State.Follows.prelimCalibrate (h : r.Follows s) : r.Follows s.prelimCalibrate := by
  unfold State.prelimCalibrate
  split
  · exact h.startMotion
  · exact h.prelimResync

theorem State.Follows.attempt (h : r.Follows s) : r.Follows s.attempt := by
  unfold State.attempt
  split
  · exact h.startMotion
  · exact .prelimCalibrate h
  · exact h.prelimCalibrate

theorem State.Follows.takeLabel (h : r.Follows s) : r.Follows s.takeLabel := by
  unfold State.takeLabel
  dsimp only
  repeat' split
  · exact h.startMotion
  · exact .prelimCalibrate h
  · exact .rest h
  · exact h

theorem State.Follows.restPresented (h : r.Follows s) : r.Follows s.restPresented := by
  unfold State.restPresented
  dsimp only
  split
  · exact h.rest.takeLabel
  · exact h.rest

theorem State.Follows.beginOrRest (h : r.Follows s) : r.Follows s.beginOrRest := by
  unfold State.beginOrRest
  repeat' split
  · exact h.enterPause
  · exact h.attempt
  · exact h.restPresented

theorem State.Follows.tryStart (h : r.Follows s) : r.Follows s.tryStart := by
  unfold State.tryStart
  split
  · exact h.attempt
  · exact h

theorem State.Follows.present {distance : Nat} {under : Presentation} (h : r.Follows s) :
    r.Follows (s.present distance under) := by
  unfold State.present
  split
  · exact .beginOrRest h
  · exact .startMotion h

theorem State.Follows.afterCompletion {distance : Nat} (h : r.Follows s) :
    r.Follows (s.afterCompletion distance) := by
  unfold State.afterCompletion
  repeat' split
  · exact h.present
  · exact h.present
  · exact h.beginOrRest
  · exact h.beginOrRest

theorem State.Follows.completeLabel (h : r.Follows s) : r.Follows s.completeLabel := by
  unfold State.completeLabel
  split
  · exact .afterCompletion (.completeTicket h)
  · exact h

/-! ### Faults and their exits (R162, R168 to R170) -/

theorem State.Follows.dropPrinting (h : r.Follows s) : r.Follows s.dropPrinting := by
  unfold State.dropPrinting
  dsimp only
  repeat' split
  · exact .voidTicket h
  · exact h.of_tags rfl (List.length_map _)
  · exact h

theorem State.Follows.addCause {causes : Causes} (h : r.Follows s) :
    r.Follows (s.addCause causes) := by
  unfold State.addCause
  dsimp only
  split
  · exact .dropPrinting (h.cutLine.transit)
  · exact .freeCut (h.cutLine.transit)

theorem State.Follows.loseMedia (h : r.Follows s) : r.Follows s.loseMedia :=
  .addCause (State.Follows.setCount (fun _ => le_rfl) h)

theorem State.Follows.resumePrinting (h : r.Follows s) : r.Follows s.resumePrinting := by
  unfold State.resumePrinting
  dsimp only
  split
  · exact .lineStart (.placeEngine (h.transit))
  · exact h.transit

theorem State.Follows.faultPath (h : r.Follows s) : r.Follows s.faultPath := by
  unfold State.faultPath
  repeat' split
  · exact h.resumePrinting
  · exact h.transit
  · exact h.startMotion
  · exact h.startMotion
  · exact h.startResync
  · exact h.beginOrRest

theorem State.Follows.clearCause {f : Causes → Causes} (h : r.Follows s) :
    r.Follows (s.clearCause f) := by
  unfold State.clearCause
  dsimp only
  repeat' split
  · exact h
  · exact h.faultPath
  · exact h.transit

theorem State.Follows.clearHold {f : Holds → Holds} (h : r.Follows s) :
    r.Follows (s.clearHold f) := by
  unfold State.clearHold
  repeat' split
  · exact h
  · exact h.resumePrinting
  all_goals exact h

/-! ### Motor steps (R161 to R167) -/

theorem State.Follows.endMotion {m : Motion} (h : r.Follows s) : r.Follows (s.endMotion m) := by
  unfold State.endMotion
  dsimp only
  repeat' split
  · exact .prelimCalibrate h
  · exact .settleStart h
  · exact .beginOrRest h

theorem State.Follows.arriveLabel (h : r.Follows s) : r.Follows s.arriveLabel := by
  unfold State.arriveLabel
  extract_lets length period tail
  have onTail : r.Follows (tail s) := by
    dsimp only [tail]
    split
    · exact h
    · exact h.completeLabel
  split
  · split
    · exact .lineStart h
    · exact onTail
  · exact onTail
  · exact h

theorem State.Follows.arrive (h : r.Follows s) : r.Follows s.arrive := by
  unfold State.arrive
  split
  · exact h
  · extract_lets more top
    have onTop : r.Follows top := by
      dsimp only [top]
      split
      · exact h.endMotion
      · exact h
    split
    · exact h.arriveLabel
    · exact onTop
    · exact onTop
    · exact onTop
    · exact onTop
    · split
      · exact h.endMotion
      · exact h
    · split
      · exact .endMotion h
      · exact h
    · split
      · exact .endMotion h
      · exact h
    · exact h

theorem State.Follows.checkMediaOut (h : r.Follows s) : r.Follows s.checkMediaOut := by
  unfold State.checkMediaOut
  split
  · exact h
  · exact h.arrive

theorem State.Follows.checkLimit (h : r.Follows s) : r.Follows s.checkLimit := by
  unfold State.checkLimit
  repeat' split
  · exact h
  · exact h.checkMediaOut
  · exact h.arrive
  · exact h.checkMediaOut

theorem State.Follows.raiseCount (h : r.Follows s) : r.Follows s.raiseCount := by
  unfold State.raiseCount
  dsimp only
  split
  · exact h.loseMedia
  · exact h.setCount fun _ => min_le_left _ _

theorem State.Follows.goodGap (h : r.Follows s) : r.Follows s.goodGap := by
  have lower : r.Follows (s.setCount (s.media.count - 1)) := h.setCount (Nat.sub_le _ _).trans
  have recovered : r.Follows (s.setCount 0) := h.setCount fun _ => Nat.zero_le _
  unfold State.goodGap
  dsimp only
  repeat' split
  · exact recovered
  · exact h
  · exact lower

theorem State.Follows.earlyGap (h : r.Follows s) : r.Follows s.earlyGap := by
  unfold State.earlyGap
  split
  · exact h
  · exact .raiseCount h

theorem State.Follows.missGap (h : r.Follows s) : r.Follows s.missGap := by
  unfold State.missGap
  split
  · exact h
  · exact .raiseCount h

theorem State.Follows.endCalibration {pitch gap : Nat} {forRecovery : Bool} (h : r.Follows s) :
    r.Follows (s.endCalibration pitch gap forRecovery) := by
  unfold State.endCalibration
  split
  · have written : r.Follows { s with
        battery := Battery.checked
          { s.battery with settings := { s.battery.settings with pitch := pitch, gapLength := gap } } } :=
      h.of_battery (.checked (.refl _))
    exact .printableChanged (State.Follows.setCount (fun _ => Nat.zero_le _) written)
  · exact h.loseMedia

theorem State.Follows.judgeEdge {missed : Bool} (h : r.Follows s) :
    r.Follows (s.judgeEdge missed) := by
  unfold State.judgeEdge
  dsimp only
  split
  · exact h.goodGap
  · exact h.earlyGap

theorem State.Follows.takeEdge {missed fresh edge fell : Bool} (h : r.Follows s) :
    r.Follows (s.takeEdge missed fresh edge fell) := by
  unfold State.takeEdge
  split
  · exact h
  · split
    · split <;> exact h
    · split <;> exact h
    · split <;> exact h
    · split <;> exact h
    · split
      · exact h.endCalibration
      · exact h
    · split
      · exact h.judgeEdge
      · exact h

theorem State.Follows.afterMiss {missed fresh edge fell : Bool} (h : r.Follows s) :
    r.Follows (s.afterMiss missed fresh edge fell) := h.takeEdge.checkLimit

theorem State.Follows.stepMotor {gap : Bool} (h : r.Follows s) : r.Follows (s.stepMotor gap) := by
  unfold State.stepMotor
  dsimp only
  split
  · split
    · exact h
    · exact .afterMiss h
  · exact h

theorem State.Follows.takeMiss (h : r.Follows s) : r.Follows s.takeMiss := by
  unfold State.takeMiss
  split
  · exact .afterMiss (.missGap h)
  · exact h

theorem State.Follows.takeResyncLimit (h : r.Follows s) : r.Follows s.takeResyncLimit := by
  unfold State.takeResyncLimit
  split
  · exact .checkMediaOut (.loseMedia h)
  · exact h

theorem State.Follows.takeRecoveryLimit (h : r.Follows s) : r.Follows s.takeRecoveryLimit := by
  unfold State.takeRecoveryLimit
  split
  · exact .checkMediaOut (.loseMedia h)
  · exact h

theorem State.Follows.takeCalibrationLimit (h : r.Follows s) : r.Follows s.takeCalibrationLimit := by
  unfold State.takeCalibrationLimit
  split
  · exact .checkMediaOut (.loseMedia h)
  · exact h

theorem State.Follows.takeMediaOut (h : r.Follows s) : r.Follows s.takeMediaOut := by
  unfold State.takeMediaOut
  split
  · exact .addCause h
  · exact h

end Sys2Proof.Machine
end

section
/-! SUPPORT. The store scan, what falls due before a command, and the rule of each request and event keep what is kept;
a JOB_SUBMIT's place in the queue stands from its acceptance to its binding (R95, R96). -/

set_option Elab.async false

namespace Sys2Proof.Machine

variable {r s : State}

/-! ### Reset, the store scan and start-up (chapter 10) -/

theorem State.Follows.beginEngineStep {damaged duplicates : Nat} (h : r.Follows s) :
    r.Follows (s.beginEngineStep damaged duplicates) := by
  unfold State.beginEngineStep
  dsimp only
  split
  · refine .addCause ?_
    split <;> exact h
  · split
    · exact .startResync h
    · exact h

theorem State.Follows.checkEngineStep (h : r.Follows s) : r.Follows s.checkEngineStep := by
  unfold State.checkEngineStep
  repeat' split
  all_goals exact h

theorem State.Follows.verifyFrom {sector : Nat} {c : Scan} (h : r.Follows s) :
    r.Follows (s.verifyFrom sector c) := by
  unfold State.verifyFrom
  split
  · exact h
  · exact .beginEngineStep h

theorem State.Follows.staleNext {losers : List Extent} {c : Scan} (h : r.Follows s) :
    r.Follows (s.staleNext losers c) := by
  unfold State.staleNext
  split
  · exact h
  · exact h.verifyFrom

theorem State.Follows.walkTo {sector : Nat} {c : Scan} (h : r.Follows s) :
    r.Follows (s.walkTo sector c) := by
  unfold State.walkTo
  split
  · exact h
  · exact h.staleNext

theorem State.Follows.classLive {e : Extent} {c : Scan} (h : r.Follows s) :
    r.Follows (s.classLive e c) := by
  unfold State.classLive
  split <;> exact h.walkTo

theorem State.Follows.readBody {e : Extent} {left : List Nat} {c : Scan} (h : r.Follows s) :
    r.Follows (s.readBody e left c) := by
  unfold State.readBody
  split
  · exact h
  · exact h.classLive

theorem State.Follows.judgeHeader {sector : Nat} {c : Scan} (h : r.Follows s) :
    r.Follows (s.judgeHeader sector c) := by
  unfold State.judgeHeader
  dsimp only
  split
  · exact h.readBody
  · exact h.walkTo

theorem State.Follows.scanRead {c : Scan} (h : r.Follows s) : r.Follows (s.scanRead c) := by
  unfold State.scanRead
  split
  · exact h.judgeHeader
  · exact h.readBody
  · exact h
  · exact h.verifyFrom
  · exact h

theorem State.Follows.scanProgram {failed : Bool} {c : Scan} (h : r.Follows s) :
    r.Follows (s.scanProgram failed c) := by
  unfold State.scanProgram
  split
  · exact h.staleNext
  · exact h

theorem State.Follows.placeReady (h : r.Follows s) : r.Follows s.placeReady := by
  unfold State.placeReady
  split
  · exact .place (h.of_battery (.checked (.refl _)))
  · exact h

/-! ### What falls due before a command -/

theorem State.Follows.takeSupplyCleared (h : r.Follows s) : r.Follows s.takeSupplyCleared := by
  unfold State.takeSupplyCleared
  split
  · exact .clearHold h
  · exact h

theorem State.Follows.placeJobEnd (h : r.Follows s) : r.Follows s.placeJobEnd := by
  unfold State.placeJobEnd
  repeat' split
  · exact h.place.departJob
  all_goals exact h

theorem State.Follows.placeJobEnds {n : Nat} (h : r.Follows s) : r.Follows (placeJobEnds n s) := by
  induction n generalizing s with
  | zero => exact h
  | succ n ih => exact ih h.placeJobEnd

theorem State.Follows.placeNotices (h : r.Follows s) : r.Follows s.placeNotices :=
  h.placeJobEnds.placeEngine

theorem State.Follows.answerMark (h : r.Follows s) : r.Follows s.answerMark := by
  unfold State.answerMark
  split
  · exact h.takeHead.reply
  · exact h

theorem State.Follows.grantHead (h : r.Follows s) : r.Follows s.grantHead := by
  unfold State.grantHead
  split
  · exact h.takeHead
  · exact h.answerMark
  · exact h

theorem State.Follows.grantHeads {n : Nat} (h : r.Follows s) : r.Follows (grantHeads n s) := by
  induction n generalizing s with
  | zero => exact h
  | succ n ih => exact ih h.grantHead

theorem State.Follows.grantRoom (h : r.Follows s) : r.Follows s.grantRoom :=
  h.placeNotices.grantHeads

theorem State.Follows.settle (h : r.Follows s) : r.Follows s.settle := by
  unfold State.settle
  simp only [dueEvents, List.foldl_cons, List.foldl_nil]
  exact h.grantRoom
    |>.takeMiss.grantRoom
    |>.takeResyncLimit.grantRoom
    |>.takeRecoveryLimit.grantRoom
    |>.takeCalibrationLimit.grantRoom
    |>.takeMediaOut.grantRoom
    |>.takeSupplyCleared.grantRoom
    |>.checkEngineStep.grantRoom
    |>.placeReady.grantRoom
    |>.takeGeometry.grantRoom

theorem State.Follows.after {f : State → State} (h : r.Follows s)
    (hf : ∀ {x : State}, r.Follows x → r.Follows (f x)) : r.Follows (s.after f) :=
  (hf h.settle).checkEngineStep

/-! ### Uploads, commits, retirements and wipes (chapter 3) -/

theorem State.Follows.failUpload {reason : Reason} {detail : Nat} (h : r.Follows s) :
    r.Follows (s.failUpload reason detail) := .refuse h

theorem State.Follows.runRecordBegin {body : List Byte} (h : r.Follows s) :
    r.Follows (s.runRecordBegin body) := by
  unfold State.runRecordBegin
  split
  · exact h.refuse
  · exact .decoderIssue h nofun

theorem State.Follows.headerEnd {failed : Bool} (h : r.Follows s) :
    r.Follows (s.headerEnd failed) := by
  unfold State.headerEnd
  repeat' split
  · exact h.failUpload
  · exact h.ok
  · exact h.refuse

theorem State.Follows.runRecordData {body : List Byte} (h : r.Follows s) :
    r.Follows (s.runRecordData body) := by
  unfold State.runRecordData
  dsimp only
  repeat' split
  · exact h.refuse
  · exact h.refuse
  · exact h.refuse
  · exact h.refuse
  · exact h.decoderIssue nofun
  · exact h

theorem State.Follows.dataEnd {failed : Bool} {len : Nat} {left : List (Nat × List Byte)}
    (h : r.Follows s) : r.Follows (s.dataEnd failed len left) := by
  unfold State.dataEnd
  repeat' split
  · exact h.failUpload
  · exact h.decoderIssue nofun
  · exact .ok h
  · exact h.refuse

theorem State.Follows.runRecordEnd {body : List Byte} (h : r.Follows s) :
    r.Follows (s.runRecordEnd body) := by
  unfold State.runRecordEnd
  dsimp only
  repeat' split
  · exact h.refuse
  · exact h.refuse
  · exact h.decoderIssue nofun
  · exact h

theorem State.Follows.readForValidation {check : Nat} {pages : List Nat} {pass : Pass} {u : Upload}
    (h : r.Follows s) : r.Follows (s.readForValidation check pages pass u) := by
  unfold State.readForValidation
  split
  · exact h.decoderIssue nofun
  · exact h.failUpload

theorem State.Follows.bodyCheckEnd {check : Nat} {left : List Nat} (h : r.Follows s) :
    r.Follows (s.bodyCheckEnd check left) := by
  unfold State.bodyCheckEnd
  dsimp only
  repeat' split
  · exact h.decoderIssue nofun
  · exact h.readForValidation
  · exact h.failUpload
  · exact h.refuse

theorem State.Follows.validateEnd {check : Nat} {left : List Nat} {read : Nat} {pass : Pass}
    (h : r.Follows s) : r.Follows (s.validateEnd check left read pass) := by
  unfold State.validateEnd
  repeat' split
  · exact h.readForValidation
  · exact h.readForValidation
  · exact h.failUpload
  · exact h.decoderIssue nofun
  · exact h.refuse

theorem State.Follows.finishCommit {previous : Option RecRef} {staleFailed : Bool} (h : r.Follows s) :
    r.Follows (s.finishCommit previous staleFailed) := by
  unfold State.finishCommit
  split
  · exact .ok h
  · exact h.refuse

theorem State.Follows.issueStale {ref : RecRef} {work : Work} (h : r.Follows s)
    (hw : itemsSubmitted work = none) :
    r.Follows (s.issueStale ref work) := by
  unfold State.issueStale
  split
  · exact h.decoderIssue fun _ hi => nomatch hw.symm.trans hi
  · exact h

theorem State.Follows.commitEnd {failed : Bool} {previous : Option RecRef} (h : r.Follows s) :
    r.Follows (s.commitEnd failed previous) := by
  unfold State.commitEnd
  repeat' split
  · exact h.failUpload
  · exact h.issueStale rfl
  · exact h.finishCommit

theorem State.Follows.noteStale {failed : Bool} {ref : RecRef} (h : r.Follows s) :
    r.Follows (s.noteStale failed ref) := by
  unfold State.noteStale
  split <;> exact h

theorem State.Follows.staleOldEnd {failed : Bool} {ref : RecRef} (h : r.Follows s) :
    r.Follows (s.staleOldEnd failed ref) := h.noteStale.finishCommit

theorem State.Follows.runRecordAbandon (h : r.Follows s) : r.Follows s.runRecordAbandon := by
  unfold State.runRecordAbandon
  split
  · exact h.refuse
  · exact .ok h

theorem State.Follows.runRecordRetire {body : List Byte} (h : r.Follows s) :
    r.Follows (s.runRecordRetire body) := by
  unfold State.runRecordRetire
  repeat' split
  · exact h.refuse
  · exact h.refuse
  · exact h.refuse
  · exact h.issueStale rfl

theorem State.Follows.retireEnd {failed : Bool} {ref : RecRef} (h : r.Follows s) :
    r.Follows (s.retireEnd failed ref) := by
  unfold State.retireEnd
  split
  · split
    · exact h.refuse
    · exact .ok h
  · exact h.refuse

theorem State.Follows.wipeNext {left : List RecRef} {failed : Nat} (h : r.Follows s) :
    r.Follows (s.wipeNext left failed) := by
  unfold State.wipeNext
  split
  · exact h.issueStale rfl
  · exact .ok h

theorem State.Follows.runStoreWipe {service : Bool} (h : r.Follows s) :
    r.Follows (s.runStoreWipe service) := by
  unfold State.runStoreWipe
  repeat' split
  · exact h.refuse
  · exact h.refuse
  · exact h.refuse
  · exact h.wipeNext

theorem State.Follows.decoderProgram {failed : Bool} (h : r.Follows s) :
    r.Follows (s.decoderProgram failed) := by
  unfold State.decoderProgram
  split
  · exact h.headerEnd
  · exact h.dataEnd
  · exact h.commitEnd
  · exact h.staleOldEnd
  · exact h.retireEnd
  · exact h.noteStale.wipeNext
  · exact h

/-! ### JOB_SUBMIT (section 5.2) -/

theorem State.reply_ledger (kind : Byte) (body : List Byte) (s : State) :
    (s.reply kind body).ledger = { s.ledger with submitted := none } := by
  unfold State.reply State.wakeDecoder State.place State.beginSending
  dsimp only
  repeat' split
  all_goals rfl

theorem insertJob_tags (j : Job) (q : JobQueue) :
    ({ q with jobs := insertJob j q.jobs }.tags).Perm (j.items.tag :: q.tags) := (insertJob_perm j q.jobs).map _

/-- A job that has a place is bound: it joins the queue, and the submission ends with the reply (R100). -/
theorem State.Follows.bindJob {items : JobItems} (h : r.Follows s) (hp : r.HasPlace s items) :
    r.Follows (s.bindJob items) := by
  unfold State.bindJob
  dsimp only
  split
  · exact h.refuse
  · split
    · exact h.refuse
    · rename_i refs store _ _ _
      generalize hs1 : State.mk _ _ _ _ _ _ _ _ _ _ _ _ _ _ _ _ = s1
      have bound := h.withCounters (.bindCounters (s.liveFormat items).counterSet s.battery.counters)
      have joined : s1.queue.tags.Perm (items.tag :: s.queue.tags) := by
        rw [← hs1]
        exact insertJob_tags _ s.queue
      obtain ⟨htags, htickets⟩ := s1.boundary_queue
      have free : r.Follows { s1 with queue := s.queue, dec := s.dec } := bound.of_ledger (by rw [← hs1]; rfl)
      have after := (State.Follows.refl s1).boundary
      unfold State.Follows State.ok
      rw [State.reply_ledger]
      refine ⟨⟨free.battery.trans after.battery, after.count ∘ free.count, fun hr => ?_⟩, free.sticky.trans after.sticky⟩
      have hs := h.queue hr
      obtain ⟨hlen, hnew⟩ := hp hr
      obtain ⟨-, hfew, hnodup, -⟩ := hs
      have hperm : s1.boundary.queue.tags.Perm (items.tag :: s.queue.tags) := htags ▸ joined
      refine ⟨?_, htickets ?_, hperm.nodup_iff.mpr (List.nodup_cons.mpr ⟨hnew, hnodup⟩), nofun⟩
      · exact hperm.length_eq.le.trans hlen
      · rw [← hs1]
        exact hfew

theorem State.Follows.submitFields {items : JobItems} {fields : List Field} {i : Nat} (h : r.Follows s)
    (hp : r.HasPlace s items) : r.Follows (s.submitFields items fields i) := by
  induction fields generalizing i with
  | nil => exact h.bindJob hp
  | cons f fs ih =>
    unfold State.submitFields
    split
    · split
      · exact h.refuse
      · exact ih
    · split
      · exact ih
      · exact h.refuse
    · split
      · exact h.refuse
      · split
        · exact h.refuse
        · split
          · exact h.askGeometry hp
          · split
            · exact h.refuse
            · exact ih
    · exact ih

theorem State.Follows.geometryDone {items : JobItems} {field : Nat} (h : r.Follows s) (hp : r.HasPlace s items) :
    r.Follows (s.geometryDone items field) := by
  unfold State.geometryDone
  repeat' split
  · exact h.refuse
  · exact h.submitFields hp
  · exact h.bindJob hp

theorem State.Follows.submitFormatEnd {items : JobItems} {left : List Nat} (h : r.Follows s)
    (hp : r.HasPlace s items) : r.Follows (s.submitFormatEnd items left) := by
  unfold State.submitFormatEnd
  split
  · exact h.decoderIssue fun _ hi => Option.some.inj hi ▸ hp
  · exact h.submitFields hp

/-- The end of a table's reads leaves the Decoder waiting for nothing; the job keeps the place it had. -/
theorem State.Follows.submitTableEnd {items : JobItems} {field : Nat} {left : List Nat}
    (h : r.Follows s) (hp : r.HasPlace s items) : r.Follows (s.submitTableEnd items field left) := by
  unfold State.submitTableEnd
  split
  · exact h.readTable hp
  · exact .renderNext (.geometryDone (h.await nofun) hp)

theorem State.Follows.runJobSubmit {body : List Byte} (h : r.Follows s) :
    r.Follows (s.runJobSubmit body) := by
  unfold State.runJobSubmit
  split
  · exact h.refuse
  · rename_i items _
    split
    · exact h.refuse
    · split
      · exact h.refuse
      · rename_i hlen hnone
        have hp : r.HasPlace s items := by
          refine fun _ => ⟨by simpa [JobQueue.tags] using hlen, ?_⟩
          simpa [JobQueue.tags, JobQueue.job] using hnone
        split
        · exact h.refuse
        · split
          · exact h.decoderIssue fun _ hi => Option.some.inj hi ▸ hp
          · exact h.submitFields hp

theorem State.Follows.decoderRead (h : r.Follows s) : r.Follows s.decoderRead := by
  unfold State.decoderRead
  split
  · exact h.bodyCheckEnd
  · exact h.validateEnd
  · rename_i hwork
    exact h.submitFormatEnd (h.hasPlace (by rw [hwork]; rfl))
  · rename_i hwork
    exact h.submitTableEnd (h.hasPlace (by rw [hwork]; rfl))
  · exact h

/-! ### The flash array and the erase service (section 1.9) -/

theorem State.Follows.afterProgram {client : Client} {failed : Bool} (h : r.Follows s) :
    r.Follows (s.afterProgram client failed) := by
  unfold State.afterProgram
  split
  · refine .decoderProgram ?_
    split
    · exact h.setStoreFault
    · exact h
  · split
    · exact h.scanProgram
    · exact h
  · exact h

theorem State.Follows.afterRead {client : Client} (h : r.Follows s) :
    r.Follows (s.afterRead client) := by
  unfold State.afterRead
  repeat' split
  · exact h.decoderRead
  · exact .readHand h
  · exact h.scanRead
  · exact h
  · exact h

theorem State.Follows.endProgram {client : Client} {addr : Nat} {data : List Byte} {left : Option (List Byte)}
    (h : r.Follows s) : r.Follows (s.endProgram client addr data left) := .afterProgram h

theorem State.Follows.failProgram {client : Client} {addr : Nat} {data : List Byte} (h : r.Follows s) :
    r.Follows (s.failProgram client addr data) := .afterProgram h

theorem State.Follows.startErase (h : r.Follows s) : r.Follows s.startErase := by
  unfold State.startErase
  repeat' split
  all_goals exact h

theorem State.Follows.takeEffect (h : r.Follows s) : r.Follows s.takeEffect := by
  unfold State.takeEffect
  split <;> exact h

theorem State.Follows.endWindow (h : r.Follows s) : r.Follows s.endWindow := by
  unfold State.endWindow
  split <;> exact h

theorem State.Follows.giveUp {n : Nat} (h : r.Follows s) : r.Follows (s.giveUp n) :=
  h.setStoreFault.of_ledger (by simp [State.ledger, State.giveUp])

theorem State.Follows.completeErase {residue : List (Nat × Byte)} (h : r.Follows s) :
    r.Follows (s.completeErase residue) := by
  unfold State.completeErase
  dsimp only
  repeat' split
  · exact h
  · exact h.giveUp
  all_goals exact h

theorem State.Follows.reachGiveUp (h : r.Follows s) : r.Follows s.reachGiveUp := by
  unfold State.reachGiveUp
  split
  · exact State.Follows.giveUp h
  · exact h

theorem State.Follows.timeOutUpload (h : r.Follows s) : r.Follows s.timeOutUpload := by
  unfold State.timeOutUpload
  repeat' split
  all_goals exact h

/-! ### Requests that only report (R24 to R26, R89, R119) -/

theorem State.Follows.runRecordQuery {body : List Byte} (h : r.Follows s) :
    r.Follows (s.runRecordQuery body) := by
  unfold State.runRecordQuery
  dsimp only
  repeat' split
  · exact h.refuse
  · exact h.refuse
  · exact h.ok

theorem State.Follows.runDirectoryList {body : List Byte} (h : r.Follows s) :
    r.Follows (s.runDirectoryList body) := by
  unfold State.runDirectoryList
  split
  · exact h.refuse
  · exact h.ok

theorem State.Follows.runCounterRead {body : List Byte} (h : r.Follows s) :
    r.Follows (s.runCounterRead body) := by
  unfold State.runCounterRead
  split
  · exact h.refuse
  · exact h.ok

theorem State.Follows.runJobQuery {body : List Byte} (h : r.Follows s) :
    r.Follows (s.runJobQuery body) := by
  unfold State.runJobQuery
  dsimp only
  split
  · exact h.refuse
  · exact h.ok

/-! ### Counter requests (section 4.6) -/

theorem State.Follows.reportIfAble {id : Nat} {before : Counter} (h : r.Follows s) :
    r.Follows (s.reportIfAble id before) := by
  unfold State.reportIfAble
  split
  · exact h.reportAble
  · exact h

theorem State.Follows.putCounter {id : Nat} {c : Counter} (h : r.Follows s)
    (hc : (s.battery.counter id).Follows c) : r.Follows (s.putCounter id c) := h.withCounters (.setCounter hc)

theorem counterDefOf_valid {body : List Byte} {d : CounterDef} (h : counterDefOf body = some d) : d.valid = true := by
  simp only [counterDefOf, Option.ite_none_right_eq_some, Bool.and_eq_true, Option.some.injEq] at h
  obtain ⟨⟨-, hv⟩, rfl⟩ := h
  exact hv

theorem CounterDef.valid_start {d : CounterDef} (h : d.valid = true) : d.low ≤ d.start ∧ d.start ≤ d.high := by
  simp only [CounterDef.valid, Bool.and_eq_true, decide_eq_true_eq] at h
  obtain ⟨⟨-, hstart⟩, -⟩ := h
  exact hstart

/-- A counter without outstanding values under a valid definition: its one value is the start value (R85). -/
theorem Counter.follows_define {c : Counter} {d : CounterDef} (hd : d.valid = true) (ho : c.outstanding = []) :
    c.Follows (c.define d) := by
  have hs := CounterDef.valid_start hd
  exact ⟨fun _ => ⟨hs, hs, by simp [Counter.define], by simp [Counter.define, ho]⟩,
    fun _ => ⟨by simp [Counter.define], by simp [Counter.define]⟩⟩

theorem Counter.follows_set {c : Counter} {v : Nat} (hv : c.defn.low ≤ v ∧ v ≤ c.defn.high) :
    c.Follows { c with current := v, state := .active } := ⟨fun ⟨_, hrest⟩ => ⟨hv, hrest⟩, id⟩

theorem Counter.follows_undefine (c : Counter) : c.Follows Counter.undefinedRecord :=
  ⟨fun _ => Counter.undefinedRecord_inBounds, fun _ => Counter.undefinedRecord_distinct⟩

theorem Counter.follows_clearReturns (c : Counter) : c.Follows { c with returns := [] } :=
  ⟨fun ⟨h1, h2, _, h4⟩ => ⟨h1, h2, by simp, h4⟩, fun _ => ⟨by simp, by simp⟩⟩

theorem State.Follows.runCounterDefine {body : List Byte} (h : r.Follows s) :
    r.Follows (s.runCounterDefine body) := by
  unfold State.runCounterDefine
  dsimp only
  split
  · rename_i hdef
    split
    · exact h.refuse
    · rename_i hout
      split
      · exact h.refuse
      · exact .ok (.reportIfAble (h.putCounter (Counter.follows_define (counterDefOf_valid hdef) (not_not.mp hout))))
  · exact h.refuse

theorem State.Follows.runCounterSet {body : List Byte} (h : r.Follows s) :
    r.Follows (s.runCounterSet body) := by
  unfold State.runCounterSet
  dsimp only
  repeat' split
  · exact h.refuse
  · exact h.refuse
  · exact h.refuse
  · exact h.refuse
  · rename_i hrange
    rw [not_or, not_lt, not_lt] at hrange
    exact .ok (.reportIfAble (h.putCounter (Counter.follows_set hrange)))

theorem State.Follows.runCounterUndefine {body : List Byte} (h : r.Follows s) :
    r.Follows (s.runCounterUndefine body) := by
  unfold State.runCounterUndefine
  dsimp only
  repeat' split
  · exact h.refuse
  · exact h.refuse
  · exact h.refuse
  · exact .ok (h.putCounter (Counter.follows_undefine _))

theorem State.Follows.runCounterClearReturns {body : List Byte} (h : r.Follows s) :
    r.Follows (s.runCounterClearReturns body) := by
  unfold State.runCounterClearReturns
  dsimp only
  repeat' split
  · exact h.refuse
  · exact h.refuse
  · exact .ok (h.putCounter (Counter.follows_clearReturns _))

theorem State.Follows.setLatch (h : r.Follows s) : r.Follows s.setLatch := by
  unfold State.setLatch
  split
  · exact h.of_battery ⟨id, .refl _⟩
  · exact h

/-! ### Job requests (sections 5.3, 5.8 and 5.10) -/

theorem State.Follows.cancelTags {tags : List Nat} (h : r.Follows s) :
    r.Follows (cancelTags tags s).1 := by
  induction tags generalizing s with
  | nil => exact h
  | cons tag tags ih => exact ih h.cancelJob

theorem State.Follows.runJobCancel {body : List Byte} (h : r.Follows s) :
    r.Follows (s.runJobCancel body) := by
  unfold State.runJobCancel
  dsimp only
  repeat' split
  · exact .ok h.cancelTags.afterCancel
  · exact h.refuse
  · exact h.refuse
  · exact .ok h.cancelJob.afterCancel
  · exact h.refuse

theorem State.Follows.runJobHold {body : List Byte} (h : r.Follows s) :
    r.Follows (s.runJobHold body) := by
  unfold State.runJobHold
  dsimp only
  split
  · exact h.refuse
  · exact .ok (h.of_tags (JobQueue.tags_updateJob fun _ => rfl))

theorem State.Follows.runJobRelease {body : List Byte} (h : r.Follows s) :
    r.Follows (s.runJobRelease body) := by
  unfold State.runJobRelease
  dsimp only
  split
  · exact h.refuse
  · refine .ok ?_
    split
    · exact .boundary (h.of_tags (JobQueue.tags_updateJob fun _ => rfl))
    · exact h.of_tags (JobQueue.tags_updateJob fun _ => rfl)

theorem State.Follows.runReprint (h : r.Follows s) : r.Follows s.runReprint := by
  unfold State.runReprint
  repeat' split
  · exact h.refuse
  · exact h.refuse
  · exact .ok (.boundary h)

theorem State.Follows.clearLast (h : r.Follows s) : r.Follows s.clearLast := by
  unfold State.clearLast
  split <;> exact h

theorem State.Follows.runReprintClear (h : r.Follows s) : r.Follows s.runReprintClear := by
  unfold State.runReprintClear
  split
  · exact h.refuse
  · exact .ok (.clearLast h)

/-! ### Rendering and burning (chapters 6 and 7) -/

theorem State.Follows.bandReport {t : Ticket} {band : Nat} (h : r.Follows s) :
    r.Follows (s.bandReport t band) := by
  unfold State.bandReport
  repeat' split
  · exact h.clearHold
  · exact h
  · exact h

theorem State.Follows.finishBand (h : r.Follows s) : r.Follows s.finishBand := by
  unfold State.finishBand
  split
  · split
    · split
      · exact h
      · extract_lets buffer after s1 s2 s3
        have reported : r.Follows s2 := .bandReport (s := s1) (h.of_tags rfl (List.length_map _))
        have attempted : r.Follows s3 := by
          dsimp only [s3]
          split
          · exact reported.tryStart
          · exact reported
        refine .renderNext ?_
        split
        · exact attempted.boundary
        · exact attempted
    · exact h
  · exact h

theorem State.Follows.judgeSensor {theta : Int} (h : r.Follows s) :
    r.Follows (s.judgeSensor theta) := by
  unfold State.judgeSensor
  dsimp only
  repeat' split
  · exact .addCause h
  · exact h
  · exact .clearCause h
  · exact h

theorem State.Follows.judgeHeat {theta : Int} (h : r.Follows s) : r.Follows (s.judgeHeat theta) := by
  unfold State.judgeHeat
  split
  · exact h.clearHold
  · exact h

theorem State.Follows.countSupply {supply : Nat} (h : r.Follows s) :
    r.Follows (s.countSupply supply) := by
  unfold State.countSupply
  split <;> exact h

theorem State.Follows.sampleHead {theta : Int} {supply : Nat} (h : r.Follows s) :
    r.Follows (s.sampleHead theta supply) := by
  unfold State.sampleHead
  split
  · exact .countSupply (.judgeHeat (.judgeSensor h))
  · exact h

theorem State.Follows.endLoading (h : r.Follows s) : r.Follows s.endLoading := by
  unfold State.endLoading
  split
  · split
    · exact .freeBand h
    · exact h
  · exact h

theorem State.Follows.endPhase (h : r.Follows s) : r.Follows s.endPhase := by
  unfold State.endPhase
  repeat' split
  all_goals exact h

theorem State.Follows.endLine (h : r.Follows s) : r.Follows s.endLine := by
  unfold State.endLine
  dsimp only
  split
  · split <;> exact h
  · exact h

/-! ### Media commands (chapter 8) -/

theorem State.Follows.tryStep {gap : Bool} (h : r.Follows s) : r.Follows (s.tryStep gap) := by
  unfold State.tryStep
  split
  · exact h.stepMotor
  · exact h

theorem State.Follows.seeHead {isOpen : Bool} (h : r.Follows s) : r.Follows (s.seeHead isOpen) := by
  unfold State.seeHead
  dsimp only
  repeat' split
  · exact h
  · exact .addCause h
  · exact .clearCause h

theorem State.Follows.seeMedia {gap : Bool} (h : r.Follows s) : r.Follows (s.seeMedia gap) := by
  unfold State.seeMedia
  dsimp only
  split
  · exact h
  · exact .clearCause h

theorem State.Follows.seeTaken {noLabel : Bool} (h : r.Follows s) :
    r.Follows (s.seeTaken noLabel) := by
  unfold State.seeTaken
  dsimp only
  split
  · exact .takeLabel h
  · exact h

theorem State.Follows.takePause (h : r.Follows s) : r.Follows s.takePause := by
  unfold State.takePause
  repeat' split
  · exact h
  · exact h.enterPause
  · exact h

theorem State.Follows.takeResume (h : r.Follows s) : r.Follows s.takeResume := by
  unfold State.takeResume
  repeat' split
  · exact h.rest.beginOrRest
  · exact h.faultPath
  · exact h

theorem State.Follows.runResume (h : r.Follows s) : r.Follows s.runResume := by
  unfold State.runResume
  split
  · exact h.refuse
  · exact h.takeResume.ok

theorem State.Follows.runFeed (h : r.Follows s) : r.Follows s.runFeed := by
  unfold State.runFeed
  repeat' split
  · exact h.refuse
  all_goals exact h.startMotion.ok

theorem State.Follows.runCalibrate (h : r.Follows s) : r.Follows s.runCalibrate := by
  unfold State.runCalibrate
  repeat' split
  · exact h.refuse
  · exact h.ok
  · exact h.startMotion.ok

theorem State.Follows.powerDown (h : r.Follows s) : r.Follows s.powerDown := .transit h

theorem State.Follows.compareIdle (h : r.Follows s) : r.Follows s.compareIdle := by
  unfold State.compareIdle
  split
  · exact h.powerDown
  · exact h

theorem State.Follows.writeSettings {st : Settings} (h : r.Follows s) : r.Follows (s.writeSettings st) :=
  h.of_battery (.checked (.refl _))

theorem State.Follows.applySettings {new : Settings} (h : r.Follows s) :
    r.Follows (s.applySettings new) := by
  unfold State.applySettings
  extract_lets old s1
  have written : r.Follows s1 := by
    dsimp only [s1]
    split
    · exact h.writeSettings
    · exact .printableChanged (.setCount (fun _ => Nat.zero_le _) h.writeSettings)
  split
  · exact written
  · exact written.compareIdle

theorem State.Follows.runSettingsSet {body : List Byte} (h : r.Follows s) :
    r.Follows (s.runSettingsSet body) := by
  unfold State.runSettingsSet
  repeat' split
  · exact h.refuse
  · exact h.refuse
  · exact h.applySettings.ok

theorem State.Follows.expireIdle (h : r.Follows s) : r.Follows s.expireIdle := by
  unfold State.expireIdle
  split
  · exact .powerDown h
  · exact h

theorem State.Follows.endWake (h : r.Follows s) : r.Follows s.endWake := by
  unfold State.endWake
  dsimp only
  repeat' split
  · exact .settleStart h
  all_goals exact h

/-! ### The serial line and its requests (chapter 9) -/

theorem State.Follows.receiveByte {b : Byte} {stopBit : Bool} (h : r.Follows s) :
    r.Follows (s.receiveByte b stopBit) := by
  unfold State.receiveByte
  split
  · exact .wakeDecoder h
  · exact h

theorem State.Follows.expireByte (h : r.Follows s) : r.Follows s.expireByte := by
  unfold State.expireByte
  split
  · exact .wakeDecoder h
  · exact h

theorem State.Follows.seeRts {high : Bool} (h : r.Follows s) : r.Follows (s.seeRts high) := by
  unfold State.seeRts
  dsimp only
  split
  · exact .beginSending h
  · exact h

theorem State.Follows.refuseUnknown (h : r.Follows s) : r.Follows s.refuseUnknown := by
  unfold State.refuseUnknown
  repeat' split
  · exact h.begun.refuse
  all_goals exact h

theorem State.Follows.runStatus (h : r.Follows s) : r.Follows s.runStatus :=
  .ok (s := s.setEvent .noChange) h

theorem State.Follows.runRestart (h : r.Follows s) : r.Follows s.runRestart :=
  State.Follows.ok (payload := [])
    (s := { s with line := { s.line with input := [], stored := [], assembly := .hunt, overrun := none } }) h

end Sys2Proof.Machine
end

section
/-! SUPPORT. The commands that do not keep the sticky flags: STATUS_CLEAR, and those that reset the part or may start it
up (section 10.1). They keep the rest. -/

set_option Elab.async false

namespace Sys2Proof.Machine

variable {s : State}

/-- What is kept of a state is kept of one with the same items. -/
theorem State.Keeps.of_ledger {s t u : State} (h : t.Keeps u) (he : s.ledger = t.ledger := by rfl) : s.Keeps u := by
  unfold State.Keeps
  rw [he]
  exact h

theorem State.keeps_clearSticky (mask : Byte) (s : State) : s.Keeps (s.clearSticky mask) := ⟨.refl _, id, id⟩

theorem State.keeps_runStatusClear (body : List Byte) (s : State) : s.Keeps (s.runStatusClear body) := by
  unfold State.runStatusClear
  dsimp only
  split
  · exact (State.Follows.refuse (.refl s)).keeps
  · exact (s.keeps_clearSticky _).trans (State.Follows.ok (.refl _)).keeps

/-- A reset empties the queue and leaves the battery-backed RAM (R27, R192). -/
theorem State.keeps_resetBlocks (mode : Mode) (rate : Nat) (s : State) : s.Keeps (s.resetBlocks mode rate) := by
  rw [State.resetBlocks_eq]
  refine ⟨.refl _, fun _ => Nat.zero_le _, fun _ => ⟨Nat.zero_le _, Nat.zero_le _, List.nodup_nil, ?_⟩⟩
  rintro items ⟨⟩

theorem State.keeps_counterCheck (s : State) : s.Keeps s.counterCheck := by
  refine ⟨?_, id, id⟩
  change s.battery.Follows (if s.battery.isLost then Battery.rebuilt else s.battery.kept)
  split
  · exact s.battery.follows_rebuilt
  · exact s.battery.follows_kept

theorem State.keeps_beginStartUp (straps : BaudStraps) (s : State) : s.Keeps (s.beginStartUp straps) :=
  ((s.keeps_resetBlocks _ _).trans (State.keeps_counterCheck _)).trans (State.Follows.walkTo (.refl _)).keeps

theorem State.keeps_powerUp (straps : BaudStraps) (s : State) : s.Keeps (s.powerUp straps) := by
  unfold State.powerUp
  repeat' split
  · exact State.Keeps.refl s
  · exact s.keeps_beginStartUp straps
  · exact .refl s

theorem State.keeps_releaseReset (straps : BaudStraps) (s : State) : s.Keeps (s.releaseReset straps) := by
  unfold State.releaseReset
  dsimp only
  repeat' split
  · exact State.Keeps.refl s
  · exact (State.keeps_beginStartUp straps _).of_ledger
  · exact .refl s

theorem State.keeps_assertReset (s : State) : s.Keeps s.assertReset := by
  unfold State.assertReset
  dsimp only
  split
  · exact State.Keeps.refl s
  · exact (State.keeps_resetBlocks _ _ _).of_ledger

theorem State.keeps_losePower (s : State) : s.Keeps s.losePower := by
  unfold State.losePower
  split
  · exact .refl s
  · exact s.keeps_resetBlocks _ _

theorem State.keeps_sendByte (straps : BaudStraps) (s : State) : s.Keeps (s.sendByte straps) := by
  unfold State.sendByte
  dsimp only
  repeat' split
  · exact (State.keeps_beginStartUp straps _).of_ledger
  · exact (State.Follows.beginSending (.refl _)).keeps.of_ledger
  · exact (State.Follows.beginSending (.refl _)).keeps.of_ledger
  · exact .refl s

theorem State.keeps_endRestart (straps : BaudStraps) (s : State) : s.Keeps (s.endRestart straps) := by
  unfold State.endRestart
  split
  · exact (State.keeps_beginStartUp straps _).of_ledger
  · exact .refl s

end Sys2Proof.Machine
end


section
/-! SUPPORT. What every command keeps, from the cases of a command: a request, an event, an event that falls due, or the
end of an access. -/

set_option Elab.async false

namespace Sys2Proof.Machine

variable {r s t : State}

/-- A request that clears no sticky flag follows. -/
theorem requestRun_follows {c : Instr} {code : Nat} {run : List Byte → State → State}
    (h : requestRun c = some (code, run)) (hc : c ≠ .statusClear) {body : List Byte} (hs : r.Follows s) :
    r.Follows (run body s) := by
  cases c with
  | recordBegin => cases h; exact hs.runRecordBegin
  | recordData => cases h; exact hs.runRecordData
  | recordEnd => cases h; exact hs.runRecordEnd
  | recordAbandon => cases h; exact hs.runRecordAbandon
  | recordRetire => cases h; exact hs.runRecordRetire
  | recordQuery => cases h; exact hs.runRecordQuery
  | directoryList => cases h; exact hs.runDirectoryList
  | storeUsage => cases h; exact hs.ok
  | storeWipe service => cases h; exact hs.runStoreWipe
  | counterDefine => cases h; exact hs.runCounterDefine
  | counterSet => cases h; exact hs.runCounterSet
  | counterUndefine => cases h; exact hs.runCounterUndefine
  | counterClearReturns => cases h; exact hs.runCounterClearReturns
  | counterRead => cases h; exact hs.runCounterRead
  | jobHold => cases h; exact hs.runJobHold
  | jobRelease => cases h; exact hs.runJobRelease
  | jobSubmit => cases h; exact hs.runJobSubmit
  | jobCancel => cases h; exact hs.runJobCancel
  | jobQuery => cases h; exact hs.runJobQuery
  | queueList => cases h; exact hs.ok
  | reprint => cases h; exact hs.runReprint
  | reprintClear => cases h; exact hs.runReprintClear
  | pause => cases h; exact hs.takePause.ok
  | resume => cases h; exact hs.runResume
  | feed => cases h; exact hs.runFeed
  | calibrate => cases h; exact hs.runCalibrate
  | settingsSet => cases h; exact hs.runSettingsSet
  | settingsGet service => cases h; exact hs.ok
  | status => cases h; exact hs.runStatus
  | restart => cases h; exact hs.runRestart
  | statusClear => exact absurd rfl hc
  | _ => cases h

theorem State.Follows.seeBattery {below : Bool} (h : r.Follows s) : r.Follows (s.seeBattery below) := by
  unfold State.seeBattery
  split
  · exact h.of_sticky ⟨id, id, id, id, id, fun hs => by simp [hs], id⟩
  · exact h

/-- An event that resets nothing follows. -/
theorem eventEffect_follows {c : Instr} {f : State → State} (h : eventEffect c = some f) (hc : clearsSticky c = false)
    (hs : r.Follows s) : r.Follows (f s) := by
  cases c with
  | batteryRetentionLoss => cases h; exact hs.setLatch
  | batteryLow below => cases h; exact hs.seeBattery
  | serialByteReceived b stopBit => cases h; exact hs.receiveByte
  | byteTimeout => cases h; exact hs.expireByte
  | rtsChange high => cases h; exact hs.seeRts
  | unknownKind => cases h; exact hs.refuseUnknown
  | uploadTimeout => cases h; exact hs.timeOutUpload
  | eraseStart => cases h; exact hs.startErase
  | suspensionEffect => cases h; exact hs.takeEffect
  | progressWindowEnd => cases h; exact hs.endWindow
  | eraseComplete residue => cases h; exact hs.completeErase
  | eraseGiveUp => cases h; exact hs.reachGiveUp
  | bandDrawn => cases h; exact hs.finishBand
  | headSample theta supply => cases h; exact hs.sampleHead
  | loadingEnd => cases h; exact hs.endLoading
  | strobePhaseEnd => cases h; exact hs.endPhase
  | lineEnd => cases h; exact hs.endLine
  | motorStep gap => cases h; exact hs.tryStep
  | headSwitchChange isOpen => cases h; exact hs.seeHead
  | mediaSensorChange gap => cases h; exact hs.seeMedia
  | labelTaken noLabel => cases h; exact hs.seeTaken
  | idleTimeout => cases h; exact hs.expireIdle
  | wakeDelayEnd => cases h; exact hs.endWake
  | powerOn | resetLine | mainPowerLoss | byteTransmitted | restartLimit | resetLineAsserted => cases hc
  | _ => cases h

theorem dueEffect_follows {c : Instr} {f : State → State} (h : dueEffect c = some f) (hs : r.Follows s) :
    r.Follows (f s) := by
  cases c with
  | ready => cases h; exact hs.placeReady
  | nak => cases h; exact hs.placeNotices.answerMark
  | jobEnd => cases h; exact hs.placeJobEnd
  | engine => cases h; exact hs.placeEngine
  | supplyCleared => cases h; exact hs.grantRoom.takeSupplyCleared
  | missedGap => cases h; exact hs.grantRoom.takeMiss.checkEngineStep
  | mediaOut => cases h; exact hs.grantRoom.takeMediaOut.checkEngineStep
  | resyncNoEdge => cases h; exact hs.grantRoom.takeResyncLimit.checkEngineStep
  | recoveryLimit => cases h; exact hs.grantRoom.takeRecoveryLimit.checkEngineStep
  | calibrationLimit => cases h; exact hs.grantRoom.takeCalibrationLimit.checkEngineStep
  | _ => cases h

/-- A command that neither clears sticky flags nor resets the part follows. -/
theorem Executes.follows {c : Instr} (he : Executes c s t) (hc : clearsSticky c = false) : s.Follows t := by
  have settled : s.Follows s.settle := (State.Follows.refl s).settle
  cases he with
  | request h =>
    exact (State.Follows.refl s).after fun hx => hx.onRequest (requestRun_follows h fun he => by simp [he, clearsSticky] at hc)
  | event h => exact (State.Follows.refl s).after (eventEffect_follows h hc)
  | due h => exact dueEffect_follows h (.refl s)
  | noAccess => exact settled
  | programEnd => exact settled.endProgram.checkEngineStep
  | programFail => exact (State.Follows.failProgram settled.atLeast).checkEngineStep
  | readEnd => exact (State.Follows.afterRead settled.atLeast.passOn).checkEngineStep

theorem State.Keeps.after {f : State → State} (hf : ∀ x : State, x.Keeps (f x)) : s.Keeps (s.after f) :=
  ((State.Follows.refl s).settle.keeps.trans (hf _)).trans (State.Follows.refl _).checkEngineStep.keeps

theorem State.keeps_onRequest {code : Nat} {run : List Byte → State → State}
    (hrun : ∀ body (x : State), x.Keeps (run body x)) (s : State) : s.Keeps (s.onRequest code run) := by
  unfold State.onRequest
  repeat' split
  · exact (State.Follows.refl s).begun.keeps.trans (hrun _ _)
  · exact (State.Follows.refl s).begun.refuse.keeps
  · exact .refl s
  · exact .refl s

theorem requestRun_keeps {c : Instr} {code : Nat} {run : List Byte → State → State}
    (h : requestRun c = some (code, run)) (body : List Byte) (s : State) : s.Keeps (run body s) := by
  by_cases hc : c = .statusClear
  · subst hc
    cases h
    exact s.keeps_runStatusClear body
  · exact (requestRun_follows h hc (.refl s)).keeps

theorem eventEffect_keeps {c : Instr} {f : State → State} (h : eventEffect c = some f) (s : State) : s.Keeps (f s) := by
  cases hc : clearsSticky c with
  | false => exact (eventEffect_follows h hc (.refl s)).keeps
  | true =>
    cases c with
    | powerOn straps => cases h; exact s.keeps_powerUp straps
    | resetLine straps => cases h; exact s.keeps_releaseReset straps
    | resetLineAsserted => cases h; exact s.keeps_assertReset
    | mainPowerLoss => cases h; exact s.keeps_losePower
    | byteTransmitted straps => cases h; exact s.keeps_sendByte straps
    | restartLimit straps => cases h; exact s.keeps_endRestart straps
    | statusClear => cases h
    | _ => cases hc

/-- Every command keeps the counters, the table check, the room of the queue and the range of the count. -/
theorem Executes.keeps {c : Instr} (he : Executes c s t) : s.Keeps t := by
  have settled : s.Follows s.settle := (State.Follows.refl s).settle
  cases he with
  | request h => exact .after (State.keeps_onRequest (requestRun_keeps h))
  | event h => exact .after (eventEffect_keeps h)
  | due h => exact (dueEffect_follows h (.refl s)).keeps
  | noAccess => exact settled.keeps
  | programEnd => exact settled.endProgram.checkEngineStep.keeps
  | programFail => exact (State.Follows.failProgram settled.atLeast).checkEngineStep.keeps
  | readEnd => exact (State.Follows.afterRead settled.atLeast.passOn).checkEngineStep.keeps

/-- Every step keeps what every command keeps: the clock and the queue of waiting commands are no part of it. -/
theorem step_keeps_ledger (h : step s = .next t) : s.Keeps t :=
  step_keeps (P := s.Keeps) (fun _ hk => hk) (fun _ _ hk => hk) (fun _ _ _ hk he => hk.trans he.keeps) (.refl s) h

/-- Settles O6: a job joins the queue by the binding of a JOB_SUBMIT, whose place stands since it was accepted, a ticket
joins the list at a boundary, which needs room, and the count rises to 256 at most. -/
theorem queueAndCountStayWithinTheirRoom : Obligations.QueueAndCountStayWithinTheirRoom := by
  unfold Obligations.QueueAndCountStayWithinTheirRoom
  exact ⟨fun _ _ hs h => (step_keeps_ledger h).queueSound hs, fun _ _ hs h => (step_keeps_ledger h).countSound hs⟩

/-- Settles O7: each change of the battery-backed RAM writes the table check, or changes the retention latch alone. -/
theorem tableCheckStaysInAgreement : Obligations.TableCheckStaysInAgreement := by
  unfold Obligations.TableCheckStaysInAgreement
  exact fun _ _ hs h => (step_keeps_ledger h).tableSound hs

/-- Settles O8: each change of a counter record keeps its values in the bounds and its return list without repeats. -/
theorem counterValuesStayInBounds : Obligations.CounterValuesStayInBounds := by
  unfold Obligations.CounterValuesStayInBounds
  exact ⟨fun _ _ hs h => (step_keeps_ledger h).countersInBounds hs, fun _ _ hs h => (step_keeps_ledger h).returnsSound hs⟩

/-- Settles O9. -/
theorem stickyFlagsStaySet : Obligations.StickyFlagsStaySet := by
  unfold Obligations.StickyFlagsStaySet
  exact fun _ _ _ hc h => ((executes_of_exec h).follows hc).sticky

/-! ### The machine -/

/-- Settles O1. -/
theorem stepRunsFrontCommand : Obligations.StepRunsFrontCommand := by
  unfold Obligations.StepRunsFrontCommand
  constructor
  · intro c rest s hp
    simp only [step, hp]
  · intro s hp
    simp only [step, hp]

end Sys2Proof.Machine
end


section
/-! SUPPORT. Reset, the part held in it, and the values after it (section 10.1). -/

namespace Sys2Proof.Machine

/-! ### The state after reset -/

theorem State.reset_undefined {c : Counter} (h : c ∈ State.reset.battery.counters) : c = Counter.undefinedRecord :=
  List.eq_of_mem_replicate h

theorem State.reset_sound : State.reset.flashSound ∧ State.reset.attentionSound ∧ State.reset.countSound
    ∧ State.reset.queueSound ∧ State.reset.tableSound ∧ State.reset.countersInBounds ∧ State.reset.returnsSound := by
  refine ⟨rfl, ⟨rfl, rfl⟩, Nat.zero_le _, ⟨Nat.zero_le _, Nat.zero_le _, List.nodup_nil, ?_⟩, Battery.checked_check _,
    fun c hc => ?_, fun c hc => ?_⟩
  · rintro items ⟨⟩
  · rw [State.reset_undefined hc]
    exact Counter.undefinedRecord_inBounds
  · rw [State.reset_undefined hc]
    exact Counter.undefinedRecord_distinct

/-- Settles O3. -/
theorem resetState : Obligations.ResetState := by
  unfold Obligations.ResetState
  refine ⟨⟨by decide, ⟨rfl, ?_, rfl⟩, by decide, by decide, by decide, rfl, by decide⟩, State.reset_sound⟩
  intro b hb
  rw [List.eq_of_mem_replicate hb]
  exact ⟨rfl, rfl⟩

/-! ### A part held in reset -/

/-- What each event that falls due keeps, with the room it grants, is kept by everything that has fallen due. -/
theorem settle_keeps {P : State → Prop} (hgrant : ∀ x, P x → P x.grantRoom)
    (hdue : ∀ f ∈ dueEvents, ∀ x, P x → P (f x)) {s : State} (h : P s) : P s.settle := by
  unfold State.settle
  exact List.foldlRecOn dueEvents _ (hgrant s h) fun x hx f hf => hgrant _ (hdue f hf x hx)

/-- A part held in reset with the line block of a given state. -/
def State.HeldWith (line : LineIf) (x : State) : Prop := x.mode = .held ∧ x.line = line

theorem State.checkEngineStep_held {s : State} (h : s.mode = .held) : s.checkEngineStep = s :=
  State.checkEngineStep_of_mode (by simp [h])

theorem State.checkEngineStep_mode_held {s : State} (h : s.mode = .held) : s.checkEngineStep.mode = .held := by
  rwa [State.checkEngineStep_held h]

theorem State.placeReady_held {s : State} (h : s.mode = .held) : s.placeReady = s := by
  simp [State.placeReady, h]

theorem State.placeEngine_held {s : State} (h : s.mode = .held) : s.placeEngine = s := by
  have hn : s.mayNotify = false := by simp [State.mayNotify, State.isRunning, h]
  unfold State.placeEngine
  split <;> simp [hn]

theorem State.resumePrinting_line_held {s : State} (h : s.mode = .held) : s.resumePrinting.line = s.line := by
  unfold State.resumePrinting
  dsimp only
  split
  · rw [State.placeEngine_held] <;> simp [h]
  · simp

/-- With no notice to place, the end of SUPPLY sends nothing. -/
theorem State.takeSupplyCleared_line_held {s : State} (h : s.mode = .held) : s.takeSupplyCleared.line = s.line := by
  unfold State.takeSupplyCleared State.clearHold
  dsimp only
  repeat' split
  all_goals simp [State.resumePrinting_line_held, h]

/-- Nothing that falls due starts a held part up or touches its line block. -/
theorem State.settle_held {s : State} (h : s.mode = .held) : s.settle.mode = .held ∧ s.settle.line = s.line := by
  refine settle_keeps (P := State.HeldWith s.line) (fun x ⟨hm, hl⟩ => ?_) (fun f hf x ⟨hm, hl⟩ => ?_) ⟨h, rfl⟩
  · rw [State.grantRoom_of_not_running (by simp [hm])]
    exact ⟨hm, hl⟩
  · simp only [dueEvents, List.mem_cons, List.not_mem_nil, or_false] at hf
    obtain rfl | rfl | rfl | rfl | rfl | rfl | rfl | rfl | rfl := hf
    all_goals
      constructor <;>
        simp [hm, hl, State.placeReady_held hm, State.checkEngineStep_held hm, State.takeSupplyCleared_line_held hm]

theorem State.onRequest_keepsMode {c : Instr} {code : Nat} {run : List Byte → State → State}
    (h : requestRun c = some (code, run)) (s : State) : (s.onRequest code run).mode = s.mode :=
  State.onRequest_mode _ _ s (by cases c <;> cases h <;> simp)

/-- The effect of an event on a held part without a RESTART mark. -/
theorem eventEffect_held {c : Instr} {f : State → State} (h : eventEffect c = some f)
    (hreset : ∀ straps, c ≠ .resetLine straps) (hloss : c ≠ .mainPowerLoss) {s : State} (hm : s.mode = .held)
    (hr : s.line.restart = none) : (f s).mode = .held := by
  cases c with
  | resetLine straps => exact absurd rfl (hreset straps)
  | mainPowerLoss => exact absurd rfl hloss
  | powerOn straps => cases h; simp [State.powerUp, hm]
  | resetLineAsserted => cases h; simp [State.assertReset, hm]
  | byteTransmitted straps =>
    cases h
    unfold State.sendByte
    split <;> simp [hr, hm]
  | restartLimit straps => cases h; simp [State.endRestart, hr, hm]
  | _ => cases h <;> simp [hm]

theorem dueEffect_held {c : Instr} {f : State → State} (h : dueEffect c = some f) {s : State} (hm : s.mode = .held) :
    (f s).mode = .held := by
  cases c with
  | ready => cases h; rwa [State.placeReady_held hm]
  | missedGap | mediaOut | resyncNoEdge | recoveryLimit | calibrationLimit =>
    cases h
    dsimp only
    rw [State.checkEngineStep_held] <;> simp [hm]
  | _ => cases h <;> simp [hm]

theorem State.afterProgram_held {client : Client} {failed : Bool} {s : State} (hm : s.mode = .held) :
    (s.afterProgram client failed).mode = .held := by
  cases client with
  | scan => simp [State.afterProgram, hm]
  | decoder => cases failed <;> simp [State.afterProgram, hm]
  | _ => exact hm

theorem State.afterRead_held {client : Client} {s : State} (hm : s.mode = .held) :
    (s.afterRead client).mode = .held := by
  cases client <;> simp [State.afterRead, hm]

/-- A held part stays held through what a command does, but for the release of the line and the loss of power. -/
theorem Executes.held {c : Instr} {s t : State} (he : Executes c s t) (hm : s.mode = .held)
    (hr : s.line.restart = none) (hreset : ∀ straps, c ≠ .resetLine straps) (hloss : c ≠ .mainPowerLoss) :
    t.mode = .held := by
  obtain ⟨hmode, hline⟩ := State.settle_held hm
  cases he with
  | request h => exact State.checkEngineStep_mode_held ((State.onRequest_keepsMode h _).trans hmode)
  | event h =>
    have hrestart : s.settle.line.restart = none := (congrArg LineIf.restart hline).trans hr
    exact State.checkEngineStep_mode_held (eventEffect_held h hreset hloss hmode hrestart)
  | due h => exact dueEffect_held h hm
  | noAccess => exact hmode
  | programEnd =>
    apply State.checkEngineStep_mode_held
    rw [State.endProgram]
    exact State.afterProgram_held (by simpa using hmode)
  | programFail =>
    apply State.checkEngineStep_mode_held
    rw [State.failProgram]
    exact State.afterProgram_held (by simpa using hmode)
  | readEnd => exact State.checkEngineStep_mode_held (State.afterRead_held (by simpa using hmode))

/-- Settles O10: no command but the release of the line and the loss of power changes the mode of a held part, and at the
release the blocks are reset again and start-up begins. -/
theorem heldPartLeavesResetAtItsRelease : Obligations.HeldPartLeavesResetAtItsRelease := by
  unfold Obligations.HeldPartLeavesResetAtItsRelease
  refine ⟨fun c s t hm hr he hreset hloss => ?_, fun straps s u hu hm hline => ?_⟩
  · have hex := executes_of_exec he
    exact hex.held hm hr hreset hloss
  · have hrelease : u.releaseReset straps
        = State.startedUp { u with lines := { u.lines with resetAsserted := false } } (rateOf straps) := by
      simp [State.releaseReset, hline, hm, State.beginStartUp_eq]
    rw [exec_of_eventEffect (f := State.releaseReset straps) rfl, State.after, hu, hrelease,
      State.checkEngineStep_of_mode (by simp [State.startedUp, State.blocksReset])]

end Sys2Proof.Machine
end


section
/-! SUPPORT. How a command's next state is found: an event's effect, or a request's own rule, on the state with
everything due taken. -/

set_option Elab.async false

namespace Sys2Proof.Machine

/-- An event takes its effect on the settled state. -/
theorem exec_event {c : Instr} {f : State → State} {s u : State} (h : eventEffect c = some f) (hu : s.settle = u) :
    exec c s = .next (f u).checkEngineStep := by
  rw [exec_of_eventEffect h, State.after, hu]

/-- What leaves the mode, the motion and what is due as a settled state has them ends no engine step. -/
theorem State.checkEngineStep_same {u t : State} (hu : u.checkEngineStep = u) (hmode : t.mode = u.mode := by rfl)
    (hmotion : t.media.motion = u.media.motion := by rfl) (hdue : t.media.due = u.media.due := by rfl) :
    t.checkEngineStep = t := by
  unfold State.checkEngineStep at hu ⊢
  rw [hmode, hmotion, hdue]
  split
  · rename_i damaged duplicates hm
    split
    · rename_i hnone
      simp only [hm, if_pos hnone] at hu
      have := congrArg State.mode hu
      simp [hm] at this
    · rfl
  · rfl

theorem State.checkEngineStep_settled {s u : State} (hu : s.settle = u) : u.checkEngineStep = u :=
  hu ▸ s.checkEngineStep_settle

/-- An event that neither moves the media nor changes the mode. -/
theorem exec_event_same {c : Instr} {f : State → State} {s u t : State} (h : eventEffect c = some f)
    (hu : s.settle = u) (hf : f u = t) (hmode : t.mode = u.mode := by rfl)
    (hmotion : t.media.motion = u.media.motion := by rfl) (hdue : t.media.due = u.media.due := by rfl) :
    exec c s = .next t := by
  rw [exec_event h hu, hf, State.checkEngineStep_same (State.checkEngineStep_settled hu) hmode hmotion hdue]

/-- An event in a running part. -/
theorem exec_event_running {c : Instr} {f : State → State} {s u t : State} (h : eventEffect c = some f)
    (hu : s.settle = u) (hf : f u = t) (hmode : t.mode = .running) : exec c s = .next t := by
  rw [exec_event h hu, hf, State.checkEngineStep_running hmode]

theorem requestRun_code_lt {c : Instr} {code : Nat} {run : List Byte → State → State}
    (h : requestRun c = some (code, run)) : code < 256 := by
  cases c <;> cases h <;> decide

theorem requestRun_mode {c : Instr} {code : Nat} {run : List Byte → State → State}
    (h : requestRun c = some (code, run)) (b : List Byte) (x : State) : (run b x).mode = x.mode := by
  cases c <;> cases h <;> simp

/-- A request's own rule runs on the settled state with its execution begun. -/
theorem exec_request {c : Instr} {code : Nat} {run : List Byte → State → State} {s u : State} {body : List Byte}
    (h : requestRun c = some (code, run)) (hu : s.settle = u) (ha : u.asks code body) :
    exec c s = .next (run body (u.begun (byte code))) := by
  rw [exec_of_requestRun h, State.after_asks (requestRun_code_lt h) hu ha (requestRun_mode h)]

/-- A request other than RECORD_DATA and RECORD_END. -/
theorem exec_request_headGone {c : Instr} {code : Nat} {run : List Byte → State → State} {s u : State}
    {body : List Byte} (h : requestRun c = some (code, run)) (hup : isUploadRequest (byte code) = false)
    (hu : s.settle = u) (ha : u.asks code body) : exec c s = .next (run body (u.headGone code)) := by
  rw [exec_request h hu ha, State.begun_eq hup]

/-- A request other than RECORD_DATA and RECORD_END refused, with no other effect. -/
theorem exec_refused {c : Instr} {code : Nat} {run : List Byte → State → State} {s u : State} {body : List Byte}
    {reason : Reason} {detail : Nat} (h : requestRun c = some (code, run)) (hup : isUploadRequest (byte code) = false)
    (hu : s.settle = u) (ha : u.asks code body)
    (hr : run body (u.headGone code) = (u.headGone code).refuse reason detail) :
    exec c s = .next (u.answered code (refusedReply code reason detail) u) := by
  rw [exec_request_headGone h hup hu ha, hr, State.refuse_eq_answered u (u.headGone code) code reason detail rfl rfl rfl rfl hup]
  rfl

/-- A request other than RECORD_DATA and RECORD_END answered with OK, its effect `v` touching neither the line, the
Decoder, request-to-send nor the clock. -/
theorem exec_answered {c : Instr} {code : Nat} {run : List Byte → State → State} {s u : State} {body : List Byte}
    {payload : List Byte} (v : State) (h : requestRun c = some (code, run))
    (hup : isUploadRequest (byte code) = false) (hu : s.settle = u) (ha : u.asks code body)
    (hr : run body (u.headGone code) = v.ok payload) (hline : v.line = u.line := by rfl)
    (hkind : v.dec.kind = byte code := by rfl) (hlines : v.lines.rts = u.lines.rts := by rfl)
    (hnow : v.now = u.now := by rfl) :
    exec c s = .next (u.answered code (okReply code payload) v) := by
  rw [exec_request_headGone h hup hu ha, hr, State.ok_eq_answered u v code payload hline hkind hlines hnow hup]

/-! ### Flash contents that only lose ones (section 1.1) -/

theorem flashRange_getElem? (m : Memory) (a n i : Nat) :
    (flashRange m a n)[i]? = if i < n then some (flashRead m (a + i)) else none := by
  unfold flashRange
  split <;> simp [*]

/-- A byte after a run of writes that each take ones from what stood there has lost ones at most. -/
theorem flashRead_flashWriteAll_cleared {m : Memory} (a n : Nat) (vs : List Byte) (h : Memory.wf m = true) (b : Nat) :
    ∃ v, flashRead (flashWriteAll m a (List.zipWith (· &&& ·) (flashRange m a n) vs)) b = flashRead m b &&& v := by
  rw [flashRead_flashWriteAll h]
  split
  · rename_i hab
    rw [List.getD_eq_getElem?_getD, List.getElem?_zipWith, flashRange_getElem?, Nat.add_sub_cancel' hab]
    split
    · rename_i x w hx hw
      split at hx
      · cases hx
        exact ⟨w, rfl⟩
      · cases hx
    · exact ⟨flashRead m b, by simp⟩
  · exact ⟨flashRead m b, by simp⟩

theorem flashRead_flashWriteAll_and {m : Memory} (a n : Nat) (vs : List Byte) (h : Memory.wf m = true) (b : Nat) :
    flashRead (flashWriteAll m a (List.zipWith (· &&& ·) (flashRange m a n) vs)) b &&& flashRead m b
      = flashRead (flashWriteAll m a (List.zipWith (· &&& ·) (flashRange m a n) vs)) b := by
  obtain ⟨v, hv⟩ := flashRead_flashWriteAll_cleared a n vs h b
  rw [hv, BitVec.and_comm, ← BitVec.and_assoc, BitVec.and_self]

end Sys2Proof.Machine
end


section
/-! SUPPORT. The resets of section 10.1 and the counter check of section 4.7. -/

set_option Elab.async false

namespace Sys2Proof.Machine

/-! ### What the operations cut short leave (R27, R194) -/

/-- With no program in progress and no erase, flash is as it was. -/
theorem State.cutArray_flash_of_quiet {u : State} (hb : ∀ b, u.array.busy = some b → ∃ page, b.access.op = .read page)
    (he : u.array.erase = .idle) : u.cutArray.flash = u.flash := by
  simp only [State.cutArray, he, EraseService.sector]
  split
  · rename_i hbusy
    obtain ⟨page, hp⟩ := hb _ hbusy
    cases hp
  · rfl

theorem State.cutErase_flash_outside {u : State} {sector a : Nat} (ha : inSector sector a = false) :
    flashRead (u.cutErase sector).flash a = flashRead u.flash a := by
  simp only [State.cutErase]
  refine flashRead_flashWriteAll_outside ?_
  simp only [inSector, decide_eq_false_iff_not] at ha
  simp only [freeBytes, List.length_map, List.length_range]
  omega

/-- Outside the sector being erased, the operations cut short leave what the program cut short leaves. -/
theorem State.cutArray_flash_outside {u : State} {a : Nat}
    (hr : ∀ r, u.array.erase = .erasing r → inSector r.sector a = false)
    (hs : ∀ sector time, u.array.erase = .suspended sector time → inSector sector a = false) :
    flashRead u.cutArray.flash a = flashRead u.flash a
      ∨ ∃ client addr data began,
          u.array.busy = some { access := { client, op := .program addr data }, started := began }
          ∧ flashRead u.cutArray.flash a = flashRead (u.cutProgram addr data).flash a := by
  have outside : ∀ sector, u.array.erase.sector = some sector → inSector sector a = false := by
    intro sector h
    cases he : u.array.erase with
    | idle => simp [he, EraseService.sector] at h
    | erasing r => simp only [he, EraseService.sector, Option.some.injEq] at h; exact h ▸ hr r he
    | suspended n time => simp only [he, EraseService.sector, Option.some.injEq] at h; exact h ▸ hs n time he
  unfold State.cutArray
  dsimp only
  split
  · rename_i sector hsector
    rw [State.cutErase_flash_outside (outside sector hsector)]
    split
    · exact .inr ⟨_, _, _, _, ‹_›, rfl⟩
    · exact .inl rfl
  · split
    · exact .inr ⟨_, _, _, _, ‹_›, rfl⟩
    · exact .inl rfl

theorem State.cutProgram_flash_and {u : State} (h : u.flashSound) (addr a : Nat) (data : List Byte) :
    flashRead (u.cutProgram addr data).flash a &&& flashRead u.flash a = flashRead (u.cutProgram addr data).flash a :=
  flashRead_flashWriteAll_and addr data.length _ h a

theorem State.cutProgram_flash_outside {u : State} {addr a : Nat} {data : List Byte}
    (ha : a < addr ∨ addr + data.length ≤ a) : flashRead (u.cutProgram addr data).flash a = flashRead u.flash a := by
  simp only [State.cutProgram]
  refine flashRead_flashWriteAll_outside ?_
  simp only [partlyProgrammed, programmed, List.length_zipWith, flashRange, List.length_map, List.length_range,
    List.length_zipIdx, Nat.min_self]
  exact ha

theorem State.blocksReset_mode (u : State) (mode : Mode) (rate : Nat) : (u.blocksReset mode rate).mode = mode := rfl

/-- Settles O12: a reset puts every block at its values and cuts the array's operations short, which write only the bytes
of the program and of the sector they were on. -/
theorem resetLineAndPowerLossResetTheBlocks : Obligations.ResetLineAndPowerLossResetTheBlocks := by
  unfold Obligations.ResetLineAndPowerLossResetTheBlocks
  refine ⟨fun s u hu hoff hheld => ?_, fun s u hu hm => ?_, fun s u hu hoff => ?_, fun u mode rate hb he => ?_,
    fun u mode rate a hf hr hs => ?_⟩
  · rw [exec_event (f := State.assertReset) rfl hu]
    simp only [State.assertReset, hoff, hheld, or_self, if_false, State.resetBlocks_eq]
    rw [State.checkEngineStep_of_mode (by simp [State.blocksReset_mode])]
  · exact exec_event_same (f := State.assertReset) rfl hu (by simp [State.assertReset, hm])
  · rw [exec_event (f := State.losePower) rfl hu]
    simp only [State.losePower, hoff, if_false, State.resetBlocks_eq]
    rw [State.checkEngineStep_of_mode (by simp [State.blocksReset_mode])]
  · exact ⟨State.cutArray_flash_of_quiet hb he, rfl⟩
  · change flashRead u.cutArray.flash a &&& flashRead u.flash a = flashRead u.cutArray.flash a
      ∧ (_ → flashRead u.cutArray.flash a = flashRead u.flash a)
    obtain h | ⟨client, addr, data, began, hbusy, h⟩ := State.cutArray_flash_outside hr hs
    · exact ⟨by rw [h, BitVec.and_self], fun _ => h⟩
    · rw [h]
      exact ⟨State.cutProgram_flash_and hf addr a data,
        fun hout => State.cutProgram_flash_outside (hout client addr data began hbusy)⟩

/-! ### The counter check (R91 to R93) -/

/-- The drop record of a counter: the number, the lowest and the highest of its outstanding values (R92). -/
theorem dropOf_eq_some {id : Nat} {c : Counter} {d : Drop} :
    dropOf id c = some d ↔ c.outstanding ≠ [] ∧ d.id = id ∧ d.count = c.outstanding.length
      ∧ d.lowest ∈ c.outstanding.map Outstanding.value ∧ d.highest ∈ c.outstanding.map Outstanding.value
      ∧ ∀ v ∈ c.outstanding.map Outstanding.value, d.lowest ≤ v ∧ v ≤ d.highest := by
  have hlen : c.outstanding.length = (c.outstanding.map Outstanding.value).length := by simp
  have hnil : c.outstanding ≠ [] ↔ c.outstanding.map Outstanding.value ≠ [] := by simp
  rw [hlen, hnil, dropOf]
  cases c.outstanding.map Outstanding.value with
  | nil => simp
  | cons v vs =>
    have hmin : ∀ a, vs.foldl min v = a ↔ a ∈ v :: vs ∧ ∀ b ∈ v :: vs, a ≤ b := fun a => by
      rw [← List.min?_eq_some_iff, List.min?_cons', Option.some.injEq]
    have hmax : ∀ a, vs.foldl max v = a ↔ a ∈ v :: vs ∧ ∀ b ∈ v :: vs, b ≤ a := fun a => by
      rw [← List.max?_eq_some_iff, List.max?_cons', Option.some.injEq]
    obtain ⟨did, dcount, dlow, dhigh⟩ := d
    simp only [Option.some.injEq, Drop.mk.injEq, hmin, hmax, ne_eq, reduceCtorEq, not_false_eq_true, true_and]
    constructor
    · rintro ⟨rfl, rfl, ⟨h1, h2⟩, h3, h4⟩
      exact ⟨rfl, rfl, h1, h3, fun x hx => ⟨h2 x hx, h4 x hx⟩⟩
    · rintro ⟨rfl, rfl, h1, h2, h3⟩
      exact ⟨rfl, rfl, ⟨h1, fun x hx => (h3 x hx).1⟩, h2, fun x hx => (h3 x hx).2⟩

/-- The drop records of a table kept: those that stood, and one of each counter with outstanding values (R92). -/
theorem Battery.mem_kept_drops (b : Battery) (d : Drop) :
    d ∈ b.kept.drops ↔ d ∈ b.drops ∨ ∃ (i : Nat) (c : Counter), b.counters[i]? = some c ∧ dropOf (i + 1) c = some d := by
  simp only [Battery.kept, Battery.checked, List.mem_insertionSort, List.mem_append, List.mem_filterMap,
    List.mem_zipIdx_iff_getElem?]
  refine or_congr Iff.rfl ⟨?_, ?_⟩
  · rintro ⟨⟨c, i⟩, hc, hd⟩
    exact ⟨i, c, hc, hd⟩
  · rintro ⟨i, c, hc, hd⟩
    exact ⟨⟨c, i⟩, hc, hd⟩

theorem Battery.kept_drops_pairwise (b : Battery) : b.kept.drops.Pairwise fun x y => x.id ≤ y.id :=
  List.pairwise_insertionSort (fun x y : Drop => x.id ≤ y.id) _

theorem Battery.isLost_iff (b : Battery) : b.isLost = true ↔ b.latch = true ∨ b.check ≠ tableSum b := by
  simp [Battery.isLost]

theorem State.isAwake_iff (s : State) : s.isAwake = true ↔ s.mode = .running ∨ ∃ stage, s.mode = .startUp stage := by
  unfold State.isAwake
  cases s.mode <;> simp

/-- Settles O13. -/
theorem batteryBackedTableIsCheckedAndKept : Obligations.BatteryBackedTableIsCheckedAndKept := by
  unfold Obligations.BatteryBackedTableIsCheckedAndKept
  refine ⟨⟨Battery.isLost_iff, ⟨rfl, rfl, rfl, rfl, rfl, Battery.checked_check _⟩, fun b => ⟨fun i => ?_, fun d => ?_, b.kept_drops_pairwise,
    rfl, rfl, rfl, Battery.checked_check _⟩⟩, fun below s u hu => ⟨fun ha => ?_, fun ha => ?_⟩, fun s u hu => ?_⟩
  · exact List.getElem?_map
  · simp only [b.mem_kept_drops, dropOf_eq_some]
  · have hawake := u.isAwake_iff.mpr ha
    exact exec_event_same (f := State.seeBattery below) rfl hu (by simp [State.seeBattery, hawake])
  · have hawake : u.isAwake = false := by rcases ha with h | h <;> simp [State.isAwake, h]
    exact exec_event_same (f := State.seeBattery below) rfl hu (by simp [State.seeBattery, hawake])
  · refine exec_event_same (f := State.setLatch) rfl hu rfl ?_ ?_ ?_ <;> split <;> rfl

end Sys2Proof.Machine
end


section
/-! SUPPORT. The serial line: the assembly of received bytes, and transmission (sections 9.1 to 9.3). -/

set_option Elab.async false

namespace Sys2Proof.Machine

/-! ### The assembly (R180 to R183) -/

/-- A byte taken by the Line Interface: CTS and the Decoder follow the buffer. -/
theorem State.wakeDecoder_followFill (u : State) (l : LineIf) :
    State.wakeDecoder { u with line := l.followFill } = u.lineFollowed l := by
  unfold State.wakeDecoder State.lineFollowed
  simp only [LineIf.followFill_input, LineIf.followFill_restart]
  split <;> rfl

/-- An error of the frame in assembly with no overrun pending. -/
theorem LineIf.frameError_of_no_overrun {l : LineIf} (h : l.overrun = none) (cause : NakCause) :
    l.frameError cause = { l with input := l.input ++ [.mark cause 1], stored := [], assembly := .hunt } := by
  simp [LineIf.frameError, LineIf.storeOverrun, h]

theorem LineIf.receive_of_full {l : LineIf} (h : 4096 ≤ l.fill) (now : Nat) (b : Byte) :
    l.receive now b = l.overflow b := if_pos h

/-- A byte of a frame in assembly, or the A5h that begins one. -/
theorem LineIf.receive_of_room {l : LineIf} {b : Byte} (h : l.fill < 4096) (hb : l.assembly = .hunt → b = 0xA5)
    (now : Nat) : l.receive now b = LineIf.assembled { l with stored := l.stored ++ [b], lastByteAt := now } := by
  rw [LineIf.receive, if_neg (show ¬ Config.inputSize ≤ l.fill from Nat.not_le.mpr h),
    if_neg fun hc => hc.2 (hb hc.1)]

/-- Settles O14. -/
theorem receivedBytesAreAssembled : Obligations.ReceivedBytesAreAssembled := by
  unfold Obligations.ReceivedBytesAreAssembled
  refine ⟨fun b stop s u hu hrun => ⟨fun hstop hrestart => ?_, fun h => ?_⟩, fun l now b hfill ho ha hs hn => ?_,
    fun l now n b hfill ho ha hn hs hsum => ?_, fun l now b hfill ho ha => ?_, fun l now hfill ha => ?_,
    fun s u hu hrun hrestart ho ha => ?_⟩
  · refine exec_event_running (f := State.receiveByte b stop) rfl hu ?_ hrun
    have hreceives : (u.receives && stop) = true := by simp [State.receives, State.isRunning, hrun, hrestart, hstop]
    rw [State.receiveByte, if_pos hreceives, State.wakeDecoder_followFill]
  · refine exec_event_running (f := State.receiveByte b stop) rfl hu ?_ hrun
    rcases h with h | h <;> simp [State.receiveByte, State.receives, State.isRunning, hrun, h]
  · rw [LineIf.receive_of_room hfill (by simp [ha])]
    simp only [LineIf.assembled, ha, List.length_append, List.length_singleton, hs, frameLength]
    rw [if_neg (by omega), if_pos hn, LineIf.frameError_of_no_overrun (by exact ho)]
  · rw [LineIf.receive_of_room hfill (by simp [ha])]
    simp only [LineIf.assembled, ha, List.length_append, List.length_singleton, hs, frameLength, ← hn, if_true,
      LineIf.judge, if_neg hsum]
    rw [LineIf.frameError_of_no_overrun (by exact ho)]
  · rw [LineIf.receive_of_full hfill, LineIf.overflow, if_neg ha, LineIf.frameError_of_no_overrun ho]
  · rw [LineIf.receive_of_full hfill, LineIf.overflow, if_pos ha, if_pos rfl]
    cases l.overrun <;> rfl
  · refine exec_event_running (f := State.expireByte) rfl hu ?_ hrun
    have hreceives : u.receives = true := by simp [State.receives, State.isRunning, hrun, hrestart]
    rw [State.expireByte, if_pos ⟨hreceives, ha⟩]
    dsimp only
    rw [State.wakeDecoder_followFill, LineIf.frameError_of_no_overrun (by exact ho)]
    rfl

/-! ### A frame from its bytes (R180) -/

theorem ofBytes_toBytes_two {v : Nat} (h : v < 65536) : ofBytes (toBytes 2 v) = v := by
  simp only [toBytes, ofBytes, List.foldl_cons, List.foldl_nil, BitVec.toNat_ofNat]
  omega

theorem byteSum_lt (bs : List Byte) : byteSum bs < 65536 := Nat.mod_lt _ (by decide)

@[simp] theorem frameBytes_length (kind : Byte) (body : List Byte) : (frameBytes kind body).length = body.length + 6 := by
  simp [frameBytes, toBytes]

/-- The assembly state after the first `k` bytes of a frame with a body of `n` bytes (R180). -/
def assemblyAt (n k : Nat) : Assembly :=
  if k = 0 then .hunt else if k < 3 then .length else if k = 3 then .kind else if k < n + 4 then .body else .check

/-- The Line Interface with the first `k` bytes of a frame stored, the last of them at a time. -/
def LineIf.partly (l : LineIf) (kind : Byte) (body : List Byte) (k time : Nat) : LineIf :=
  { l with stored := (frameBytes kind body).take k, assembly := assemblyAt body.length k, lastByteAt := time }

theorem frameLength_frameBytes {kind : Byte} {body : List Byte} {k : Nat} (hk : 3 ≤ k) (hn : body.length ≤ 1024) :
    frameLength ((frameBytes kind body).take k) = body.length := by
  obtain ⟨m, rfl⟩ := Nat.exists_eq_add_of_le' hk
  have h : (((frameBytes kind body).take (m + 3)).drop 1).take 2 = toBytes 2 body.length := by
    simp [frameBytes, toBytes]
  rw [frameLength, num, h, ofBytes_toBytes_two (by omega)]

theorem LineIf.partly_fill (l : LineIf) (kind : Byte) (body : List Byte) {k : Nat} (time : Nat) (hs : l.stored = [])
    (hk : k ≤ body.length + 6) : (l.partly kind body k time).fill = l.fill + k := by
  simp [LineIf.fill, LineIf.partly, hs, hk]

/-- The next byte of a frame stored. -/
theorem take_append_getD {xs : List Byte} {k : Nat} (h : k < xs.length) (b : Byte) :
    xs.take k ++ [xs.getD k b] = xs.take (k + 1) := by
  rw [List.take_add_one, List.getElem?_eq_getElem h, List.getD_eq_getElem _ _ h]
  rfl

/-- The byte of a frame goes into the assembly of the bytes before it. -/
theorem LineIf.receive_partly {l : LineIf} {kind : Byte} {body : List Byte} {k time now : Nat} (hs : l.stored = [])
    (hfill : l.fill + (body.length + 6) ≤ 4096) (hk : k < body.length + 6) :
    (l.partly kind body k time).receive now ((frameBytes kind body).getD k 0)
      = LineIf.assembled { l.partly kind body (k + 1) now with assembly := assemblyAt body.length k } := by
  rw [LineIf.receive_of_room]
  · simp only [LineIf.partly, take_append_getD (show k < (frameBytes kind body).length by simpa using hk)]
  · rw [l.partly_fill kind body time hs (by omega)]
    omega
  · intro ha
    have hzero : k = 0 := by
      by_contra hne
      simp only [LineIf.partly, assemblyAt, hne, if_false] at ha
      repeat' split at ha
      all_goals cases ha
    subst hzero
    rfl

theorem assemblyAt_length (n : Nat) : assemblyAt n 1 = .length ∧ assemblyAt n 2 = .length := ⟨rfl, rfl⟩

theorem assemblyAt_kind (n : Nat) : assemblyAt n 3 = .kind := rfl

theorem assemblyAt_body {n k : Nat} (h : 4 ≤ k) (hk : k < n + 4) : assemblyAt n k = .body := by
  simp [assemblyAt, hk, show k ≠ 0 by omega, show ¬ k < 3 by omega, show k ≠ 3 by omega]

theorem assemblyAt_check {n k : Nat} (hk : n + 4 ≤ k) : assemblyAt n k = .check := by
  simp [assemblyAt, show ¬ k < n + 4 by omega, show k ≠ 0 by omega, show ¬ k < 3 by omega, show k ≠ 3 by omega]

/-- The assembly after a byte of a frame that is not the last: `k` bytes stood before it. -/
theorem LineIf.assembled_before_last {x : LineIf} {n k : Nat} (ha : x.assembly = assemblyAt n k)
    (hlen : x.stored.length = k + 1) (hgives : 2 ≤ k → frameLength x.stored = n) (hn : n ≤ 1024) (hk : k < n + 5) :
    x.assembled = { x with assembly := assemblyAt n (k + 1) } := by
  have keep : ∀ a, x.assembly = a → x = { x with assembly := a } := by rintro a rfl; rfl
  unfold LineIf.assembled
  rw [ha, hlen]
  match k with
  | 0 => rfl
  | 1 => exact keep _ ha
  | 2 =>
    simp only [assemblyAt_length, hgives (le_refl 2)]
    rw [if_neg (by omega), if_neg (by omega), assemblyAt_kind]
  | 3 =>
    simp only [assemblyAt_kind, hgives (by omega)]
    by_cases h0 : n = 0
    · rw [if_pos h0, assemblyAt_check (by omega)]
    · rw [if_neg h0, assemblyAt_body (by omega) (by omega)]
  | k + 4 =>
    by_cases hbody : k + 4 < n + 4
    · simp only [assemblyAt_body (show 4 ≤ k + 4 by omega) hbody, hgives (show 2 ≤ k + 4 by omega)]
      by_cases hlast : k + 4 + 1 = n + 4
      · rw [if_pos hlast, assemblyAt_check (by omega)]
      · rw [if_neg hlast, assemblyAt_body (by omega) (by omega)]
        exact keep _ (ha.trans (assemblyAt_body (by omega) hbody))
    · simp only [assemblyAt_check (show n + 4 ≤ k + 4 by omega), hgives (show 2 ≤ k + 4 by omega)]
      rw [if_neg (by omega), assemblyAt_check (by omega)]
      exact keep _ (ha.trans (assemblyAt_check (by omega)))

/-- A byte of a frame but the last goes on to the next assembly state. -/
theorem LineIf.receive_partly_before_last {l : LineIf} {kind : Byte} {body : List Byte} {k time now : Nat}
    (hn : body.length ≤ 1024) (hs : l.stored = []) (hfill : l.fill + (body.length + 6) ≤ 4096)
    (hk : k < body.length + 5) :
    (l.partly kind body k time).receive now ((frameBytes kind body).getD k 0) = l.partly kind body (k + 1) now := by
  rw [LineIf.receive_partly hs hfill (by omega)]
  refine (LineIf.assembled_before_last (n := body.length) (k := k) rfl ?_ (fun h => ?_) hn hk).trans rfl
  · simp [LineIf.partly]
    omega
  · exact frameLength_frameBytes (by omega) hn

/-- The last byte of a frame ends its assembly: its check agrees, and it joins the input buffer. -/
theorem LineIf.receive_partly_last {l : LineIf} {kind : Byte} {body : List Byte} {time now : Nat}
    (hn : body.length ≤ 1024) (ha : l.assembly = .hunt) (hs : l.stored = [])
    (hfill : l.fill + (body.length + 6) ≤ 4096) :
    (l.partly kind body (body.length + 5) time).receive now ((frameBytes kind body).getD (body.length + 5) 0)
      = { l with input := l.input ++ [.frame kind body], lastByteAt := now } := by
  have htake : (frameBytes kind body).take (body.length + 6) = frameBytes kind body := by
    rw [← frameBytes_length kind body, List.take_length]
  have hgives : frameLength (frameBytes kind body) = body.length := by
    have := frameLength_frameBytes (kind := kind) (k := body.length + 6) (by omega) hn
    rwa [htake] at this
  have hinner : ((frameBytes kind body).drop 1).take (body.length + 3) = toBytes 2 body.length ++ kind :: body := by
    simp only [frameBytes, List.drop_succ_cons, List.drop_zero, List.cons_append]
    rw [List.take_append_of_le_length (by simp [toBytes]), List.take_of_length_le (by simp [toBytes])]
  have hcheck : num (frameBytes kind body) (body.length + 4) 2 = byteSum (toBytes 2 body.length ++ kind :: body) := by
    have hdrop : (frameBytes kind body).drop (body.length + 4)
        = toBytes 2 (byteSum (toBytes 2 body.length ++ kind :: body)) := by
      simp only [frameBytes, List.cons_append]
      rw [List.drop_succ_cons, List.drop_append_of_le_length (by simp [toBytes]), List.drop_of_length_le (by simp [toBytes])]
      rfl
    rw [num, hdrop, List.take_of_length_le (by simp [toBytes]), ofBytes_toBytes_two (byteSum_lt _)]
  rw [LineIf.receive_partly hs hfill (by omega), LineIf.assembled]
  simp only [assemblyAt_check (show body.length + 4 ≤ body.length + 5 by omega), LineIf.partly, htake, hgives,
    frameBytes_length, if_true, LineIf.judge, hinner, hcheck]
  have hkind : byteAt (frameBytes kind body) 3 = kind := by simp [byteAt, frameBytes, toBytes]
  have hbody : ((frameBytes kind body).drop 4).take body.length = body := by simp [frameBytes, toBytes]
  rw [hkind, hbody, ← ha, ← hs]

/-- One byte more of a run of bytes with their times. -/
theorem foldl_receive_succ {l : LineIf} {times : List Nat} {bytes : List Byte} {k : Nat} (hk : k < times.length)
    (hb : k < bytes.length) :
    ((times.zip bytes).take (k + 1)).foldl (fun l p => l.receive p.1 p.2) l
      = (((times.zip bytes).take k).foldl (fun l p => l.receive p.1 p.2) l).receive times[k] (bytes.getD k 0) := by
  rw [List.take_succ_eq_append_getElem (by simp; omega), List.foldl_append]
  simp [hb]

/-- The first bytes of a frame, one after another. -/
theorem foldl_receive_take {l : LineIf} {kind : Byte} {body : List Byte} {times : List Nat} {k : Nat}
    (hn : body.length ≤ 1024) (ha : l.assembly = .hunt) (hs : l.stored = [])
    (hfill : l.fill + (body.length + 6) ≤ 4096) (ht : times.length = body.length + 6) (hk : k ≤ body.length + 5) :
    ∃ time, ((times.zip (frameBytes kind body)).take k).foldl (fun l p => l.receive p.1 p.2) l
      = l.partly kind body k time := by
  induction k with
  | zero => exact ⟨l.lastByteAt, by simp [LineIf.partly, ← hs, assemblyAt, ← ha]⟩
  | succ k ih =>
    obtain ⟨time, ih⟩ := ih (by omega)
    refine ⟨times[k], ?_⟩
    rw [foldl_receive_succ (by omega) (by simp; omega), ih,
      LineIf.receive_partly_before_last hn hs hfill (by omega)]

/-- Settles O15: byte after byte the frame's beginning stands in the assembly, and the last byte, whose check agrees, puts
the frame into the buffer. -/
theorem frameIsAssembledFromItsBytes : Obligations.FrameIsAssembledFromItsBytes := by
  unfold Obligations.FrameIsAssembledFromItsBytes
  intro l kind body times ha hs ho hn hfill ht
  have hall : (times.zip (frameBytes kind body)).take (body.length + 5 + 1) = times.zip (frameBytes kind body) :=
    List.take_of_length_le (by simp [ht])
  obtain ⟨time, hbefore⟩ := foldl_receive_take (kind := kind) hn ha hs hfill ht (le_refl (body.length + 5))
  have hlast : times.getLast? = some times[body.length + 5] := by simp [List.getLast?_eq_getElem?, ht]
  rw [← hall, foldl_receive_succ (by omega) (by simp), hbefore, LineIf.receive_partly_last hn ha hs hfill, hlast]
  rfl

/-! ### Transmission (R184) -/

/-- The next byte of the output queue begun where it can. -/
theorem State.beginSending_eq (s : State) :
    s.beginSending = { s with
      line := { s.line with
        sending := if s.line.sending = none ∧ s.lines.rts = true ∧ s.line.output ≠ [] then some s.now
          else s.line.sending } } := by
  unfold State.beginSending
  split <;> rfl

/-- Settles O16. -/
theorem transmissionFollowsRequestToSend : Obligations.TransmissionFollowsRequestToSend := by
  unfold Obligations.TransmissionFollowsRequestToSend
  refine ⟨fun high s u hu hrun => ?_, fun straps s u began ended hu hrun hsend hended hmark => ?_⟩
  · refine exec_event_running (f := State.seeRts high) rfl hu ?_ hrun
    have hr : u.isRunning = true := by simp [State.isRunning, hrun]
    rw [State.seeRts]
    simp only [State.isRunning, hrun, decide_true, if_true, State.beginSending_eq]
  · refine exec_event_running (f := State.sendByte straps) rfl hu ?_ hrun
    subst hended
    unfold State.sendByte
    rw [hsend]
    dsimp only
    cases hr : u.line.restart with
    | none => simp [State.atLeast, hr, State.beginSending_eq]
    | some m =>
      have hm := hmark m hr
      simp [State.atLeast, hr, State.beginSending_eq, show ¬ m.bytes ≤ 1 by omega]

end Sys2Proof.Machine
end


section
/-! SUPPORT. The Request Decoder: heads taken and answered, and the requests about the line and the part (sections 9.4 to
9.8). -/

set_option Elab.async false

namespace Sys2Proof.Machine

/-! ### Requests refused by the Decoder (R186) -/

theorem isUploadRequest_iff (kind : Byte) : isUploadRequest kind = true ↔ kind = 0x02 ∨ kind = 0x03 := by
  simp [isUploadRequest]

theorem isUploadRequest_byte {code : Nat} (h : code < 256) : isUploadRequest (byte code) = true ↔ code = 2 ∨ code = 3 := by
  constructor
  · intro hup
    by_contra hne
    rw [not_or] at hne
    rw [not_upload h hne.1 hne.2] at hup
    cases hup
  · rintro (rfl | rfl) <;> rfl

theorem requestRun_of_requestCode {c : Instr} {code : Nat} (h : requestCode c = some code) :
    ∃ run, requestRun c = some (code, run) := by
  cases c <;> cases h <;> exact ⟨_, rfl⟩

/-- A request in execution refused by the Decoder: the upload idle timer restarts where the request stops it (R52). -/
theorem State.begun_refuse_eq {u : State} {code : Nat} (reason : Reason) (detail : Nat) :
    (u.begun (byte code)).refuse reason detail
      = u.answered code (refusedReply code reason detail)
          (if isUploadRequest (byte code) = true then u.startUploadTimer else u) := by
  cases hup : isUploadRequest (byte code) with
  | false =>
    rw [State.begun_eq hup, State.refuse_eq_answered u (u.headGone code) code reason detail rfl rfl rfl rfl hup]
    rfl
  | true =>
    have hbegun : u.begun (byte code) = (u.headGone code).stopUploadTimer := by rw [State.begun, hup]; rfl
    rw [hbegun, State.refuse_eq_replied u (u.headGone code).stopUploadTimer code reason detail rfl rfl rfl rfl, hup]
    simp [State.answered, State.replied, State.startUploadTimer, State.stopUploadTimer, State.headGone,
      Function.comp_def]

/-! ### Notices before the Decoder (R185) -/

/-- A frame placed leaves the input side of the line. -/
theorem State.place_line_input (frame : List Byte) (s : State) :
    (s.place frame).line.input = s.line.input ∧ (s.place frame).line.restart = s.line.restart
      ∧ (s.place frame).line.output = s.line.output ++ frame := by
  unfold State.place State.beginSending
  split <;> exact ⟨rfl, rfl, rfl⟩

theorem State.placeJobEnd_line (s : State) :
    s.placeJobEnd.line.input = s.line.input ∧ s.placeJobEnd.line.restart = s.line.restart
      ∧ s.line.output.length ≤ s.placeJobEnd.line.output.length := by
  unfold State.placeJobEnd
  repeat' split
  · rename_i j _ _
    obtain ⟨h1, h2, h3⟩ := s.place_line_input (jobEndFrame j)
    simp [h1, h2, h3]
  all_goals exact ⟨rfl, rfl, le_refl _⟩

theorem placeJobEnds_line (n : Nat) (s : State) :
    (placeJobEnds n s).line.input = s.line.input ∧ (placeJobEnds n s).line.restart = s.line.restart
      ∧ s.line.output.length ≤ (placeJobEnds n s).line.output.length := by
  induction n generalizing s with
  | zero => exact ⟨rfl, rfl, le_refl _⟩
  | succ n ih =>
    obtain ⟨h1, h2, h3⟩ := s.placeJobEnd_line
    obtain ⟨k1, k2, k3⟩ := ih s.placeJobEnd
    exact ⟨k1.trans h1, k2.trans h2, h3.trans k3⟩

theorem State.placeEngine_line (s : State) :
    s.placeEngine.line.input = s.line.input ∧ s.placeEngine.line.restart = s.line.restart := by
  unfold State.placeEngine
  repeat' split
  · exact ⟨(s.place_line_input _).1, (s.place_line_input _).2.1⟩
  all_goals exact ⟨rfl, rfl⟩

/-- The notices leave the Decoder, the input buffer and the RESTART mark. -/
theorem State.placeNotices_frame (s : State) :
    s.placeNotices.dec = s.dec ∧ s.placeNotices.line.input = s.line.input
      ∧ s.placeNotices.line.restart = s.line.restart := by
  obtain ⟨h1, h2, -⟩ := placeJobEnds_line s.queue.ending.length s
  obtain ⟨k1, k2⟩ := (placeJobEnds s.queue.ending.length s).placeEngine_line
  exact ⟨by simp [State.placeNotices], k1.trans h1, k2.trans h2⟩

theorem State.placeNotices_of_none {s : State} (he : s.queue.ending = []) (hn : s.media.notice = none) :
    s.placeNotices = s := by
  rw [State.placeNotices, he, List.length_nil, placeJobEnds]
  simp [State.placeEngine, hn]

theorem State.placeEngine_of_ending {s : State} {tag : Nat} {later : List Nat} (he : s.queue.ending = tag :: later) :
    s.placeEngine = s := by
  unfold State.placeEngine
  split <;> simp [he]

/-- A JOB_END notice without room keeps every claim behind it waiting. -/
theorem State.placeNotices_of_jobEnd {s : State} {tag : Nat} {later : List Nat} {j : Job}
    (he : s.queue.ending = tag :: later) (hj : s.queue.job tag = some j)
    (hroom : s.freeRoom < (jobEndFrame j).length) : s.placeNotices = s := by
  have hone : s.placeJobEnd = s := by
    unfold State.placeJobEnd
    simp [he, hj, hroom]
  have hall : ∀ n, placeJobEnds n s = s := by
    intro n
    induction n with
    | zero => rfl
    | succ n ih => rw [placeJobEnds, hone, ih]
  rw [State.placeNotices, hall, State.placeEngine_of_ending he]

theorem State.placeJobEnds_notice (n : Nat) (s : State) : (placeJobEnds n s).media.notice = s.media.notice := by
  have hone : ∀ x : State, x.placeJobEnd.media.notice = x.media.notice := fun x => by
    unfold State.placeJobEnd
    repeat' split
    · simp only [State.place, State.beginSending]
      split <;> rfl
    all_goals rfl
  induction n generalizing s with
  | zero => rfl
  | succ n ih => exact (ih s.placeJobEnd).trans (hone s)

/-- An ENGINE notice without room stays pending. -/
theorem State.placeNotices_notice {s : State} {n : EngineNotice} (hn : s.media.notice = some n)
    (hroom : s.freeRoom < (engineFrame n).length) : s.placeNotices.media.notice = some n := by
  have hnotice := (State.placeJobEnds_notice s.queue.ending.length s).trans hn
  obtain ⟨-, -, hout⟩ := placeJobEnds_line s.queue.ending.length s
  have hless : (placeJobEnds s.queue.ending.length s).freeRoom ≤ s.freeRoom := by
    simp only [State.freeRoom, State.placeJobEnds_dec]
    omega
  rw [State.placeNotices, State.placeEngine, hnotice]
  simp only [show ¬ (engineFrame n).length ≤ (placeJobEnds s.queue.ending.length s).freeRoom by omega, and_false,
    if_false, hnotice]

/-! ### The Decoder's claim (R185, R186) -/

/-- What the head of the input buffer needs for its claim to be granted. -/
theorem State.grantable_of_head {s : State} {head : InItem} {rest : List InItem} (hin : s.line.input = head :: rest)
    (hrun : s.mode = .running) (hrestart : s.line.restart = none) (hwait : s.dec.state = .waiting)
    (he : s.queue.ending = []) (hn : s.media.notice = none) (hroom : replyBound head ≤ s.freeRoom) :
    s.grantable = some head := by
  simp [State.grantable, hin, State.mayNotify, State.isRunning, hrun, hrestart, hwait, he, hn, hroom]

theorem State.grantable_of_not_waiting {s : State} (h : s.dec.state ≠ .waiting) : s.grantable = none := by
  unfold State.grantable
  split <;> simp [h]

theorem State.grantable_of_not_mayNotify {s : State} (h : s.mayNotify = false) : s.grantable = none := by
  unfold State.grantable
  split <;> simp [h]

theorem State.grantable_of_notice {s : State} {n : EngineNotice} (h : s.media.notice = some n) : s.grantable = none := by
  unfold State.grantable
  split <;> simp [h]

theorem State.grantable_of_ending {s : State} {tag : Nat} {later : List Nat} (h : s.queue.ending = tag :: later) :
    s.grantable = none := by
  unfold State.grantable
  split <;> simp [h]

theorem State.grantable_of_no_room {s : State} {head : InItem} {rest : List InItem} (hin : s.line.input = head :: rest)
    (h : s.freeRoom < replyBound head) : s.grantable = none := by
  simp [State.grantable, hin, h]

/-- With the Decoder's claim not granted, only the notices are placed. -/
theorem State.grantRoom_of_not_grantable {s : State} (h : s.placeNotices.grantable = none) :
    s.grantRoom = s.placeNotices := State.grantHeads_of_none h _

theorem State.answerMark_of_not_grantable {s : State} (h : s.grantable = none) : s.answerMark = s := by
  simp [State.answerMark, h]

/-- A frame whose claim is granted is in execution, and no further head is taken. -/
theorem State.grantRoom_of_frame {s : State} {kind : Byte} {body : List Byte} (he : s.queue.ending = [])
    (hn : s.media.notice = none) (hg : s.grantable = some (.frame kind body)) :
    s.grantRoom = s.takeHead (.frame kind body) := by
  have hexecuting : (s.takeHead (.frame kind body)).dec.state ≠ .waiting := by
    unfold State.takeHead
    dsimp only
    split <;> simp [State.stopUploadTimer]
  rw [State.grantRoom, State.placeNotices_of_none he hn, grantHeads, State.grantHead, hg,
    State.grantHeads_of_none (State.grantable_of_not_waiting hexecuting)]

/-- A NAK mark whose claim is granted is answered at once. -/
theorem State.answerMark_of_grantable {s w : State} {cause : NakCause} {merged : Nat}
    (hg : s.grantable = some (.mark cause merged)) (hw : w = { s with line := s.line.headTaken }) :
    s.answerMark = w.replied 0 (nakReply cause merged) w := by
  subst hw
  rw [State.answerMark, hg]
  exact State.reply_eq_replied (u := { s with line := s.line.headTaken }) (v := s.takeHead (.mark cause merged))
    (code := 0) (kind := 0x82) rfl rfl rfl rfl

/-- Settles O17. -/
theorem unanswerableHeadsRefused : Obligations.UnanswerableHeadsRefused := by
  unfold Obligations.UnanswerableHeadsRefused
  refine ⟨fun c code body s u hc hu hhead hlen => ?_, fun s u kind body hu hhead hrow => ?_,
    fun s w head rest hin hw => ⟨fun hrun hrestart hwait he hn hroom => ⟨?_, ?_⟩, fun h => ?_, fun n hn hroom => ?_,
      fun tag later j he hj hroom => ?_, fun n he hn hroom => ?_⟩⟩
  · obtain ⟨run, hr⟩ := requestRun_of_requestCode hc
    have hcode := requestRun_code_lt hr
    obtain ⟨hrun, -, -⟩ := State.headItem_some hhead
    have hon : u.onRequest code run = (u.begun (byte code)).refuse .badLength 0 := by
      simp [State.onRequest, hhead, byte_toNat hcode, hlen]
    rw [exec_of_requestRun hr, State.after, hu, hon, State.checkEngineStep_running (by simpa using hrun),
      State.begun_refuse_eq]
    simp only [isUploadRequest_byte hcode]
  · obtain ⟨hrun, -, -⟩ := State.headItem_some hhead
    have hkind : byte kind.toNat = kind := by simp [byte]
    refine exec_event_running (f := State.refuseUnknown) rfl hu ?_ hrun
    have hup : isUploadRequest kind = false := by
      by_contra hne
      rw [Bool.not_eq_false, isUploadRequest_iff] at hne
      obtain rfl | rfl := hne <;> cases hrow
    have href : u.refuseUnknown = (u.begun (byte kind.toNat)).refuse .unknownKind 0 := by
      simp [State.refuseUnknown, hhead, hrow, hkind]
    rw [href, State.begun_refuse_eq, hkind, hup]
    rfl
  · rintro kind body rfl
    rw [State.grantRoom_of_frame he hn (State.grantable_of_head hin hrun hrestart hwait he hn hroom), hw]
    simp only [← isUploadRequest_iff]
    unfold State.takeHead
    dsimp only
    split <;> rfl
  · rintro cause merged rfl
    have hg := State.grantable_of_head hin hrun hrestart hwait he hn hroom
    rw [exec_of_dueEffect (f := fun s => s.placeNotices.answerMark) rfl, State.placeNotices_of_none he hn,
      State.answerMark_of_grantable hg hw]
  · obtain ⟨hdec, hinput, hmark⟩ := s.placeNotices_frame
    have hnone : s.placeNotices.grantable = none := by
      rcases h with h | h | h | ⟨he, hn, hroom⟩
      · exact State.grantable_of_not_mayNotify (by simp [State.mayNotify, State.isRunning, h])
      · have hsome : s.line.restart.isNone = false := by
          rw [Option.isNone_eq_false_iff]
          exact Option.isSome_iff_ne_none.mpr h
        exact State.grantable_of_not_mayNotify (by simp [State.mayNotify, hmark, hsome])
      · exact State.grantable_of_not_waiting (by rwa [hdec])
      · rw [State.placeNotices_of_none he hn]
        exact State.grantable_of_no_room hin hroom
    rw [State.grantRoom_of_not_grantable hnone]
    refine ⟨hdec, hinput, fun he hn => ?_⟩
    rw [exec_of_dueEffect (f := fun s => s.placeNotices.answerMark) rfl, State.answerMark_of_not_grantable hnone,
      State.placeNotices_of_none he hn]
  · obtain ⟨hdec, hinput, -⟩ := s.placeNotices_frame
    rw [State.grantRoom_of_not_grantable (State.grantable_of_notice (State.placeNotices_notice hn hroom))]
    exact ⟨hdec, hinput⟩
  · have hsame := State.placeNotices_of_jobEnd he hj hroom
    have hnone := State.grantable_of_ending he
    refine ⟨?_, ?_, ?_⟩
    · rw [State.grantRoom_of_not_grantable (by rwa [hsame]), hsame]
    · rw [exec_of_dueEffect (f := fun s => s.placeNotices.answerMark) rfl, hsame,
        State.answerMark_of_not_grantable hnone]
    · rw [exec_of_dueEffect (f := State.placeEngine) rfl, State.placeEngine_of_ending he]
  · have hsame : s.placeNotices = s := by
      rw [State.placeNotices, he, List.length_nil, placeJobEnds]
      simp [State.placeEngine, hn, hroom]
    have hnone := State.grantable_of_notice hn
    refine ⟨?_, ?_⟩
    · rw [State.grantRoom_of_not_grantable (by rwa [hsame]), hsame]
    · rw [exec_of_dueEffect (f := fun s => s.placeNotices.answerMark) rfl, hsame,
        State.answerMark_of_not_grantable hnone]

/-! ### STATUS, STATUS_CLEAR and RESTART (R188 to R191) -/

/-- The state `u` with what the input buffer holds discarded (R191). -/
def State.inputDiscarded (u : State) : State :=
  { u with line := { u.line with input := [], stored := [], assembly := .hunt, overrun := none } }

/-- RESTART's own rule: its reply, with the input discarded, then CTS low and the mark set. -/
theorem State.runRestart_eq (u : State) (code : Nat) :
    (u.headGone code).runRestart = { (u.inputDiscarded.headGone code).ok [] with
      line := { ((u.inputDiscarded.headGone code).ok []).line with
        cts := false
        restart := some
          { bytes := ((u.inputDiscarded.headGone code).ok []).line.output.length
            placed := ((u.inputDiscarded.headGone code).ok []).now } } } := rfl

/-- Settles O18. -/
theorem statusAndRestartAnswered : Obligations.StatusAndRestartAnswered := by
  unfold Obligations.StatusAndRestartAnswered
  refine ⟨⟨fun s u body hu ha => ?_, fun s u mask flags hu ha hf => ?_⟩, fun s u body output hu ha ho => ?_⟩
  · exact exec_answered ((u.headGone 0x38).setEvent .noChange) rfl rfl hu ha rfl
  · subst hf
    by_cases hm : mask.getLsbD 7 = true
    · rw [if_pos hm]
      exact exec_refused rfl rfl hu ha (if_pos hm)
    · rw [if_neg hm]
      exact exec_answered ((u.headGone 0x39).clearSticky mask) rfl rfl hu ha (if_neg hm)
  · rw [exec_request_headGone (c := .restart) rfl rfl hu ha, ho]
    rw [State.runRestart_eq, State.ok_eq_answered u.inputDiscarded (u.inputDiscarded.headGone 0x3A) 0x3A [] rfl rfl rfl rfl rfl]
    simp [State.answered, State.replied, State.inputDiscarded, State.headGone]
    rfl

end Sys2Proof.Machine
end


section
/-! SUPPORT. A request's own rule on the state in which it runs, and the operations of the Record Store that its rules use
(chapters 1 and 3). -/

set_option Elab.async false

namespace Sys2Proof.Machine

/-! ### The state in which a request's rule runs -/

section
variable (u : State) (code : Nat)

@[simp] theorem State.headGone_store : (u.headGone code).store = u.store := rfl
@[simp] theorem State.headGone_queue : (u.headGone code).queue = u.queue := rfl
@[simp] theorem State.headGone_battery : (u.headGone code).battery = u.battery := rfl
@[simp] theorem State.headGone_media : (u.headGone code).media = u.media := rfl
@[simp] theorem State.headGone_flash : (u.headGone code).flash = u.flash := rfl
@[simp] theorem State.headGone_dec_kind (u : State) (code : Nat) : (u.headGone code).dec.kind = byte code := rfl
@[simp] theorem State.headGone_lines : (u.headGone code).lines = u.lines := rfl
@[simp] theorem State.headGone_mode : (u.headGone code).mode = u.mode := rfl
@[simp] theorem State.headGone_render : (u.headGone code).render = u.render := rfl
@[simp] theorem State.headGone_line : (u.headGone code).line = u.line := rfl
@[simp] theorem State.headGone_now : (u.headGone code).now = u.now := rfl

end

/-- A request other than RECORD_DATA and RECORD_END whose first effect `v` issues an access. -/
theorem exec_taken {c : Instr} {code : Nat} {run : List Byte → State → State} {s u : State} {body : List Byte}
    {op : AccessOp} {work : Work} (v : State) (h : requestRun c = some (code, run))
    (hup : isUploadRequest (byte code) = false) (hu : s.settle = u) (ha : u.asks code body)
    (hr : run body (u.headGone code) = v.decoderIssue op work)
    (hdec : v.dec = (u.headGone code).dec := by rfl) :
    exec c s = .next (u.taken code work { v with array := v.array.arrive v.now { client := .decoder, op := op } }) := by
  rw [exec_request_headGone h hup hu ha, hr]
  simp [State.decoderIssue, State.await, State.issue, State.taken, hdec, State.headGone]

/-- A request that stops the upload idle timer runs with the timer stopped (R52). -/
theorem exec_request_upload {c : Instr} {code : Nat} {run : List Byte → State → State} {s u : State}
    {body : List Byte} (h : requestRun c = some (code, run)) (hup : isUploadRequest (byte code) = true)
    (hu : s.settle = u) (ha : u.asks code body) : exec c s = .next (run body (u.headGone code).stopUploadTimer) := by
  rw [exec_request h hu ha, State.begun, hup]
  rfl

theorem State.stopUploadTimer_of_none {u : State} (h : u.store.upload = none) : u.stopUploadTimer = u := by
  rw [State.stopUploadTimer, h, Option.map_none, ← h]

theorem State.startUploadTimer_of_none {u : State} (h : u.store.upload = none) : u.startUploadTimer = u := by
  rw [State.startUploadTimer, h, Option.map_none, ← h]

/-- RECORD_DATA or RECORD_END refused: the idle timer restarts (R52). -/
theorem exec_refused_upload {c : Instr} {code : Nat} {run : List Byte → State → State} {s u : State} {body : List Byte}
    {reason : Reason} {detail : Nat} (h : requestRun c = some (code, run)) (hup : isUploadRequest (byte code) = true)
    (hu : s.settle = u) (ha : u.asks code body)
    (hr : run body (u.headGone code).stopUploadTimer = (u.headGone code).stopUploadTimer.refuse reason detail) :
    exec c s = .next (u.answered code (refusedReply code reason detail) u.startUploadTimer) := by
  have hbegun : u.begun (byte code) = (u.headGone code).stopUploadTimer := by rw [State.begun, hup]; rfl
  rw [exec_request_upload h hup hu ha, hr, ← hbegun, State.begun_refuse_eq, hup]
  rfl

/-- RECORD_DATA or RECORD_END taken, its timer stopped and its first access issued. -/
theorem exec_taken_upload {c : Instr} {code : Nat} {run : List Byte → State → State} {s u : State} {body : List Byte}
    {op : AccessOp} {work : Work} {up : Upload} (h : requestRun c = some (code, run))
    (hup : isUploadRequest (byte code) = true) (hu : s.settle = u) (ha : u.asks code body)
    (hopen : u.store.upload = some up)
    (hr : run body (u.headGone code).stopUploadTimer = (u.headGone code).stopUploadTimer.decoderIssue op work) :
    exec c s = .next
      (u.taken code work
        { u with
          store := { u.store with upload := some { up with timer := none } }
          array := u.array.arrive u.now { client := .decoder, op := op } }) := by
  rw [exec_request_upload h hup hu ha, hr]
  simp [State.decoderIssue, State.await, State.issue, State.taken, State.headGone, State.stopUploadTimer, hopen]

/-! ### The sector map (R9 to R11) -/

/-- A sector set to another state than FREE reads so, and every other as before. -/
theorem sectorState_setSector {v : SectorState} (hv : v ≠ .free) (m : List (Nat × SectorState)) (k n : Nat) :
    sectorState (setSector m k v) n = if n = k then v else sectorState m n := by
  induction m with
  | nil => simp [setSector, hv, sectorState, eq_comm]
  | cons c rest ih =>
    obtain ⟨j, w⟩ := c
    unfold setSector
    split
    · simp [sectorState, eq_comm]
    · split
      · rename_i hkj
        simp only [sectorState, hkj]
        by_cases hn : n = j <;> simp [hn, eq_comm]
      · rename_i hlt hne
        simp only [sectorState, ih]
        by_cases hn : j = n
        · subst hn
          simp [Ne.symm hne]
        · simp [hn]

theorem sectorState_setSectors {v : SectorState} (hv : v ≠ .free) (m : List (Nat × SectorState)) (ns : List Nat)
    (n : Nat) : sectorState (setSectors m ns v) n = if n ∈ ns then v else sectorState m n := by
  unfold setSectors
  induction ns generalizing m with
  | nil => simp
  | cons k ns ih =>
    rw [List.foldl_cons, ih, sectorState_setSector hv]
    by_cases hn : n ∈ ns <;> by_cases hk : n = k <;> simp [hn, hk]

/-- A run of FREE sectors from a sector on. -/
theorem freeRun_all_iff (m : List (Nat × SectorState)) (f n : Nat) :
    ((extentSectors f n).all fun i => decide (sectorState m i = .free)) = true ↔
      ∀ i < n, sectorState m (f + i) = .free := by
  simp [extentSectors]

theorem freeRun_eq_some {m : List (Nat × SectorState)} {n f : Nat} (h : freeRun m n = some f) (hn : n ≤ 2048) :
    f + n ≤ 2048 ∧ (∀ i < n, sectorState m (f + i) = .free) ∧ ∀ g < f, ∃ i < n, sectorState m (g + i) ≠ .free := by
  rw [freeRun, List.find?_range_eq_some, freeRun_all_iff, List.mem_range] at h
  obtain ⟨hfree, hlt, hbefore⟩ := h
  refine ⟨?_, hfree, fun g hg => ?_⟩
  · change f < 2048 + 1 - n at hlt
    omega
  · have := hbefore g hg
    rw [Bool.not_eq_true', ← Bool.not_eq_true, freeRun_all_iff] at this
    push Not at this
    exact this

theorem freeRun_eq_none {m : List (Nat × SectorState)} {n : Nat} (h : freeRun m n = none) {f : Nat}
    (hf : f + n ≤ 2048) : ∃ i < n, sectorState m (f + i) ≠ .free := by
  rw [freeRun, List.find?_range_eq_none] at h
  have := h f (show f < 2048 + 1 - n by omega)
  rw [Bool.not_eq_true', ← Bool.not_eq_true, freeRun_all_iff] at this
  push Not at this
  exact this

/-! ### Names and bodies of the store's requests (R4, R53) -/

theorem recKindOf_eq_some (code : Nat) (k : RecKind) :
    recKindOf code = some k ↔
      (code = 0x46 ∧ k = .format) ∨ (code = 0x47 ∧ k = .image) ∨ (code = 0x53 ∧ k = .table) := by
  unfold recKindOf
  repeat' split
  · subst_vars; simp [eq_comm]
  · subst_vars; simp [eq_comm]
  · subst_vars; simp [eq_comm]
  · simp_all

theorem nameOf_eq_some (body : List Byte) (k : RecKind) (n : Nat) : nameOf body = some (k, n) ↔
    ((num body 0 1 = 0x46 ∧ k = .format) ∨ (num body 0 1 = 0x47 ∧ k = .image) ∨ (num body 0 1 = 0x53 ∧ k = .table))
    ∧ n = num body 1 2 ∧ 1 ≤ n ∧ n ≤ 999 := by
  rw [← recKindOf_eq_some, nameOf]
  cases recKindOf (num body 0 1) with
  | none => simp
  | some kind =>
    simp only [numberOk, decide_eq_true_eq, Option.ite_none_right_eq_some, Option.some.injEq, Prod.mk.injEq]
    constructor
    · rintro ⟨h, rfl, rfl⟩
      exact ⟨rfl, rfl, h⟩
    · rintro ⟨rfl, rfl, h⟩
      exact ⟨h, rfl, rfl⟩

theorem beginOf_eq_some (body : List Byte) (k : RecKind) (n len : Nat) (lock : Bool) :
    beginOf body = some (k, n, len, lock) ↔
      ((num body 0 1 = 0x46 ∧ k = .format) ∨ (num body 0 1 = 0x47 ∧ k = .image) ∨ (num body 0 1 = 0x53 ∧ k = .table))
      ∧ n = num body 1 2 ∧ 1 ≤ n ∧ n ≤ 999 ∧ len = num body 3 2 ∧ 1 ≤ len ∧ len ≤ largestBody k
      ∧ ((num body 5 1 = 0 ∧ lock = false) ∨ (num body 5 1 = 1 ∧ lock = true)) := by
  rw [← recKindOf_eq_some, beginOf]
  cases recKindOf (num body 0 1) with
  | none => simp
  | some kind =>
    have hlock : num body 5 1 ≤ 1 ∧ (num body 5 1 == 1) = lock ↔
        (num body 5 1 = 0 ∧ lock = false) ∨ (num body 5 1 = 1 ∧ lock = true) := by
      cases lock <;> simp <;> omega
    simp only [numberOk, Bool.and_eq_true, decide_eq_true_eq, Option.ite_none_right_eq_some, Option.some.injEq,
      Prod.mk.injEq, ← hlock]
    constructor
    · rintro ⟨⟨⟨h1, h2⟩, h3, h4⟩, rfl, rfl, rfl, rfl⟩
      exact ⟨rfl, rfl, h1.1, h1.2, rfl, h3, h4, h2, rfl⟩
    · rintro ⟨rfl, rfl, h1, h2, rfl, h3, h4, h5, rfl⟩
      exact ⟨⟨⟨⟨h1, h2⟩, h5⟩, h3, h4⟩, rfl, rfl, rfl, rfl⟩

end Sys2Proof.Machine
end


section
/-! SUPPORT. Uploads: RECORD_BEGIN, RECORD_DATA and RECORD_END (sections 3.2 to 3.4). -/

set_option Elab.async false

namespace Sys2Proof.Machine

/-! ### RECORD_BEGIN (R53 to R55) -/

/-- The cases of RECORD_BEGIN are judged on the store alone. -/
theorem State.beginChecks_congr {s t : State} (h : s.store = t.store) (body : List Byte) :
    s.beginChecks body = t.beginChecks body := by
  unfold State.beginChecks
  rw [h]

/-- The lock of the LIVE entry of a name, if it has one. -/
theorem live_lock_iff (st : RecordStore) (k : RecKind) (n : Nat) :
    (st.live k n).any DirEntry.lock = true ↔ ∃ e, st.live k n = some e ∧ e.lock = true := by
  simp [Option.any_eq_true]

theorem live_unlocked {st : RecordStore} {k : RecKind} {n : Nat} (h : ∀ e, st.live k n = some e → e.lock = false) :
    (st.live k n).any DirEntry.lock = false := by
  rw [Bool.eq_false_iff, Ne, live_lock_iff]
  rintro ⟨e, he, hl⟩
  rw [h e he] at hl
  cases hl

theorem runRecordBegin_error {u : State} {body : List Byte} {r : Reason} (h : u.beginChecks body = .error r) :
    (u.headGone 1).runRecordBegin body = (u.headGone 1).refuse r 0 := by
  rw [State.runRecordBegin, State.beginChecks_congr (s := u.headGone 1) (t := u) rfl, h]

/-- RECORD_BEGIN refused by one of its cases. -/
theorem exec_recordBegin_error {s u : State} {body : List Byte} {r : Reason} (hu : s.settle = u)
    (ha : u.asks 0x01 body) (h : u.beginChecks body = .error r) :
    exec .recordBegin s = .next (u.answered 0x01 (refusedReply 0x01 r 0) u) :=
  exec_refused rfl rfl hu ha (runRecordBegin_error h)

/-- Settles O19. -/
theorem recordBeginRefusedOrOpened : Obligations.RecordBeginRefusedOrOpened := by
  unfold Obligations.RecordBeginRefusedOrOpened
  refine ⟨fun s u body hu ha => ⟨fun hopen => ?_, fun hopen => ⟨fun hbody => ?_, fun k n len lock hbody =>
    ⟨fun hlocked => ?_, fun hunlocked => ⟨fun hlimit => ?_, fun hlimit => ⟨fun hfull => ?_, fun f e hf he => ?_⟩⟩⟩⟩⟩,
    fun m n _ hn => ⟨fun f h => freeRun_eq_some h hn, fun h f hf => freeRun_eq_none h hf⟩, fun body k n len lock => ?_⟩
  · exact exec_recordBegin_error hu ha (if_pos (Option.isSome_iff_ne_none.mpr hopen))
  · exact exec_recordBegin_error hu ha (by simp [State.beginChecks, hopen, hbody])
  · have hlocked := (live_lock_iff ..).mpr hlocked
    exact exec_recordBegin_error hu ha (by simp [State.beginChecks, hopen, hbody, hlocked])
  · exact exec_recordBegin_error hu ha (by
      simp [State.beginChecks, hopen, hbody, live_unlocked hunlocked, hlimit])
  · exact exec_recordBegin_error hu ha (by
      simp [State.beginChecks, hopen, hbody, live_unlocked hunlocked, hlimit, hfull])
  · have hok : u.beginChecks body = .ok e := by
      simp [State.beginChecks, hopen, hbody, live_unlocked hunlocked, hlimit, hf, he]
    have hrun : (u.headGone 1).runRecordBegin body = (u.headGone 1).openUpload e := by
      rw [State.runRecordBegin, State.beginChecks_congr (s := u.headGone 1) (t := u) rfl, hok]
    subst he
    exact exec_taken _ rfl rfl hu ha hrun
  · cases k <;> exact beginOf_eq_some body _ n len lock

/-! ### RECORD_DATA and RECORD_END (R56 to R60) -/

/-- What the pieces of a run of data are: together the data, each of one page, each where the one before it ends (R57). -/
structure PageCut (addr : Nat) (data : List Byte) (pieces : List (Nat × List Byte)) : Prop where
  join : (pieces.flatMap fun p => p.2) = data
  onePage : ∀ p ∈ pieces, p.2 ≠ [] ∧ p.1 / 256 = (p.1 + p.2.length - 1) / 256
  head : ∀ p, pieces.head? = some p → p.1 = addr
  chain : pieces.IsChain fun p q => q.1 = p.1 + p.2.length

theorem PageCut.single {addr : Nat} {data : List Byte} (hne : data ≠ []) (hroom : data.length ≤ 256 - addr % 256) :
    PageCut addr data [(addr, data)] := by
  have hpos := List.length_pos_iff.mpr hne
  refine ⟨by simp, fun p hp => ?_, by simp, by simp⟩
  obtain rfl := List.mem_singleton.mp hp
  exact ⟨hne, by dsimp only; omega⟩

theorem PageCut.cons {addr : Nat} {piece rest : List Byte} {pieces : List (Nat × List Byte)}
    (hlen : piece.length = 256 - addr % 256) (h : PageCut (addr + piece.length) rest pieces) :
    PageCut addr (piece ++ rest) ((addr, piece) :: pieces) := by
  have hne : piece ≠ [] := by
    rw [Ne, ← List.length_eq_zero_iff]
    omega
  refine ⟨by simp [h.join], fun p hp => ?_, by simp, ?_⟩
  · obtain rfl | hp := List.mem_cons.mp hp
    · exact ⟨hne, by dsimp only; omega⟩
    · exact h.onePage p hp
  · rw [List.isChain_cons]
    exact ⟨fun q hq => h.head q hq, h.chain⟩

/-- Data cut at page boundaries (R57). -/
theorem cutPages_pageCut {fuel addr : Nat} {bs : List Byte} (hne : bs ≠ []) (hf : bs.length ≤ fuel) :
    PageCut addr bs (cutPages fuel addr bs) := by
  induction fuel generalizing addr bs with
  | zero => exact absurd (List.length_eq_zero_iff.mp (by omega)) hne
  | succ fuel ih =>
    unfold cutPages
    dsimp only [Config.pageSize]
    split
    · rename_i hroom
      exact .single hne hroom
    · have hlen : (bs.take (256 - addr % 256)).length = 256 - addr % 256 := by simp; omega
      have hrest : PageCut (addr + (bs.take (256 - addr % 256)).length) (bs.drop (256 - addr % 256))
          (cutPages fuel (addr + (256 - addr % 256)) (bs.drop (256 - addr % 256))) := by
        rw [hlen]
        refine ih ?_ (by simp; omega)
        rw [Ne, ← List.length_eq_zero_iff, List.length_drop]
        omega
      have hcons := PageCut.cons hlen hrest
      rwa [List.take_append_drop] at hcons

theorem cutPages_all (addr : Nat) (data : List Byte) : PageCut addr data (cutPages data.length addr data) := by
  by_cases hne : data = []
  · subst hne
    exact ⟨rfl, by simp [cutPages], by simp [cutPages], by simp [cutPages]⟩
  · exact cutPages_pageCut hne (le_refl _)

/-- The upload of a request in execution: as it stood, its timer stopped. -/
@[simp] theorem State.headGone_stopUploadTimer_upload (u : State) (code : Nat) :
    (u.headGone code).stopUploadTimer.store.upload = u.store.upload.map fun up => { up with timer := none } := rfl

/-- Settles O20. -/
theorem recordDataAndEndTaken : Obligations.RecordDataAndEndTaken := by
  unfold Obligations.RecordDataAndEndTaken
  refine ⟨⟨fun s u body hu ha => ⟨fun hopen => ?_, fun up offset len hopen ho hl => ⟨fun hlen => ?_, fun h1 h2 =>
    ⟨fun hseq => ?_, fun hseq => ⟨fun hover => ?_, fun hfits a piece rest hcut => ?_⟩⟩⟩⟩, fun addr data => ?_⟩,
    fun s u body hu ha => ⟨fun hopen => ?_, fun up hopen => ⟨fun hless => ?_, fun p rest hall hpages => ?_⟩⟩⟩
  · have h := exec_refused_upload (c := .recordData) (reason := .noUpload) (detail := 0) rfl rfl hu ha
      (by simp [State.runRecordData, hopen])
    rwa [State.startUploadTimer_of_none hopen] at h
  · exact exec_refused_upload rfl rfl hu ha (by
      simp only [State.runRecordData, State.headGone_stopUploadTimer_upload, hopen, Option.map_some, List.length_drop,
        ← hl, hlen, if_true])
  · subst ho hl
    exact exec_refused_upload rfl rfl hu ha (by
      simp only [State.runRecordData, State.headGone_stopUploadTimer_upload, hopen, Option.map_some, List.length_drop]
      rw [if_neg (by omega), if_pos hseq])
  · subst ho hl
    exact exec_refused_upload rfl rfl hu ha (by
      simp only [State.runRecordData, State.headGone_stopUploadTimer_upload, hopen, Option.map_some, List.length_drop]
      rw [if_neg (by omega), if_neg (by omega), if_pos hover])
  · subst ho hl
    refine exec_taken_upload rfl rfl hu ha hopen ?_
    simp only [State.runRecordData, State.headGone_stopUploadTimer_upload, hopen, Option.map_some, List.length_drop]
    rw [if_neg (by omega), if_neg (by omega), if_neg (by omega)]
    have hcut' : cutPages (body.length - 2) (bodyAddr up.firstSector (num body 0 2)) (body.drop 2)
        = (a, piece) :: rest := hcut
    rw [hcut']
  · exact ⟨(cutPages_all addr data).join, (cutPages_all addr data).onePage, (cutPages_all addr data).head,
      (cutPages_all addr data).chain⟩
  · have h := exec_refused_upload (c := .recordEnd) (reason := .noUpload) (detail := 0) rfl rfl hu ha
      (by simp [State.runRecordEnd, hopen])
    rwa [State.startUploadTimer_of_none hopen] at h
  · exact exec_refused_upload rfl rfl hu ha (by simp [State.runRecordEnd, hopen, hless])
  · exact exec_taken_upload rfl rfl hu ha hopen (by simp [State.runRecordEnd, hopen, Nat.not_lt.mpr hall, hpages])

end Sys2Proof.Machine
end


section
/-! SUPPORT. Uploads abandoned, records retired, the read-only requests and wipes (sections 1.10, 3.5 to 3.8). -/

set_option Elab.async false

namespace Sys2Proof.Machine

/-! ### Entries that become DEAD (R7, R65) -/

/-- An entry that becomes DEAD leaves the directory, and no other does. -/
theorem RecordStore.mem_kill_directory (dead : List DirEntry) (st : RecordStore) (e : DirEntry) :
    e ∈ (st.kill dead).directory ↔ e ∈ st.directory ∧ e ∉ dead := by
  simp [RecordStore.kill]

theorem RecordStore.kill_sectorState (dead : List DirEntry) (st : RecordStore) (n : Nat) :
    sectorState (st.kill dead).sectorMap n
      = if n ∈ (bySector dead).flatMap fun e => extentSectors e.firstSector e.extentLen then .queued
        else sectorState st.sectorMap n :=
  sectorState_setSectors (by decide) _ _ _

theorem RecordStore.mem_abandon_directory (st : RecordStore) (e : DirEntry) :
    e ∈ st.abandon.directory ↔ e ∈ st.directory ∧ e.state ≠ .writing := by
  change e ∈ (st.kill _).directory ↔ _
  rw [RecordStore.mem_kill_directory, List.mem_filter, decide_eq_true_eq]
  tauto

theorem bySector_singleton (e : DirEntry) : bySector [e] = [e] := rfl

/-- A stale program issued by a request's own rule. -/
theorem State.issueStale_of_entry {s : State} {e : DirEntry} {work : Work} (h : s.store.entry e.ref = some e) :
    s.issueStale e.ref work = s.decoderIssue (.program (sectorBase e.firstSector) staleData) work := by
  simp [State.issueStale, h]

/-- Settles O21. -/
theorem uploadAbandonedAndRecordRetired : Obligations.UploadAbandonedAndRecordRetired := by
  unfold Obligations.UploadAbandonedAndRecordRetired
  refine ⟨⟨fun s u body hu ha => ⟨fun hopen => ?_, fun up hopen => ?_⟩, fun s u up began hu hrun hopen ht => ?_,
    fun st dead sectors hd hsec => ?_⟩, nameOf_eq_some, fun s u body hu ha => ⟨fun hname => ?_, fun k n hname =>
    ⟨fun hlive => ?_, fun e hlive => ⟨fun hlock => ?_, fun hlock hentry => ?_⟩⟩⟩⟩
  · exact exec_refused rfl rfl hu ha (by simp [State.runRecordAbandon, hopen])
  · exact exec_answered (u.headGone 4).abandonUpload rfl rfl hu ha (by simp [State.runRecordAbandon, hopen])
  · refine exec_event_running (f := State.timeOutUpload) rfl hu ?_ hrun
    obtain ⟨k, n, r, f, l, rec, t⟩ := up
    obtain rfl : t = some began := ht
    have hr : u.isRunning = true := by simp [State.isRunning, hrun]
    simp only [State.timeOutUpload, hopen, hr, if_true]
    rfl
  · subst hd hsec
    refine ⟨rfl, rfl, st.mem_abandon_directory, rfl, st.kill_sectorState _, fun e he => ?_⟩
    simp [he, bySector_singleton, extentSectors]
  · exact exec_refused rfl rfl hu ha (by simp [State.runRecordRetire, hname])
  · exact exec_refused rfl rfl hu ha (by simp [State.runRecordRetire, hname, hlive])
  · exact exec_refused rfl rfl hu ha (by simp [State.runRecordRetire, hname, hlive, hlock])
  · refine exec_taken (u.headGone 5) rfl rfl hu ha ?_
    simp only [State.runRecordRetire, hname, State.headGone_store, hlive, hlock, Bool.false_eq_true, if_false]
    exact State.issueStale_of_entry hentry

/-! ### Requests that only report (R24 to R26, R119) -/

/-- Settles O22. -/
theorem queriesOnlyAnswer : Obligations.QueriesOnlyAnswer := by
  unfold Obligations.QueriesOnlyAnswer
  refine ⟨⟨fun s u body hu ha => ⟨fun hname => ?_, fun k n found order hname hf => ⟨fun hnone => ?_, fun hsome ho => ?_⟩⟩,
    fun s u body hu ha => ⟨fun hname => ?_, fun k start numbers hname hn => ?_⟩, fun s u body hu ha => ?_⟩,
    fun s u body tag hu ha ht => ⟨fun hjob => ?_, fun j mine hjob hm => ?_⟩, fun s u body hu ha => ?_⟩
  · exact exec_refused rfl rfl hu ha (by simp [State.runRecordQuery, hname])
  · subst hf
    exact exec_refused rfl rfl hu ha (by simp only [State.runRecordQuery, hname, State.headGone_store, hnone, if_true])
  · subst hf ho
    exact exec_answered (u.headGone 6) rfl rfl hu ha (by
      simp only [State.runRecordQuery, hname, State.headGone_store, hsome, if_false])
  · exact exec_refused rfl rfl hu ha (by simp [State.runDirectoryList, hname])
  · subst hn
    exact exec_answered (u.headGone 7) rfl rfl hu ha (by simp only [State.runDirectoryList, hname, State.headGone_store])
  · exact exec_answered (u.headGone 8) rfl rfl hu ha rfl
  · subst ht
    exact exec_refused rfl rfl hu ha (by simp [State.runJobQuery, hjob])
  · subst ht hm
    exact exec_answered (u.headGone 36) rfl rfl hu ha (by simp only [State.runJobQuery, State.headGone_queue, hjob])
  · refine exec_answered (u.headGone 37) rfl rfl hu ha ?_
    cases hlast : u.queue.last <;> simp [State.runQueueList, hlast]

/-! ### STORE_WIPE (R71, R72) -/

/-- A STORE_WIPE that no case refuses begins its stale programs (R71, R72). -/
theorem runStoreWipe_of_free {u : State} (hjobs : u.queue.jobs = []) (htickets : u.queue.tickets = [])
    (hrep : u.queue.reprint = false) (heng : u.media.engine = .idle ∨ u.media.engine = .off) :
    (u.headGone 9).runStoreWipe true
      = (u.headGone 9).wipeNext ((bySector (u.store.directory.filter fun e => decide (e.state = .live))).map DirEntry.ref) 0 := by
  have hmay : ¬ (u.queue.reprint = true ∨ (u.media.engine ≠ .idle ∧ u.media.engine ≠ .off)) := by
    rintro (h | ⟨h1, h2⟩)
    · rw [hrep] at h
      cases h
    · exact heng.elim h1 h2
  simp only [State.runStoreWipe, State.headGone_queue, State.headGone_media, State.headGone_store, hjobs, htickets, hmay]
  rfl

/-- Settles O23. -/
theorem storeWipeRefusedOrBegun : Obligations.StoreWipeRefusedOrBegun := by
  unfold Obligations.StoreWipeRefusedOrBegun
  intro service s u body lives hu ha hl
  refine ⟨fun hs => ?_, fun hs => ⟨fun huse => ?_, fun hjobs htickets => ⟨fun hbusy => ?_, fun hrep heng =>
    ⟨fun hnone => ?_, fun e rest hlives hentry => ?_⟩⟩⟩⟩
  all_goals subst hs
  · exact exec_refused rfl rfl hu ha (by simp [State.runStoreWipe])
  · exact exec_refused rfl rfl hu ha (by simp [State.runStoreWipe, huse])
  · exact exec_refused rfl rfl hu ha (by simp [State.runStoreWipe, hjobs, htickets, hbusy])
  · have hrun := runStoreWipe_of_free hjobs htickets hrep heng
    rw [← hl, hnone] at hrun
    exact exec_answered { u.headGone 9 with
      store := { u.store.kill u.store.directory with index := [], upload := none }
      queue := { u.queue with last := none } } rfl rfl hu ha hrun
  · have hrun := runStoreWipe_of_free hjobs htickets hrep heng
    rw [← hl, hlives] at hrun
    exact exec_taken (u.headGone 9) rfl rfl hu ha (hrun.trans (State.issueStale_of_entry hentry))

end Sys2Proof.Machine
end


section
/-! SUPPORT. The ends of accesses (section 1.1), and what the request in execution does at the end of one of its own
(sections 3.2 to 3.9 and 5.2). -/

set_option Elab.async false

namespace Sys2Proof.Machine

/-! ### The end of an access -/

section
variable {s u : State} {client : Client} {addr began : Nat} {data : List Byte}

theorem exec_pageReadEnd {page : Nat} (hu : s.settle = u)
    (hbusy : u.array.busy = some { access := { client := client, op := .read page }, started := began })
    (hpage : page < 32768) :
    exec .pageReadEnd s = .next (State.afterRead client (u.atLeast (began + 40)).passOn).checkEngineStep := by
  simp only [exec, execPageReadEnd, hu, hbusy, show pageExists page = true from decide_eq_true hpage, if_true]
  rfl

theorem exec_pageProgramEnd {left : Option (List Byte)} (hu : s.settle = u)
    (hbusy : u.array.busy = some { access := { client := client, op := .program addr data }, started := began })
    (haddr : addr / 256 < 32768) (hnow : u.now - began ≤ 3000) :
    exec (.pageProgramEnd left) s = .next (u.endProgram client addr data left).checkEngineStep := by
  simp only [exec, execPageProgramEnd, hu, hbusy,
    show pageExists (addr / Config.pageSize) = true from decide_eq_true haddr, if_true,
    show u.now - began ≤ Config.programLimit from hnow]

theorem exec_pageProgramEnd_late {left : Option (List Byte)} (hu : s.settle = u)
    (hbusy : u.array.busy = some { access := { client := client, op := .program addr data }, started := began })
    (haddr : addr / 256 < 32768) (hnow : 3000 < u.now - began) :
    exec (.pageProgramEnd left) s = .next (u.failProgram client addr data).checkEngineStep := by
  simp only [exec, execPageProgramEnd, hu, hbusy,
    show pageExists (addr / Config.pageSize) = true from decide_eq_true haddr, if_true,
    show ¬ u.now - began ≤ Config.programLimit from Nat.not_le.mpr hnow, if_false]

theorem exec_programTimeout (hu : s.settle = u)
    (hbusy : u.array.busy = some { access := { client := client, op := .program addr data }, started := began })
    (haddr : addr / 256 < 32768) :
    exec .programTimeout s
      = .next ((u.atLeast (began + 3000)).failProgram client addr data).checkEngineStep := by
  simp only [exec, execProgramTimeout, hu, hbusy,
    show pageExists (addr / Config.pageSize) = true from decide_eq_true haddr, if_true]
  rfl

/-- A program that ends as it was asked. -/
theorem State.endProgram_none (u : State) (client : Client) (addr : Nat) (data : List Byte) :
    u.endProgram client addr data none = (u.programDone addr data).afterProgram client false := by
  simp only [State.endProgram, leftBy, ne_eq, not_true_eq_false, decide_false]
  rfl

end

/-- The Decoder's access ends in a running part: no engine step of start-up ends with it. -/
theorem decoderProgram_checkEngineStep {v : State} {failed : Bool} (h : v.mode = .running) :
    (v.decoderProgram failed).checkEngineStep = v.decoderProgram failed :=
  State.checkEngineStep_running (by simpa using h)

/-- A program of the Decoder that ends as it was asked. -/
theorem exec_pageProgramEnd_none {s u : State} {addr began : Nat} {data : List Byte} (hu : s.settle = u)
    (hrun : u.mode = .running)
    (hbusy : u.array.busy = some { access := { client := .decoder, op := .program addr data }, started := began })
    (haddr : addr / 256 < 32768) (hnow : u.now - began ≤ 3000) :
    exec (.pageProgramEnd none) s = .next ((u.programDone addr data).decoderProgram false) := by
  rw [exec_pageProgramEnd hu hbusy haddr hnow, State.endProgram_none]
  exact congrArg Host.Outcome.next (decoderProgram_checkEngineStep hrun)

/-- A program of the Decoder that failed by its limit, at a time. -/
theorem State.failProgram_decoder (w : State) (addr : Nat) (data : List Byte) :
    w.failProgram .decoder addr data = (w.programFailed addr data w.now).decoderProgram true := rfl

/-- A page read of the Decoder that ends. -/
theorem exec_pageReadEnd_decoder {s u w v : State} {page began : Nat} (hu : s.settle = u) (hrun : u.mode = .running)
    (hbusy : u.array.busy = some { access := { client := .decoder, op := .read page }, started := began })
    (hpage : page < 32768) (hw : w = { u with now := max u.now (began + 40) })
    (hv : v = { w with array := u.array.passOn w.now }) : exec .pageReadEnd s = .next v.decoderRead := by
  have hsame : (u.atLeast (began + 40)).passOn = v := by
    subst hv hw
    rfl
  have hmode : v.decoderRead.mode = .running := by
    subst hv hw
    simpa using hrun
  rw [exec_pageReadEnd hu hbusy hpage, hsame]
  exact congrArg Host.Outcome.next (State.checkEngineStep_running hmode)

/-! ### The answer of a request in execution -/

/-- The state `x`, in which a request of a code goes on, has the line, the clock and request-to-send of `w`. -/
structure State.Answers (w x : State) (code : Nat) : Prop where
  line : x.line = w.line
  kind : x.dec.kind = byte code
  rts : x.lines.rts = w.lines.rts
  now : x.now = w.now

section
variable {w x : State} {code : Nat}

theorem State.Answers.ok (h : w.Answers x code) (payload : List Byte) :
    x.ok payload = w.replied code (okReply code payload)
      (if isUploadRequest (byte code) = true then x.startUploadTimer else x) :=
  State.ok_eq_replied w x code payload h.line h.kind h.rts h.now

theorem State.Answers.refuse (h : w.Answers x code) (reason : Reason) (detail : Nat) :
    x.refuse reason detail = w.replied code (refusedReply code reason detail)
      (if isUploadRequest (byte code) = true then x.startUploadTimer else x) :=
  State.refuse_eq_replied w x code reason detail h.line h.kind h.rts h.now

/-- With the context EMPTY the reply of any request leaves the store. -/
theorem State.timer_of_empty (h : x.store.upload = none) (code : Nat) :
    (if isUploadRequest (byte code) = true then x.startUploadTimer else x) = x := by
  split
  · exact State.startUploadTimer_of_none h
  · rfl

/-- The upload abandoned and its request refused (R65). -/
theorem State.Answers.failUpload (h : w.Answers x code) (reason : Reason) (detail : Nat) :
    x.failUpload reason detail
      = w.replied code (refusedReply code reason detail) { x with store := x.store.abandon } := by
  have ha : w.Answers x.abandonUpload code := ⟨h.line, h.kind, h.rts, h.now⟩
  rw [State.failUpload, ha.refuse, State.timer_of_empty rfl]
  rfl

/-- The directory change and the reply of a commit with no previous LIVE entry (R63). -/
theorem State.Answers.finishCommit_none (h : w.Answers x code) {up : Upload} (hopen : x.store.upload = some up) :
    x.finishCommit none false
      = w.replied code (okReply code (toBytes 2 up.revision ++ toBytes 2 0 ++ [0, 0]))
          { x with store := x.store.commit up none } := by
  have ha : w.Answers { x with store := x.store.commit up none } code := ⟨h.line, h.kind, h.rts, h.now⟩
  simp only [State.finishCommit, hopen, Option.bind_none]
  rw [ha.ok, State.timer_of_empty rfl]
  rfl

/-- The directory change and the reply of a commit that replaces an entry (R62, R63). -/
theorem State.Answers.finishCommit_some (h : w.Answers x code) {up : Upload} {r : RecRef} {e : DirEntry}
    (hopen : x.store.upload = some up) (hentry : x.store.entry r = some e) (failed : Bool) :
    x.finishCommit (some r) failed
      = w.replied code
          (okReply code
            (toBytes 2 up.revision ++ toBytes 2 r.revision ++ [if 0 < e.pins then 1 else 2, flagByte failed]))
          { x with store := x.store.commit up (some e) } := by
  have ha : w.Answers { x with store := x.store.commit up (some e) } code := ⟨h.line, h.kind, h.rts, h.now⟩
  simp only [State.finishCommit, hopen, Option.bind_some, hentry]
  rw [ha.ok, State.timer_of_empty rfl, apply_ite byte]
  rfl

/-- The directory change and the reply of a retirement (R67). -/
theorem State.Answers.retireEnd (h : w.Answers x 5) {r : RecRef} {e : DirEntry} (hentry : x.store.entry r = some e) :
    x.retireEnd false r
      = w.replied 5 (okReply 5 (toBytes 2 e.revision ++ [if 0 < e.pins then 1 else 2, byte e.pins]))
          { x with store := x.store.retire e } := by
  have ha : w.Answers { x with store := x.store.retire e } 5 := ⟨h.line, h.kind, h.rts, h.now⟩
  simp only [State.retireEnd, hentry, Bool.false_eq_true, if_false]
  rw [ha.ok, apply_ite byte]
  rfl

/-- The last event of a wipe (R72). -/
theorem State.Answers.finishWipe (h : w.Answers x 9) (failed : Nat) :
    x.finishWipe failed
      = w.replied 9
          (okReply 9
            (toBytes 2 x.store.directory.length ++ toBytes 2 (x.store.directory.map DirEntry.extentLen).sum
              ++ toBytes 2 failed))
          { x with
            store := { x.store.kill x.store.directory with index := [], upload := none }
            queue := { x.queue with last := none } } := by
  have ha : w.Answers { x with
      store := { x.store.kill x.store.directory with index := [], upload := none }
      queue := { x.queue with last := none } } 9 := ⟨h.line, h.kind, h.rts, h.now⟩
  exact ha.ok _

/-- The last program of a RECORD_DATA (R57). -/
theorem State.Answers.dataEnd (h : w.Answers x 2) {up : Upload} (hopen : x.store.upload = some up) (len : Nat) :
    x.dataEnd false len []
      = w.replied 2 (okReply 2 (toBytes 2 (up.received + len)))
          { x with
            store := { x.store with
              upload := some { up with received := up.received + len, timer := some x.now } } } := by
  have ha : w.Answers { x with store := { x.store with upload := some { up with received := up.received + len } } } 2 :=
    ⟨h.line, h.kind, h.rts, h.now⟩
  simp only [State.dataEnd, hopen, Bool.false_eq_true, if_false]
  rw [ha.ok]
  rfl

/-- A stale program issued by the request in execution (R4, R5). -/
theorem State.issueStale_eq_issued {x : State} {r : RecRef} {e : DirEntry} {work : Work} (h : x.store.entry r = some e) :
    x.issueStale r work = x.issued (.program (e.firstSector * 4096) [0x00]) work := by
  simp only [State.issueStale, h]
  rfl

end

/-! ### The ends of programs (R55, R57, R61 to R63, R67, R72) -/

/-- Settles O24. -/
theorem programsOfARequestEnd : Obligations.ProgramsOfARequestEnd := by
  unfold Obligations.ProgramsOfARequestEnd
  intro s u v addr began data hu hrun hbusy haddr hnow hv
  have hexec := exec_pageProgramEnd_none hu hrun hbusy haddr hnow
  rw [← hv] at hexec
  have hstore : v.store = u.store := by rw [hv]; rfl
  have hwork : v.dec.work = u.dec.work := by rw [hv]; rfl
  have hqueue : v.queue = u.queue := by rw [hv]; rfl
  have htime : v.now = u.now := by rw [hv]; rfl
  have hanswers : ∀ code, u.dec.kind = byte code → u.Answers v code := fun code hk => by
    subst hv
    exact ⟨rfl, hk, rfl, rfl⟩
  rw [hexec, State.decoderProgram, hwork]
  refine ⟨fun e hw hk he => ?_, fun len a piece rest hw => ?_, fun len up hw hk hopen => ?_, fun up hw hk hopen => ?_,
    fun r e hw he => ?_, fun r e up hw hk he hopen => ?_, fun r e hw hk he => ?_, fun r next left failed e hw he => ?_,
    fun r failed hw hk => ?_⟩
  all_goals simp only [hw]
  · simp only [State.headerEnd, hstore, he, Bool.false_eq_true, if_false, (hanswers 1 hk).ok]
    rfl
  · rfl
  · rw [(hanswers 2 hk).dataEnd (hstore ▸ hopen), hstore, htime]
  · simp only [State.commitEnd, Bool.false_eq_true, if_false]
    rw [(hanswers 3 hk).finishCommit_none (hstore ▸ hopen), hstore]
  · simp only [State.commitEnd, Bool.false_eq_true, if_false]
    rw [State.issueStale_eq_issued (hstore ▸ he)]
  · simp only [State.staleOldEnd, State.noteStale, Bool.false_eq_true, if_false]
    rw [(hanswers 3 hk).finishCommit_some (hstore ▸ hopen) (hstore ▸ he), hstore]
    rfl
  · rw [(hanswers 5 hk).retireEnd (hstore ▸ he), hstore]
  · simp only [State.wipeEnd, State.noteStale, Bool.false_eq_true, if_false, State.wipeNext]
    rw [State.issueStale_eq_issued (hstore ▸ he)]
    rfl
  · simp only [State.wipeEnd, State.noteStale, Bool.false_eq_true, if_false, State.wipeNext]
    rw [(hanswers 9 hk).finishWipe, hstore, hqueue]
    rfl

/-! ### Programs that fail (R2, R58, R61, R62, R68, R72) -/

/-- A failed program of the Decoder: by the limit, late, or read back as other than asked. -/
theorem exec_program_failed {c : Instr} {s u w v : State} {addr began : Nat} {data old asked : List Byte}
    (hu : s.settle = u) (hrun : u.mode = .running)
    (hbusy : u.array.busy = some { access := { client := .decoder, op := .program addr data }, started := began })
    (haddr : addr / 256 < 32768) (ho : old = flashRange u.flash addr data.length)
    (ha : asked = List.zipWith (· &&& ·) old data)
    (h : (c = .programTimeout ∧ w = { u with now := max u.now (began + 3000) } ∧ v = w.programFailed addr data w.now)
      ∨ (∃ left, c = .pageProgramEnd left ∧ 3000 < u.now - began ∧ w = u ∧ v = w.programFailed addr data w.now)
      ∨ (∃ given found, c = .pageProgramEnd (some given) ∧ u.now - began ≤ 3000 ∧ w = u
        ∧ found = List.zipWith (· &&& ·) old (given ++ asked.drop given.length) ∧ found ≠ asked
        ∧ v = { u with
          flash := flashWriteAll u.flash addr found
          sticky := { u.sticky with storeFault := true }
          array := u.array.passOn u.now })) :
    exec c s = .next (v.decoderProgram true) ∧ v.store = u.store ∧ v.queue = u.queue ∧ v.dec = u.dec
      ∧ ∀ code, u.dec.kind = byte code → w.Answers v code := by
  rcases h with ⟨rfl, rfl, rfl⟩ | ⟨left, rfl, hlate, rfl, rfl⟩ | ⟨given, found, rfl, hnow, rfl, hf, hne, rfl⟩
  · refine ⟨?_, rfl, rfl, rfl, fun code hk => ⟨rfl, hk, rfl, rfl⟩⟩
    rw [exec_programTimeout hu hbusy haddr]
    exact congrArg Host.Outcome.next (decoderProgram_checkEngineStep hrun)
  · refine ⟨?_, rfl, rfl, rfl, fun code hk => ⟨rfl, hk, rfl, rfl⟩⟩
    rw [exec_pageProgramEnd_late hu hbusy haddr hlate]
    exact congrArg Host.Outcome.next (decoderProgram_checkEngineStep hrun)
  · refine ⟨?_, rfl, rfl, rfl, fun code hk => ⟨rfl, hk, rfl, rfl⟩⟩
    rw [exec_pageProgramEnd hu hbusy haddr hnow]
    subst ho ha hf
    have hend : w.endProgram .decoder addr data (some given)
        = State.decoderProgram true { w with
            flash := flashWriteAll w.flash addr
              (List.zipWith (· &&& ·) (flashRange w.flash addr data.length)
                (given ++ (List.zipWith (· &&& ·) (flashRange w.flash addr data.length) data).drop given.length))
            sticky := { w.sticky with storeFault := true }
            array := w.array.passOn w.now } := by
      simp only [State.endProgram, leftBy, programmed, hne, ne_eq, not_false_eq_true, decide_true, State.afterProgram,
        if_true]
      rfl
    rw [hend]
    exact congrArg Host.Outcome.next (decoderProgram_checkEngineStep hrun)

theorem RecordStore.noteFailedStale_frame (st : RecordStore) (r : RecRef) :
    (st.noteFailedStale r).directory = st.directory ∧ (st.noteFailedStale r).upload = st.upload := by
  unfold RecordStore.noteFailedStale
  split <;> exact ⟨rfl, rfl⟩

theorem RecordStore.noteFailedStale_entry (st : RecordStore) (r q : RecRef) :
    (st.noteFailedStale r).entry q = st.entry q := by
  rw [RecordStore.entry, (st.noteFailedStale_frame r).1, RecordStore.entry]

/-- Settles O25. -/
theorem programTimeoutFailsTheRequest : Obligations.ProgramTimeoutFailsTheRequest := by
  unfold Obligations.ProgramTimeoutFailsTheRequest
  intro c s u w v addr began data old asked hu hrun hbusy haddr ho ha h
  obtain ⟨hexec, hstore, hqueue, hdec, hanswers⟩ := exec_program_failed hu hrun hbusy haddr ho ha h
  have hnoted : ∀ code r, u.dec.kind = byte code → w.Answers { v with store := v.store.noteFailedStale r } code :=
    fun code r hk => ⟨(hanswers code hk).line, (hanswers code hk).kind, (hanswers code hk).rts, (hanswers code hk).now⟩
  rw [hexec, State.decoderProgram, show v.dec.work = u.dec.work from congrArg Decoder.work hdec]
  refine ⟨fun e hw hk he => ?_, fun len left hw hk => ?_, fun previous hw hk => ?_,
    fun r e up hw hk he hopen => ?_, fun r e hw hk he => ?_, fun r next left failed e hw he => ?_,
    fun r failed hw hk => ?_⟩
  all_goals simp only [hw]
  · simp only [State.headerEnd, hstore, he, if_true, (hanswers 1 hk).failUpload]
  · simp only [State.dataEnd, if_true, (hanswers 2 hk).failUpload, hstore]
  · simp only [State.commitEnd, if_true, (hanswers 3 hk).failUpload, hstore]
  · simp only [State.staleOldEnd, State.noteStale, if_true]
    rw [(hnoted 3 r hk).finishCommit_some (up := up) (e := e)]
    · rw [hstore]
      rfl
    · exact ((v.store.noteFailedStale_frame r).2).trans (hstore ▸ hopen)
    · exact (v.store.noteFailedStale_entry r r).trans (hstore ▸ he)
  · simp only [State.retireEnd, hstore, he, if_true]
    exact congrArg Host.Outcome.next ((hanswers 5 hk).refuse _ _)
  · simp only [State.wipeEnd, State.noteStale, if_true, State.wipeNext]
    rw [State.issueStale_eq_issued (e := e) ((v.store.noteFailedStale_entry r next).trans (hstore ▸ he)), hstore]
  · simp only [State.wipeEnd, State.noteStale, if_true, State.wipeNext]
    rw [(hnoted 9 r hk).finishWipe]
    simp only [(u.store.noteFailedStale_frame r).1, hstore, hqueue]

/-! ### The ends of page reads (R45, R60, R61, R97) -/

/-- Settles O26. -/
theorem readsOfARequestEnd : Obligations.ReadsOfARequestEnd := by
  unfold Obligations.ReadsOfARequestEnd
  intro s u w v page began hu hrun hbusy hpage hw hv
  have hstore : v.store = u.store := by rw [hv, hw]
  have hflash : v.flash = u.flash := by rw [hv, hw]
  have hdec : v.dec = u.dec := by rw [hv, hw]
  have hanswers : u.dec.kind = byte 3 → w.Answers v 3 := fun hk => by
    subst hv hw
    exact ⟨rfl, hk, rfl, rfl⟩
  rw [exec_pageReadEnd_decoder hu hrun hbusy hpage hw hv, State.decoderRead,
    show v.dec.work = u.dec.work from congrArg Decoder.work hdec]
  refine ⟨fun check p rest hw => ?_, fun check sum up hw hk hopen hs => ⟨fun hne => ?_, fun p rest he hp => ?_⟩,
    fun check read left pass up found hw hk hopen hf => ⟨fun offset hfound => ?_, fun p rest next hfound hleft => ?_,
    fun hfound => ?_⟩, fun items p rest hw => ?_, fun items hw => ?_, fun items field p rest hw => ?_,
    fun items field hw => ?_⟩
  all_goals simp only [hw]
  · rfl
  · simp only [State.bodyCheckEnd, hstore, hopen, hflash, ← hs, hne, if_false, (hanswers hk).failUpload]
  · simp only [State.bodyCheckEnd, hstore, hopen, hflash, ← hs, he, if_true, State.readForValidation, hp]
    rfl
  · simp only [State.validateEnd, hstore, hopen, hflash, ← hf, hfound, (hanswers hk).failUpload]
  · simp only [State.validateEnd, hstore, hopen, hflash, ← hf, hfound, hleft, State.readForValidation]
    rfl
  · simp only [State.validateEnd, hstore, hopen, hflash, ← hf, hfound, State.issueCommit]
    rfl
  · rfl
  · rfl
  · rfl

end Sys2Proof.Machine
end


section
/-! SUPPORT. The changes of the directory, the number index and the erase queue (sections 1.4 to 1.8 and 3.4). -/

set_option Elab.async false

namespace Sys2Proof.Machine

/-! ### Entries that become DEAD (R7) -/

theorem bySector_perm (es : List DirEntry) : (bySector es).Perm es := List.perm_insertionSort _ es

theorem bySector_pairwise (es : List DirEntry) : (bySector es).Pairwise fun e f => e.firstSector ≤ f.firstSector :=
  List.pairwise_insertionSort (fun e f : DirEntry => e.firstSector ≤ f.firstSector) es

theorem RecordStore.kill_one_directory (p : DirEntry) (st : RecordStore) :
    (st.kill [p]).directory = st.directory.filter fun e => decide (e ≠ p) := by
  simp only [RecordStore.kill]
  refine List.filter_congr fun e _ => ?_
  by_cases he : e = p <;> simp [he]

theorem RecordStore.kill_one_eraseQueue (p : DirEntry) (st : RecordStore) :
    (st.kill [p]).eraseQueue = st.eraseQueue ++ extentSectors p.firstSector p.extentLen := by
  simp [RecordStore.kill, bySector_singleton]

theorem RecordStore.kill_one_sectorState (p : DirEntry) (st : RecordStore) (n : Nat) :
    sectorState (st.kill [p]).sectorMap n
      = if n ∈ extentSectors p.firstSector p.extentLen then .queued else sectorState st.sectorMap n := by
  simp [RecordStore.kill_sectorState, bySector_singleton]

/-! ### The directory change of a commit (R63) -/

theorem RecordStore.supersede_index (p : DirEntry) (st : RecordStore) : (st.supersede p).index = st.index := by
  unfold RecordStore.supersede
  split <;> rfl

theorem RecordStore.commit_index (up : Upload) (previous : Option DirEntry) (st : RecordStore) :
    (st.commit up previous).index = dropIndex st.index up.kind up.number
      ++ [{ kind := up.kind, number := up.number, firstSector := up.firstSector }] := by
  cases previous with
  | none => rfl
  | some p => simp only [RecordStore.commit, RecordStore.supersede_index]

theorem dropIndex_find?_same (ix : List IndexEntry) (k : RecKind) (n : Nat) :
    ((dropIndex ix k n).find? fun i => decide (i.kind = k ∧ i.number = n)) = none := by
  rw [dropIndex, List.find?_eq_none]
  intro i hi
  simp only [List.mem_filter, Bool.not_eq_true', decide_eq_false_iff_not] at hi
  simpa only [decide_eq_true_eq] using hi.2

theorem dropIndex_find?_other (ix : List IndexEntry) {k l : RecKind} {n m : Nat} (h : ¬ (l = k ∧ m = n)) :
    ((dropIndex ix k n).find? fun i => decide (i.kind = l ∧ i.number = m))
      = ix.find? fun i => decide (i.kind = l ∧ i.number = m) := by
  rw [dropIndex, List.find?_filter]
  congr 1
  funext i
  by_cases hi : i.kind = l ∧ i.number = m
  · obtain ⟨rfl, rfl⟩ := hi
    simp [h]
  · simp [hi]

theorem RecordStore.commit_find?_same (up : Upload) (previous : Option DirEntry) (st : RecordStore) :
    ((st.commit up previous).index.find? fun i => decide (i.kind = up.kind ∧ i.number = up.number))
      = some { kind := up.kind, number := up.number, firstSector := up.firstSector } := by
  rw [RecordStore.commit_index, List.find?_append, dropIndex_find?_same]
  simp

theorem RecordStore.commit_find?_other (up : Upload) (previous : Option DirEntry) (st : RecordStore) {k : RecKind}
    {n : Nat} (h : ¬ (k = up.kind ∧ n = up.number)) :
    ((st.commit up previous).index.find? fun i => decide (i.kind = k ∧ i.number = n))
      = st.index.find? fun i => decide (i.kind = k ∧ i.number = n) := by
  rw [RecordStore.commit_index, List.find?_append, dropIndex_find?_other _ h]
  have hne : ¬ (up.kind = k ∧ up.number = n) := fun ⟨h1, h2⟩ => h ⟨h1.symm, h2.symm⟩
  simp [hne]

/-- The previous entry of a commit, pinned: it becomes SUPERSEDED. -/
theorem RecordStore.supersede_of_pinned {p : DirEntry} (h : 0 < p.pins) (st : RecordStore) :
    st.supersede p = st.update p.ref fun e => { e with state := .superseded } := if_pos h

theorem RecordStore.supersede_of_unpinned {p : DirEntry} (h : p.pins = 0) (st : RecordStore) :
    st.supersede p = st.kill [p] := if_neg (by omega)

theorem RecordStore.commit_directory_of_pinned (up : Upload) {p : DirEntry} (h : 0 < p.pins) (st : RecordStore) :
    (st.commit up (some p)).directory = st.directory.map (fun (e : DirEntry) =>
      if e.ref = p.ref then { e with state := .superseded }
      else if e.state = .writing then { e with state := .live } else e) := by
  simp only [RecordStore.commit, RecordStore.supersede_of_pinned h, RecordStore.update, List.map_map]
  refine List.map_congr_left fun e _ => ?_
  simp only [Function.comp_apply]
  by_cases he : e.ref = p.ref <;> simp [he]

/-! ### Pins (R13, R14) -/

/-- The entries after a release takes its pins (R14). -/
def unpinned (refs : List RecRef) (es : List DirEntry) : List DirEntry :=
  es.map fun (e : DirEntry) => if e.ref ∈ refs then { e with pins := e.pins - 1 } else e

/-- The entries that a release leaves with no pin and no name (R14). -/
def released (refs : List RecRef) (es : List DirEntry) : List DirEntry :=
  (unpinned refs es).filter fun e => decide (e.ref ∈ refs ∧ (e.state = .superseded ∨ e.state = .retired) ∧ e.pins = 0)

theorem RecordStore.pin_directory (refs : List RecRef) (st : RecordStore) : (st.pin refs).directory
    = st.directory.map (fun (e : DirEntry) => if e.ref ∈ refs then { e with pins := e.pins + 1 } else e) := by
  simp [RecordStore.pin]

theorem RecordStore.release_eq (refs : List RecRef) (st : RecordStore) :
    st.release refs
      = RecordStore.kill (released refs st.directory) { st with directory := unpinned refs st.directory } := by
  have hmap : (st.directory.map fun (e : DirEntry) => if refs.contains e.ref then { e with pins := e.pins - 1 } else e)
      = unpinned refs st.directory := by simp [unpinned]
  have hfilter : ((unpinned refs st.directory).filter fun e => refs.contains e.ref && e.old && e.pins == 0)
      = released refs st.directory := by
    refine List.filter_congr fun e _ => ?_
    simp only [DirEntry.old, List.contains_eq_mem, Bool.decide_and, Bool.and_assoc]
    rfl
  simp only [RecordStore.release, hmap, hfilter]

theorem RecordStore.mem_release_directory (refs : List RecRef) (st : RecordStore) (e : DirEntry) :
    e ∈ (st.release refs).directory ↔
      ∃ f ∈ st.directory, e = (if f.ref ∈ refs then { f with pins := f.pins - 1 } else f)
        ∧ ¬ (e.ref ∈ refs ∧ (e.state = .superseded ∨ e.state = .retired) ∧ e.pins = 0) := by
  rw [RecordStore.release_eq, RecordStore.mem_kill_directory]
  have hmem : e ∈ released refs st.directory ↔ e ∈ unpinned refs st.directory
      ∧ (e.ref ∈ refs ∧ (e.state = .superseded ∨ e.state = .retired) ∧ e.pins = 0) := by
    simp [released]
  rw [hmem]
  simp only [unpinned, List.mem_map]
  constructor
  · rintro ⟨⟨f, hf, rfl⟩, hn⟩
    exact ⟨f, hf, rfl, fun h => hn ⟨⟨f, hf, rfl⟩, h⟩⟩
  · rintro ⟨f, hf, rfl, hn⟩
    exact ⟨⟨f, hf, rfl⟩, fun h => hn h.2⟩

/-! ### Retirements and failed stale programs (R54, R67) -/

theorem RecordStore.retire_of_pinned {e : DirEntry} (h : 0 < e.pins) (st : RecordStore) :
    st.retire e = { st.update e.ref (fun x => { x with state := .retired }) with
      index := dropIndex st.index e.kind e.number } := by
  simp only [RecordStore.retire, h, if_true]
  rfl

theorem RecordStore.retire_of_unpinned {e : DirEntry} (h : e.pins = 0) (st : RecordStore) :
    st.retire e = { st.kill [e] with index := dropIndex st.index e.kind e.number } := by
  simp only [RecordStore.retire, h, Nat.lt_irrefl, if_false]
  rfl

theorem RecordStore.retire_index (e : DirEntry) (st : RecordStore) :
    (st.retire e).index = dropIndex st.index e.kind e.number := by
  by_cases h : 0 < e.pins
  · rw [RecordStore.retire_of_pinned h]
  · rw [RecordStore.retire_of_unpinned (by omega)]

/-- Settles O27. -/
theorem directoryChanges : Obligations.DirectoryChanges := by
  unfold Obligations.DirectoryChanges
  refine ⟨fun st up p => ⟨rfl, fun hp => ⟨RecordStore.commit_directory_of_pinned up hp st, ?_, ?_⟩, fun hp =>
    ⟨?_, ?_, fun n => ?_⟩, rfl, rfl, fun previous => ⟨rfl, RecordStore.commit_find?_same up previous st,
    fun k n h => RecordStore.commit_find?_other up previous st h⟩⟩, fun st dead order sectors ho hs => ?_,
    fun st refs => ⟨RecordStore.pin_directory refs st, RecordStore.mem_release_directory refs st⟩,
    fun st refs previous dead order sectors hd ho hs => ?_, fun st e => ⟨fun i => ?_, fun hp => ?_, fun hp => ?_⟩,
    fun st r e he => ?_⟩
  · simp only [RecordStore.commit, RecordStore.supersede_of_pinned hp, RecordStore.update]
  · simp only [RecordStore.commit, RecordStore.supersede_of_pinned hp, RecordStore.update]
  · simp only [RecordStore.commit, RecordStore.supersede_of_unpinned hp, RecordStore.kill_one_directory]
  · simp only [RecordStore.commit, RecordStore.supersede_of_unpinned hp, RecordStore.kill_one_eraseQueue]
  · simp only [RecordStore.commit, RecordStore.supersede_of_unpinned hp, RecordStore.kill_one_sectorState]
  · subst ho hs
    exact ⟨bySector_perm dead, bySector_pairwise dead, RecordStore.mem_kill_directory dead st, rfl,
      RecordStore.kill_sectorState dead st, rfl, rfl⟩
  · subst hd ho hs
    rw [RecordStore.release_eq]
    exact ⟨rfl, RecordStore.kill_sectorState _ _, rfl, rfl⟩
  · simp only [RecordStore.retire_index, dropIndex, List.mem_filter, Bool.not_eq_true', decide_eq_false_iff_not]
  · rw [RecordStore.retire_of_pinned hp]
    exact ⟨rfl, rfl, rfl⟩
  · rw [RecordStore.retire_of_unpinned hp]
    exact ⟨RecordStore.kill_one_directory e st, RecordStore.kill_one_eraseQueue e st,
      RecordStore.kill_one_sectorState e st⟩
  · simp [RecordStore.noteFailedStale, he]

end Sys2Proof.Machine
end


section
/-! SUPPORT. What the ends of accesses and of erases leave in flash, and the steps of the erase service (sections 1.1 and
1.9). -/

set_option Elab.async false

namespace Sys2Proof.Machine

/-! ### The ends of accesses (R1, R2) -/

/-- Flash contents that are others with the program of some bytes at an address applied, only ones lost. -/
def ProgrammedAt (m : Memory) (addr n : Nat) (m' : Memory) : Prop :=
  ∃ vs, m' = flashWriteAll m addr (List.zipWith (· &&& ·) (flashRange m addr n) vs)

@[simp] theorem flashRange_length (m : Memory) (a n : Nat) : (flashRange m a n).length = n := by simp [flashRange]

theorem ProgrammedAt.outside {m m' : Memory} {addr n a : Nat} (h : ProgrammedAt m addr n m')
    (ha : a < addr ∨ addr + n ≤ a) : flashRead m' a = flashRead m a := by
  obtain ⟨vs, rfl⟩ := h
  refine flashRead_flashWriteAll_outside ?_
  simp only [List.length_zipWith, flashRange_length]
  omega

theorem ProgrammedAt.and {m m' : Memory} {addr n : Nat} (h : ProgrammedAt m addr n m') (hm : Memory.wf m = true)
    (a : Nat) : flashRead m' a &&& flashRead m a = flashRead m' a := by
  obtain ⟨vs, rfl⟩ := h
  exact flashRead_flashWriteAll_and addr n vs hm a

theorem State.endProgram_programmedAt (u : State) (client : Client) (addr : Nat) (data : List Byte)
    (left : Option (List Byte)) : ProgrammedAt u.flash addr data.length (u.endProgram client addr data left).flash := by
  have hflash : (u.endProgram client addr data left).flash
      = flashWriteAll u.flash addr (leftBy (flashRange u.flash addr data.length)
          (programmed (flashRange u.flash addr data.length) data) left) := by simp [State.endProgram]
  rw [hflash]
  cases left with
  | none => exact ⟨data, rfl⟩
  | some bs => exact ⟨_, rfl⟩

theorem State.failProgram_programmedAt (u : State) (client : Client) (addr : Nat) (data : List Byte) :
    ProgrammedAt u.flash addr data.length (u.failProgram client addr data).flash := by
  have hflash : (u.failProgram client addr data).flash = (u.cutProgram addr data).flash := by simp [State.failProgram]
  rw [hflash]
  exact ⟨_, rfl⟩

/-- A program that ends as it was asked applies its zeros to every byte. -/
theorem flashRead_programmed {m : Memory} {addr i : Nat} {data : List Byte} {d : Byte} (hm : Memory.wf m = true)
    (hd : data[i]? = some d) :
    flashRead (flashWriteAll m addr (programmed (flashRange m addr data.length) data)) (addr + i)
      = flashRead m (addr + i) &&& d := by
  obtain ⟨hi, -⟩ := List.getElem?_eq_some_iff.mp hd
  rw [flashRead_flashWriteAll hm, if_pos (Nat.le_add_right _ _), Nat.add_sub_cancel_left, programmed,
    List.getD_eq_getElem?_getD, List.getElem?_zipWith, flashRange_getElem?, hd, if_pos hi]
  rfl

/-- Settles O28. -/
theorem accessEndsChangeOnlyTheProgram : Obligations.AccessEndsChangeOnlyTheProgram := by
  unfold Obligations.AccessEndsChangeOnlyTheProgram
  refine ⟨fun s u client addr began data left hu hsound hbusy haddr => ?_, fun s u client page began hu hbusy hpage => ?_⟩
  · have hfail := (u.atLeast (began + 3000)).failProgram_programmedAt client addr data
    obtain ⟨t₁, ht₁, hprog, hasked⟩ : ∃ t₁, exec (.pageProgramEnd left) s = .next t₁
        ∧ ProgrammedAt u.flash addr data.length t₁.flash
        ∧ (left = none → u.now - began ≤ 3000 → t₁.flash
            = flashWriteAll u.flash addr (programmed (flashRange u.flash addr data.length) data)) := by
      by_cases hnow : u.now - began ≤ 3000
      · refine ⟨_, exec_pageProgramEnd hu hbusy haddr hnow, ?_, ?_⟩
        · simpa using u.endProgram_programmedAt client addr data left
        · rintro rfl -
          simp [State.endProgram, leftBy]
      · refine ⟨_, exec_pageProgramEnd_late hu hbusy haddr (by omega), ?_, fun _ h => absurd h hnow⟩
        simpa using u.failProgram_programmedAt client addr data
    refine ⟨t₁, _, ht₁, exec_programTimeout hu hbusy haddr, fun a ha => ⟨hprog.outside ha, ?_⟩,
      fun a => ⟨hprog.and hsound a, ?_⟩, fun hl hnow i d hd => ?_⟩
    · rw [State.checkEngineStep_flash]
      exact hfail.outside ha
    · rw [State.checkEngineStep_flash]
      exact hfail.and hsound a
    · rw [hasked hl hnow]
      exact flashRead_programmed hsound hd
  · exact ⟨_, exec_pageReadEnd hu hbusy hpage, by simp⟩

/-! ### The erase service (R17 to R23) -/

/-- Settles O29. -/
theorem eraseServiceTakesItsSteps : Obligations.EraseServiceTakesItsSteps := by
  unfold Obligations.EraseServiceTakesItsSteps
  refine ⟨⟨fun s u n rest hu hrun hq he hb hw => ?_, fun s u hu h => ?_, fun s u r taken effect a rest hu hrun he hs
    heff hw => ?_, fun s u r w hu hrun he hw => ?_⟩, fun arr a now => ⟨fun he hb => ?_, fun he hb => ?_, fun r he => ?_,
    fun sector time he => ⟨?_, fun rest hs => ?_, fun hs => ?_⟩, fun he => ⟨fun rest hw => ?_, fun hw => ?_⟩,
    fun r he => ?_⟩, fun s u sector time page began ended hu hrun he hpage hend hbusy => ⟨fun a rest hs => ?_,
    fun hs => ?_⟩, fun s u sector time addr began len a data piece rest hu hrun he haddr hnow hbusy hw =>
    ⟨fun b others hs => ?_, fun hs => ?_⟩⟩
  · refine exec_event_running (f := State.startErase) rfl hu ?_ hrun
    simp [State.startErase, hq, State.isRunning, hrun, he, hb, hw, EraseRun.begin]
  · refine exec_event_same (f := State.startErase) rfl hu ?_
    unfold State.startErase
    split
    · rw [if_neg]
      rintro ⟨-, h1, h2, h3⟩
      simp_all
    · rfl
  · obtain ⟨n, acc, since, window, suspension⟩ := r
    obtain rfl : suspension = some taken := hs
    refine exec_event_running (f := State.takeEffect) rfl hu ?_ hrun
    subst heff
    simp [State.takeEffect, he, hw, State.passOn, FlashArray.passOn, FlashArray.start, State.atLeast,
      Config.suspendLatency]
  · obtain ⟨n, acc, since, window, suspension⟩ := r
    obtain rfl : window = some w := hw
    refine exec_event_running (f := State.endWindow) rfl hu ?_ hrun
    simp only [State.endWindow, he, State.atLeast]
    rfl
  · simp [FlashArray.arrive, he, hb, FlashArray.start]
  · simp [FlashArray.arrive, he, hb]
  · obtain ⟨n, acc, since, window, suspension⟩ := r
    simp only [FlashArray.arrive, he, EraseRun.takeSuspension]
    split <;> simp_all
  · simp [FlashArray.arrive, he]
  · simp [FlashArray.passOn, he, hs, FlashArray.start]
  · simp [FlashArray.passOn, he, hs, Config.progressWindow]
  · simp [FlashArray.passOn, he, hw, FlashArray.start]
  · simp [FlashArray.passOn, he, hw]
  · simp [FlashArray.passOn, he]
  · rw [exec_pageReadEnd hu hbusy hpage, State.checkEngineStep_running (by simpa [State.afterRead] using hrun)]
    subst hend
    simp [State.afterRead, State.passOn, FlashArray.passOn, he, hs, FlashArray.start, State.atLeast]
  · rw [exec_pageReadEnd hu hbusy hpage, State.checkEngineStep_running (by simpa [State.afterRead] using hrun)]
    subst hend
    simp [State.afterRead, State.passOn, FlashArray.passOn, he, hs, State.atLeast, Config.progressWindow]
  · rw [exec_pageProgramEnd_none hu hrun hbusy haddr hnow]
    simp [State.decoderProgram, State.programDone, hw, State.dataEnd, State.decoderIssue, State.await, State.issue,
      FlashArray.passOn, FlashArray.arrive, he, hs, FlashArray.start]
  · rw [exec_pageProgramEnd_none hu hrun hbusy haddr hnow]
    simp [State.decoderProgram, State.programDone, hw, State.dataEnd, State.decoderIssue, State.await, State.issue,
      FlashArray.passOn, FlashArray.arrive, he, hs, EraseRun.takeSuspension, Config.progressWindow]

/-- An erase run's time has reached no limit that it has not reached (R17). -/
theorem EraseRun.giveUp_time {r : EraseRun} {now : Nat} (hs : r.since ≤ now)
    (h : 500000 ≤ r.accumulated + (now - r.since)) : max now (r.since + (500000 - r.accumulated)) = now := by omega

/-- A completion reported of an erase that runs (R22, R23). -/
theorem State.completeErase_erasing {u : State} {r : EraseRun} (he : u.array.erase = .erasing r)
    (residue : List (Nat × Byte)) :
    u.completeErase residue =
      if r.suspension.isSome then u
      else if 500000 ≤ r.accumulated + (u.now - r.since) then u.giveUp r.sector
      else if 400000 < r.accumulated + (u.now - r.since) then u
      else if sectorErased (erasedBut u.flash r.sector residue) r.sector then
        State.freeSector r.sector { u with flash := erasedBut u.flash r.sector residue }
      else { u with flash := erasedBut u.flash r.sector residue } := by
  simp only [State.completeErase, he]
  rfl

theorem State.reachGiveUp_erasing {u : State} {r : EraseRun} (he : u.array.erase = .erasing r) :
    u.reachGiveUp = (u.atLeast (r.since + (500000 - r.accumulated))).giveUp r.sector := by
  simp only [State.reachGiveUp, he]
  rfl

/-- An erase given up, field by field (R23). -/
theorem State.giveUp_eq (u : State) (n : Nat) :
    u.giveUp n = { u with
      freeCount := (u.cutErase n).freeCount
      flash := (u.cutErase n).flash
      sticky := { u.sticky with storeFault := true }
      store := { u.store with sectorMap := setSector u.store.sectorMap n .bad }
      array := FlashArray.passOn u.now { u.array with erase := .idle } } := by
  simp only [State.giveUp, State.passOn, State.cutErase, State.setStoreFault]

/-- Settles O30. -/
theorem eraseEndsFreeOrBad : Obligations.EraseEndsFreeOrBad := by
  unfold Obligations.EraseEndsFreeOrBad
  refine ⟨fun s u r residue flash hu hrun he => ⟨fun hs => ?_, fun h1 h2 => ?_, fun hs hsince htime => ?_,
    fun hs htime hf => ⟨fun a ha => ?_, fun hd => ?_, fun hd => ?_⟩⟩, fun s u r now hu hrun he hnow => ?_⟩
  · refine exec_event_running (f := State.completeErase residue) rfl hu ?_ hrun
    rw [State.completeErase_erasing he, if_pos (Option.isSome_iff_ne_none.mpr hs)]
  · refine exec_event_running (f := State.completeErase residue) rfl hu ?_ hrun
    have hlate : ¬ 500000 ≤ r.accumulated + (u.now - r.since) := by omega
    rw [State.completeErase_erasing he, if_neg hlate, if_pos h1, ite_self]
  · rw [exec_event (f := State.completeErase residue) rfl hu, exec_event (f := State.reachGiveUp) rfl hu,
      State.completeErase_erasing he, State.reachGiveUp_erasing he, hs, if_neg (by simp), if_pos htime, State.atLeast,
      EraseRun.giveUp_time hsince htime]
  · rw [hf]
    exact flashRead_erasedBut_outside ha
  · refine exec_event_running (f := State.completeErase residue) rfl hu ?_ hrun
    have hearly : ¬ 500000 ≤ r.accumulated + (u.now - r.since) := by omega
    have htaken : ¬ 400000 < r.accumulated + (u.now - r.since) := by omega
    rw [State.completeErase_erasing he, hs, if_neg (by simp), if_neg hearly, if_neg htaken, ← hf, if_neg (by simp [hd])]
  · refine exec_event_running (f := State.completeErase residue) rfl hu ?_ hrun
    have hearly : ¬ 500000 ≤ r.accumulated + (u.now - r.since) := by omega
    have htaken : ¬ 400000 < r.accumulated + (u.now - r.since) := by omega
    rw [State.completeErase_erasing he, hs, if_neg (by simp), if_neg hearly, if_neg htaken, ← hf, if_pos hd]
    rfl
  · have hsame : u.atLeast (r.since + (500000 - r.accumulated)) = { u with now := now } := by rw [hnow]; rfl
    refine ⟨((u.atLeast now).cutErase r.sector).flash, ((u.atLeast now).cutErase r.sector).freeCount, ?_, fun a ha => ?_⟩
    · have hnow' : u.atLeast now = { u with now := now } := by rw [State.atLeast, Nat.max_eq_right (by omega)]
      refine exec_event_running (f := State.reachGiveUp) rfl hu ?_ hrun
      rw [State.reachGiveUp_erasing he, hsame, State.giveUp_eq, hnow']
    · rw [State.cutErase_flash_outside ha, State.atLeast_flash]

end Sys2Proof.Machine
end


section
/-! SUPPORT. Record headers in flash (sections 1.2, 1.3 and 10.3). -/

set_option Elab.async false

namespace Sys2Proof.Machine

/-! ### The fields of a header (R194) -/

theorem readMarker_iff (b : Byte) : (readMarker b = .writing ↔ b = 0x0F ∨ b = 0x0B ∨ b = 0x07)
    ∧ (readMarker b = .live ↔ b = 0x03) ∧ (readMarker b = .stale ↔ b = 0x02 ∨ b = 0x01 ∨ b = 0x00) := by
  revert b
  decide

/-- A header begins an extent exactly where its fields pass. -/
theorem extentOfHeader_eq_some (sector : Nat) (h : List Byte) (e : Extent) : extentOfHeader sector h = some e ↔
    ((num h 1 1 = 0x46 ∧ e.kind = .format) ∨ (num h 1 1 = 0x47 ∧ e.kind = .image) ∨ (num h 1 1 = 0x53 ∧ e.kind = .table))
    ∧ e.number = num h 2 2 ∧ e.revision = num h 4 2 ∧ e.extentLen = num h 6 1 ∧ e.lock = decide (byteAt h 7 = 0x00)
    ∧ e.bodyLen = num h 8 2 ∧ e.check = num h 10 2 ∧ e.firstSector = sector
    ∧ (1 ≤ e.number ∧ e.number ≤ 999) ∧ 1 ≤ e.revision ∧ e.bodyLen ≤ largestBody e.kind
    ∧ e.extentLen = extentOf e.bodyLen ∧ sector + e.extentLen ≤ 2048 := by
  rw [← recKindOf_eq_some, extentOfHeader]
  obtain ⟨kind, number, revision, firstSector, extentLen, bodyLen, lock, check⟩ := e
  cases recKindOf (num h 1 1) with
  | none => simp
  | some k =>
    simp only [numberOk, Bool.and_eq_true, decide_eq_true_eq, Option.ite_none_right_eq_some, Option.some.injEq,
      Extent.mk.injEq]
    constructor
    · rintro ⟨⟨⟨⟨⟨h1, h2⟩, h3⟩, h4⟩, h5⟩, rfl, rfl, rfl, rfl, rfl, rfl, rfl, rfl⟩
      exact ⟨rfl, rfl, rfl, rfl, rfl, rfl, rfl, rfl, h1, h2, h3, h4, h5⟩
    · rintro ⟨rfl, rfl, rfl, rfl, rfl, rfl, rfl, rfl, h1, h2, h3, h4, h5⟩
      exact ⟨⟨⟨⟨⟨h1, h2⟩, h3⟩, h4⟩, h5⟩, rfl, rfl, rfl, rfl, rfl, rfl, rfl, rfl⟩

/-! ### What the programs of a header leave (R4, R5) -/

theorem byte_ff_and (b : Byte) : 255#8 &&& b = b := by
  revert b
  decide

theorem byte_and_ff (b : Byte) : b &&& 255#8 = b := by rw [BitVec.and_comm, byte_ff_and]

/-- The bytes of a run of writes, then those that stood after it. -/
theorem flashRange_flashWriteAll {m : Memory} {base n : Nat} {vs : List Byte} (hm : Memory.wf m = true)
    (hn : vs.length ≤ n) :
    flashRange (flashWriteAll m base vs) base n = vs ++ (flashRange m base n).drop vs.length := by
  refine List.ext_getElem? fun i => ?_
  rw [flashRange_getElem?, flashRead_flashWriteAll hm, if_pos (Nat.le_add_right _ _), Nat.add_sub_cancel_left,
    List.getElem?_append, List.getElem?_drop, List.getD_eq_getElem?_getD]
  by_cases hi : i < vs.length
  · simp [hi, show i < n by omega]
  · rw [flashRange_getElem?, show vs.length + (i - vs.length) = i by omega, if_neg hi,
      List.getElem?_eq_none (Nat.not_lt.mp hi)]
    rfl

theorem flashRange_take (m : Memory) (a : Nat) {k n : Nat} (h : k ≤ n) :
    (flashRange m a n).take k = flashRange m a k := by
  simp [flashRange, ← List.map_take, List.take_range, Nat.min_eq_left h]

/-- The first byte of a run of bytes. -/
theorem flashRead_of_flashRange {m : Memory} {a n : Nat} {b : Byte} {bs : List Byte}
    (h : flashRange m a (n + 1) = b :: bs) : flashRead m a = b := by
  have := congrArg List.head? h
  simpa [flashRange, List.range_succ_eq_map] using this

/-- A program of erased bytes leaves its data (R2). -/
theorem programmed_erased (data : List Byte) : programmed (List.replicate data.length 0xFF) data = data := by
  unfold programmed
  induction data with
  | nil => rfl
  | cons d ds ih => simpa [List.replicate_succ, byte_ff_and] using ih

theorem flashRange_erased {m : Memory} {base n : Nat} (h : ∀ i < n, flashRead m (base + i) = 0xFF) :
    flashRange m base n = List.replicate n 0xFF := by
  rw [List.eq_replicate_iff]
  refine ⟨by simp, fun b hb => ?_⟩
  simp only [flashRange, List.mem_map, List.mem_range] at hb
  obtain ⟨i, hi, rfl⟩ := hb
  exact h i hi

theorem headerData_length (e : DirEntry) : (headerData e).length = 10 := by simp [headerData, toBytes]

/-- The header's bytes after the commit program: the marker LIVE and the body check joined to the header's data (R4). -/
def committedHeader (e : DirEntry) (check : Nat) : List Byte :=
  0x03 :: (headerData e).tail ++ toBytes 2 check ++ List.replicate 20 0xFF

/-- The commit program applied to the header program's data. -/
theorem programmed_commitData (e : DirEntry) (check : Nat) :
    programmed (headerData e ++ List.replicate 2 0xFF) (commitData check)
      = 0x03 :: (headerData e).tail ++ toBytes 2 check := by
  simp [programmed, headerData, commitData, toBytes, List.replicate, byte_ff_and, byte_and_ff]

/-- The bytes of a header after its header program, and after its commit program. -/
theorem flashRange_header {m m₁ m₂ : Memory} {e : DirEntry} {check base : Nat} (hm : Memory.wf m = true)
    (herased : ∀ i < 32, flashRead m (base + i) = 0xFF)
    (h₁ : m₁ = flashWriteAll m base (programmed (flashRange m base 10) (headerData e)))
    (h₂ : m₂ = flashWriteAll m₁ base (programmed (flashRange m₁ base 12) (commitData check))) :
    flashRange m₁ base 32 = headerData e ++ List.replicate 22 0xFF
      ∧ flashRange m₂ base 32 = committedHeader e check := by
  have hten : flashRange m base 10 = List.replicate (headerData e).length 0xFF := by
    rw [headerData_length]
    exact flashRange_erased fun i hi => herased i (by omega)
  rw [hten, programmed_erased] at h₁
  have hm₁ : Memory.wf m₁ = true := h₁ ▸ Memory.wf_flashWriteAll hm
  have hr₁ : flashRange m₁ base 32 = headerData e ++ List.replicate 22 0xFF := by
    rw [h₁, flashRange_flashWriteAll hm (by rw [headerData_length]; omega), flashRange_erased herased, headerData_length]
    rfl
  have htwelve : flashRange m₁ base 12 = headerData e ++ List.replicate 2 0xFF := by
    rw [← flashRange_take m₁ base (show 12 ≤ 32 by omega), hr₁, List.take_append, headerData_length]
    rw [List.take_of_length_le (by rw [headerData_length]; omega)]
    rfl
  rw [htwelve, programmed_commitData] at h₂
  refine ⟨hr₁, ?_⟩
  rw [h₂, flashRange_flashWriteAll hm₁ (by simp [headerData, toBytes]), hr₁, committedHeader]
  congr 1

/-- The fields of a header read back from its bytes (R194). -/
theorem extentOfHeader_committedHeader {e : DirEntry} {check : Nat} (hnumber : 1 ≤ e.number ∧ e.number ≤ 999)
    (hrevision : 1 ≤ e.revision ∧ e.revision ≤ 65535) (hbody : e.bodyLen ≤ largestBody e.kind)
    (hlen : e.extentLen = extentOf e.bodyLen) (hend : e.firstSector + e.extentLen ≤ 2048) (hcheck : check < 65536) :
    extentOfHeader e.firstSector (committedHeader e check)
      = some { kind := e.kind, number := e.number, revision := e.revision, firstSector := e.firstSector,
               extentLen := e.extentLen, bodyLen := e.bodyLen, lock := e.lock, check := check } := by
  have hbody' : e.bodyLen ≤ 65504 := hbody.trans (by cases e.kind <;> decide)
  have hlen' : e.extentLen < 256 := by
    rw [hlen]
    simp only [extentOf, Config.sectorSize]
    omega
  have fields : num (committedHeader e check) 1 1 = recKindCode e.kind
      ∧ num (committedHeader e check) 2 2 = ofBytes (toBytes 2 e.number)
      ∧ num (committedHeader e check) 4 2 = ofBytes (toBytes 2 e.revision)
      ∧ num (committedHeader e check) 6 1 = (byte e.extentLen).toNat
      ∧ byteAt (committedHeader e check) 7 = (if e.lock then 0x00 else 0xFF)
      ∧ num (committedHeader e check) 8 2 = ofBytes (toBytes 2 e.bodyLen)
      ∧ num (committedHeader e check) 10 2 = ofBytes (toBytes 2 check) := by
    refine ⟨?_, rfl, rfl, ?_, rfl, rfl, rfl⟩
    · cases h : e.kind <;> simp [num, committedHeader, headerData, toBytes, ofBytes, h, recKindCode, byte]
    · simp [num, committedHeader, headerData, toBytes, ofBytes]
  obtain ⟨hk, hn, hr, hx, hl, hb, hc⟩ := fields
  rw [extentOfHeader_eq_some, hk, hn, hr, hx, hl, hb, hc, ofBytes_toBytes_two (by omega), ofBytes_toBytes_two (by omega),
    ofBytes_toBytes_two (by omega), ofBytes_toBytes_two hcheck, byte_toNat hlen']
  refine ⟨?_, rfl, rfl, rfl, ?_, rfl, rfl, rfl, hnumber, hrevision.1, hbody, hlen, hend⟩
  · cases e.kind <;> simp [recKindCode]
  · cases e.lock <;> rfl

/-- Settles O31. -/
theorem headerIsReadBackAsProgrammed : Obligations.HeaderIsReadBackAsProgrammed := by
  unfold Obligations.HeaderIsReadBackAsProgrammed
  refine ⟨fun m m₁ m₂ m₃ e check base hm hbase herased hnumber hrevision hbody hlen hend hcheck h₁ h₂ h₃ => ?_,
    readMarker_iff, fun sector h e => ?_⟩
  · obtain ⟨hr₁, hr₂⟩ := flashRange_header hm herased h₁ h₂
    have hfirst₁ : flashRead m₁ base = 0x0F := flashRead_of_flashRange hr₁
    have hfirst₂ : flashRead m₂ base = 0x03 := flashRead_of_flashRange hr₂
    have hm₂ : Memory.wf m₂ = true := h₂ ▸ Memory.wf_flashWriteAll (h₁ ▸ Memory.wf_flashWriteAll hm)
    have hfirst₃ : flashRead m₃ base = 0x00 := by
      have := flashRead_programmed (addr := base) (i := 0) (data := staleData) hm₂ rfl
      rw [h₃]
      simpa [staleData] using this
    refine ⟨by rw [hfirst₁]; decide, by rw [hfirst₂]; decide, by rw [hfirst₃]; decide, ?_⟩
    rw [hr₂]
    exact extentOfHeader_committedHeader hnumber hrevision hbody hlen hend hcheck
  · rw [extentOfHeader_eq_some, and_assoc]
    cases e.kind <;> exact Iff.rfl

end Sys2Proof.Machine
end


section
/-! SUPPORT. What follows a change of the Media Tracker, and the commands of the idle timer, the settings, PAUSE, FEED
and CALIBRATE (sections 8.1, 8.7 and 8.8). -/

set_option Elab.async false

namespace Sys2Proof.Machine

/-! ### A change of the Media Tracker and what follows it (R175, R177, R178) -/

theorem State.transit_eq_tracked (f : Media → Media) (s : State) : s.transit f = s.tracked (f s.media) := by
  simp only [State.transit, State.followAttention, State.tracked, State.isRunning, decide_eq_true_eq]
  congr 1
  split <;> split <;> rfl

/-- A motion begun (R161). -/
theorem State.startMotion_eq_tracked (kind : MotionKind) (engine : Engine) (forLabel forRecovery : Bool) (s : State) :
    s.startMotion kind engine forLabel forRecovery = s.tracked (s.media.moving s.now engine kind forLabel forRecovery) :=
  s.transit_eq_tracked _

/-- A change between two engine states whose entry and exit no notice announces, not to IDLE from another. -/
theorem State.tracked_of_unannounced {s : State} {m : Media} (hold : s.media.engine.announced = false)
    (hnew : m.engine.announced = false) (hidle : m.engine = .idle → s.media.engine = .idle) :
    s.tracked m = { s with media := { m with attention := m.counterHold } } := by
  have hfault : m.engine ≠ .fault := by
    intro h
    rw [h] at hnew
    cases hnew
  have hquiet : produces s.media m = false := by
    simp [produces, hold, hnew, hfault]
  have hstay : ¬ (m.engine = .idle ∧ s.media.engine ≠ .idle) := fun h => h.2 (hidle h.1)
  simp [State.tracked, hquiet, hstay, hfault]

/-- A change in a running part that a notice announces, not to IDLE. -/
theorem State.tracked_of_announced {s : State} {m : Media} (hrun : s.mode = .running)
    (hproduces : produces s.media m = true) (hidle : m.engine ≠ .idle) :
    s.tracked m = { s with
      media := { m with
        notice := some (noticeAfter s.media m), attention := decide (m.engine = .fault) || m.counterHold } } := by
  simp [State.tracked, hrun, hproduces, hidle]

/-- A motion begun where no notice is due (R161, R177). -/
theorem State.startMotion_of_unannounced {s : State} {kind : MotionKind} {engine : Engine} {forLabel forRecovery : Bool}
    (hold : s.media.engine.announced = false) (hnew : engine.announced = false) (hidle : engine ≠ .idle) :
    s.startMotion kind engine forLabel forRecovery = { s with
      media := { s.media.moving s.now engine kind forLabel forRecovery with attention := s.media.counterHold } } := by
  rw [State.startMotion_eq_tracked, State.tracked_of_unannounced hold hnew fun h => absurd h hidle]
  rfl

/-! ### Idle power and the wake (R175) -/

/-- The idle timer runs in a running part, IDLE with no ticket READY. -/
theorem State.idleRuns_iff (s : State) :
    s.idleRuns = true ↔ s.mode = .running ∧ s.media.engine = .idle ∧ s.someReady = false := by
  simp [State.idleRuns, State.isRunning, and_assoc]

/-- Power switched off while IDLE. -/
theorem State.powerDown_of_idle {s : State} (h : s.media.engine = .idle) : s.powerDown = { s with
    media := { s.media with engine := .off, power := false, attention := s.media.counterHold } } := by
  rw [State.powerDown, State.transit_eq_tracked, State.tracked_of_unannounced (by rw [h]; rfl) rfl (fun h => by cases h)]

/-- Settles O60. -/
theorem idlePowerAndWake : Obligations.IdlePowerAndWake := by
  unfold Obligations.IdlePowerAndWake
  refine ⟨fun s u hu => ⟨fun hrun hidle hready htime => ?_, fun hno => ?_⟩,
    fun s u m w hu hrun hm hw => ⟨fun hk => ?_, fun hk => ?_⟩⟩
  · refine exec_event_running (f := State.expireIdle) rfl hu ?_ hrun
    rw [State.expireIdle, if_pos ⟨(State.idleRuns_iff u).mpr ⟨hrun, hidle, hready⟩, htime⟩,
      State.powerDown_of_idle (by exact hidle)]
    rfl
  · refine exec_event_same (f := State.expireIdle) rfl hu (if_neg ?_)
    rw [State.idleRuns_iff]
    rintro ⟨⟨-, hidle, hready⟩, htime⟩
    rcases hno with h | h | h
    · exact h hidle
    · simp [h] at hready
    · exact htime h
  · refine exec_event_running (f := State.endWake) rfl hu ?_ hrun
    simp only [State.endWake, hm, hw, if_neg hk]
    rfl
  · refine exec_event_running (f := State.endWake) rfl hu ?_ (by simpa using hrun)
    simp only [State.endWake, hm, hw, if_pos hk]
    rfl

/-! ### FEED and CALIBRATE (R173) -/

theorem Engine.resting_iff (e : Engine) : e.resting = true ↔ e = .idle ∨ e = .off := by cases e <;> simp [Engine.resting]

theorem Engine.announced_of_resting {e : Engine} (h : e = .idle ∨ e = .off) : e.announced = false := by
  rcases h with rfl | rfl <;> rfl

theorem Engine.resting_eq_false {e : Engine} (hidle : e ≠ .idle) (hoff : e ≠ .off) : e.resting = false := by
  rw [Bool.eq_false_iff, ne_eq, Engine.resting_iff]
  exact fun h => h.elim hidle hoff

/-- A request that begins a motion from IDLE or OFF is answered with OK (R173). -/
theorem exec_beginsMotion {c : Instr} {code : Nat} {run : List Byte → State → State} {s u : State} {body : List Byte}
    {kind : MotionKind} {engine : Engine} (h : requestRun c = some (code, run))
    (hup : isUploadRequest (byte code) = false) (hu : s.settle = u) (ha : u.asks code body)
    (hrest : u.media.engine = .idle ∨ u.media.engine = .off) (hann : engine.announced = false) (hidle : engine ≠ .idle)
    (hr : run body (u.headGone code) = State.ok [] ((u.headGone code).startMotion kind engine false false)) :
    exec c s = .next (u.answered code (okReply code []) { u with
      media := { u.media.moving u.now engine kind false false with attention := u.media.counterHold } }) := by
  have hstart := State.startMotion_of_unannounced (s := u.headGone code) (kind := kind) (forLabel := false)
    (forRecovery := false) (Engine.announced_of_resting hrest) hann hidle
  exact exec_answered { u.headGone code with
    media := { u.media.moving u.now engine kind false false with attention := u.media.counterHold } }
    h hup hu ha (hr.trans (congrArg _ hstart))

/-- Settles O58. -/
theorem feedAndCalibrate : Obligations.FeedAndCalibrate := by
  unfold Obligations.FeedAndCalibrate
  intro s u body begun hu hbegun
  refine ⟨fun ha => ⟨fun hidle hoff => ?_, fun hrest => ⟨fun hm hp => ?_, fun hm hp => ?_, fun hm => ?_⟩⟩,
    fun ha => ⟨fun hidle hoff => ?_, fun hrest => ⟨fun hm => ?_, fun hm => ?_⟩⟩⟩
  · refine exec_refused rfl rfl hu ha ?_
    simp [State.runFeed, State.headGone, Engine.resting_eq_false hidle hoff]
  · rw [hbegun]
    refine exec_beginsMotion rfl rfl hu ha hrest rfl (by decide) ?_
    simp [State.runFeed, State.headGone, (Engine.resting_iff _).mpr hrest, Settings.registered, hm, hp]
  · rw [hbegun]
    refine exec_beginsMotion rfl rfl hu ha hrest rfl (by decide) ?_
    simp [State.runFeed, State.headGone, (Engine.resting_iff _).mpr hrest, Settings.registered, Settings.uncalibrated,
      hm, hp]
  · rw [hbegun]
    refine exec_beginsMotion rfl rfl hu ha hrest rfl (by decide) ?_
    simp [State.runFeed, State.headGone, (Engine.resting_iff _).mpr hrest, Settings.registered, Settings.uncalibrated,
      hm]
  · refine exec_refused rfl rfl hu ha ?_
    simp [State.runCalibrate, State.headGone, Engine.resting_eq_false hidle hoff]
  · rw [hbegun]
    refine exec_beginsMotion rfl rfl hu ha hrest rfl (by decide) ?_
    simp [State.runCalibrate, State.headGone, (Engine.resting_iff _).mpr hrest, hm]
  · refine exec_answered (u.headGone 0x33) rfl rfl hu ha ?_
    simp [State.runCalibrate, State.headGone, (Engine.resting_iff _).mpr hrest, hm]

end Sys2Proof.Machine
end


section
/-! SUPPORT. The settings (section 8.7, Tables 8-4 and 11-13). -/

set_option Elab.async false

namespace Sys2Proof.Machine

/-! ### What the renderer's steps leave alone -/

/-- What a step of the renderer leaves alone. -/
structure State.RendererFrame (s t : State) : Prop where
  battery : t.battery = s.battery
  store : t.store = s.store
  burn : t.burn = s.burn
  media : t.media = s.media
  sticky : t.sticky = s.sticky
  freeCount : t.freeCount = s.freeCount

theorem State.RendererFrame.trans {s t u : State} (h : s.RendererFrame t) (k : t.RendererFrame u) :
    s.RendererFrame u :=
  ⟨k.battery.trans h.battery, k.store.trans h.store, k.burn.trans h.burn, k.media.trans h.media,
    k.sticky.trans h.sticky, k.freeCount.trans h.freeCount⟩

theorem State.RendererFrame.refl (s : State) : s.RendererFrame s := ⟨rfl, rfl, rfl, rfl, rfl, rfl⟩

theorem State.readHand_frame (s : State) : s.RendererFrame s.readHand := by
  unfold State.readHand
  repeat' split
  all_goals exact ⟨rfl, rfl, rfl, rfl, rfl, rfl⟩

theorem State.RendererFrame.readHand {s t : State} (h : s.RendererFrame t) : s.RendererFrame t.readHand :=
  h.trans t.readHand_frame

theorem State.RendererFrame.renderNext {s t : State} (h : s.RendererFrame t) : s.RendererFrame t.renderNext := by
  obtain ⟨h1, h2, h3, h4, h5, h6⟩ := h
  unfold State.renderNext
  repeat' split
  · exact ⟨h1, h2, h3, h4, h5, h6⟩
  · unfold State.takeBuffer
    exact .readHand ⟨h1, h2, h3, h4, h5, h6⟩
  all_goals exact ⟨h1, h2, h3, h4, h5, h6⟩

theorem State.RendererFrame.freeTickets {s t : State} {keys : List TicketKey} (h : s.RendererFrame t) :
    s.RendererFrame (t.freeTickets keys) := by
  obtain ⟨h1, h2, h3, h4, h5, h6⟩ := h
  unfold State.freeTickets State.abandonDrawing
  dsimp only
  repeat' split
  all_goals exact ⟨h1, h2, h3, h4, h5, h6⟩

theorem State.printableChanged_frame (s : State) : s.RendererFrame s.printableChanged := by
  unfold State.printableChanged
  exact .renderNext (.freeTickets ⟨rfl, rfl, rfl, rfl, rfl, rfl⟩)

/-- A setting judged and written where its presence bit is set, and neither where it is clear. -/
theorem judged_given_iff {α : Type} (p ok : Bool) (v old new : α) :
    (judged p ok = true ∧ new = given p v old) ↔ (p = true → ok = true ∧ new = v) ∧ (¬ p = true → new = old) := by
  cases p <;> simp [judged, given]

theorem mediaTypeOf_iff (n : Nat) (new : MediaType) :
    (decide (n ≤ 2) = true ∧ new = if n = 0 then .gap else if n = 1 then .mark else .continuous) ↔
      (n = 0 ∧ new = .gap) ∨ (n = 1 ∧ new = .mark) ∨ (n = 2 ∧ new = .continuous) := by
  match n with
  | 0 => simp
  | 1 => simp
  | 2 => simp
  | n + 3 => simp

theorem presentationOf_iff (n : Nat) (new : Presentation) :
    (decide (n ≤ 2) = true ∧ new = if n = 0 then .tear else if n = 1 then .peel else .stream) ↔
      (n = 0 ∧ new = .tear) ∨ (n = 1 ∧ new = .peel) ∨ (n = 2 ∧ new = .stream) := by
  match n with
  | 0 => simp
  | 1 => simp
  | 2 => simp
  | n + 3 => simp

theorem flagOf_iff (n : Nat) (new : Bool) :
    (decide (n ≤ 1) = true ∧ new = (n == 1)) ↔ (n = 0 ∧ new = false) ∨ (n = 1 ∧ new = true) := by
  match n with
  | 0 => simp
  | 1 => simp
  | n + 2 => simp

theorem ranged_iff {n v : Nat} {ok : Nat → Prop} [DecidablePred ok] :
    (decide (ok n) = true ∧ v = n) ↔ v = n ∧ ok v := by
  rw [decide_eq_true_eq]
  constructor
  · rintro ⟨h, rfl⟩
    exact ⟨rfl, h⟩
  · rintro ⟨rfl, h⟩
    exact ⟨h, rfl⟩

/-- The settings that a SETTINGS_SET leaves, field by field. -/
theorem settingsOf_eq_some {body : List Byte} {old new : Settings} {p : Nat → Bool}
    (hp : p = (BitVec.ofNat 16 (num body 0 2)).getLsbD) : settingsOf body old = some new ↔
    num body 0 2 < 512 ∧ new.pitch = old.pitch ∧ new.gapLength = old.gapLength
    ∧ (judged (p 0) (decide (num body 2 1 ≤ 2)) = true ∧ new.mediaType = given (p 0)
        (if num body 2 1 = 0 then .gap else if num body 2 1 = 1 then .mark else .continuous) old.mediaType)
    ∧ (judged (p 1) (decide (num body 3 1 ≤ 2)) = true ∧ new.presentation = given (p 1)
        (if num body 3 1 = 0 then .tear else if num body 3 1 = 1 then .peel else .stream) old.presentation)
    ∧ (judged (p 2) (decide (num body 4 1 ≤ 200)) = true
      ∧ new.presentDistance = given (p 2) (num body 4 1) old.presentDistance)
    ∧ (judged (p 3) (decide (num body 5 2 ≤ 831)) = true ∧ new.leftOffset = given (p 3) (num body 5 2) old.leftOffset)
    ∧ (judged (p 4) (decide (num body 7 1 ≤ 1)) = true ∧ new.autoResume = given (p 4) (num body 7 1 == 1) old.autoResume)
    ∧ (judged (p 5) (decide (num body 8 2 = 0 ∨ (5 ≤ num body 8 2 ∧ num body 8 2 ≤ 600))) = true
      ∧ new.idleTime = given (p 5) (num body 8 2) old.idleTime)
    ∧ (judged (p 6) (historyOk (num body 10 1)) = true ∧ new.h1 = given (p 6) (num body 10 1) old.h1)
    ∧ (judged (p 7) (historyOk (num body 11 1)) = true ∧ new.h2 = given (p 7) (num body 11 1) old.h2)
    ∧ (judged (p 8) (historyOk (num body 12 1)) = true ∧ new.h3 = given (p 8) (num body 12 1) old.h3) := by
  subst hp
  obtain ⟨mediaType, pitch, gapLength, presentation, presentDistance, leftOffset, autoResume, idleTime, h1, h2, h3⟩ := new
  simp only [settingsOf, Bool.and_eq_true, decide_eq_true_eq, Option.ite_none_right_eq_some, Option.some.injEq,
    Settings.mk.injEq]
  constructor
  · rintro ⟨⟨⟨⟨⟨⟨⟨⟨⟨⟨j, j0⟩, j1⟩, j2⟩, j3⟩, j4⟩, j5⟩, j6⟩, j7⟩, j8⟩, rfl, rfl, rfl, rfl, rfl, rfl, rfl, rfl, rfl, rfl, rfl⟩
    exact ⟨j, rfl, rfl, ⟨j0, rfl⟩, ⟨j1, rfl⟩, ⟨j2, rfl⟩, ⟨j3, rfl⟩, ⟨j4, rfl⟩, ⟨j5, rfl⟩, ⟨j6, rfl⟩, ⟨j7, rfl⟩, j8, rfl⟩
  · rintro ⟨j, rfl, rfl, ⟨j0, rfl⟩, ⟨j1, rfl⟩, ⟨j2, rfl⟩, ⟨j3, rfl⟩, ⟨j4, rfl⟩, ⟨j5, rfl⟩, ⟨j6, rfl⟩, ⟨j7, rfl⟩, j8, rfl⟩
    exact ⟨⟨⟨⟨⟨⟨⟨⟨⟨⟨j, j0⟩, j1⟩, j2⟩, j3⟩, j4⟩, j5⟩, j6⟩, j7⟩, j8⟩, rfl, rfl, rfl, rfl, rfl, rfl, rfl, rfl, rfl, rfl, rfl⟩

/-- The ranges of Table 8-4, each judged where its presence bit is set. -/
theorem settingsOf_ranges {body : List Byte} {old new : Settings} {p : Nat → Prop}
    (hp : ∀ i, p i ↔ (num body 0 2).testBit i = true) :
    settingsOf body old = some new ↔
      num body 0 2 < 512 ∧ new.pitch = old.pitch ∧ new.gapLength = old.gapLength
      ∧ (p 0 → (num body 2 1 = 0 ∧ new.mediaType = .gap) ∨ (num body 2 1 = 1 ∧ new.mediaType = .mark)
        ∨ (num body 2 1 = 2 ∧ new.mediaType = .continuous))
      ∧ (¬ p 0 → new.mediaType = old.mediaType)
      ∧ (p 1 → (num body 3 1 = 0 ∧ new.presentation = .tear) ∨ (num body 3 1 = 1 ∧ new.presentation = .peel)
        ∨ (num body 3 1 = 2 ∧ new.presentation = .stream))
      ∧ (¬ p 1 → new.presentation = old.presentation)
      ∧ (p 2 → new.presentDistance = num body 4 1 ∧ new.presentDistance ≤ 200)
      ∧ (¬ p 2 → new.presentDistance = old.presentDistance)
      ∧ (p 3 → new.leftOffset = num body 5 2 ∧ new.leftOffset ≤ 831)
      ∧ (¬ p 3 → new.leftOffset = old.leftOffset)
      ∧ (p 4 → (num body 7 1 = 0 ∧ new.autoResume = false) ∨ (num body 7 1 = 1 ∧ new.autoResume = true))
      ∧ (¬ p 4 → new.autoResume = old.autoResume)
      ∧ (p 5 → new.idleTime = num body 8 2 ∧ (new.idleTime = 0 ∨ (5 ≤ new.idleTime ∧ new.idleTime ≤ 600)))
      ∧ (¬ p 5 → new.idleTime = old.idleTime)
      ∧ (p 6 → new.h1 = num body 10 1 ∧ 4 ≤ new.h1 ∧ new.h1 ≤ 16) ∧ (¬ p 6 → new.h1 = old.h1)
      ∧ (p 7 → new.h2 = num body 11 1 ∧ 4 ≤ new.h2 ∧ new.h2 ≤ 16) ∧ (¬ p 7 → new.h2 = old.h2)
      ∧ (p 8 → new.h3 = num body 12 1 ∧ 4 ≤ new.h3 ∧ new.h3 ≤ 16) ∧ (¬ p 8 → new.h3 = old.h3) := by
  have hbit : ∀ i < 16, (BitVec.ofNat 16 (num body 0 2)).getLsbD i = true ↔ p i := by
    intro i hi
    rw [hp, BitVec.getLsbD_ofNat]
    simp [hi]
  rw [settingsOf_eq_some rfl]
  simp only [judged_given_iff, mediaTypeOf_iff, presentationOf_iff, flagOf_iff, historyOk,
    ranged_iff (ok := fun n => n ≤ 200), ranged_iff (ok := fun n => n ≤ 831),
    ranged_iff (ok := fun n => n = 0 ∨ (5 ≤ n ∧ n ≤ 600)), ranged_iff (ok := fun n => 4 ≤ n ∧ n ≤ 16),
    hbit 0 (by decide), hbit 1 (by decide), hbit 2 (by decide), hbit 3 (by decide), hbit 4 (by decide),
    hbit 5 (by decide), hbit 6 (by decide), hbit 7 (by decide), hbit 8 (by decide), and_assoc]

/-! ### SETTINGS_SET and SETTINGS_GET (R174, R175, R190) -/

theorem State.setCount_zero (s : State) : s.setCount 0 = { s with media := { s.media with count := 0 } } := by
  simp [State.setCount]

theorem State.compareIdle_of_reached {s : State} (hrun : s.mode = .running) (hidle : s.media.engine = .idle)
    (hready : s.someReady = false) (htime : s.battery.settings.idleTime ≠ 0)
    (hreached : s.media.idleSince + s.battery.settings.idleTime * 1000000 ≤ s.now) :
    s.compareIdle = { s with
      media := { s.media with engine := .off, power := false, attention := s.media.counterHold } } := by
  rw [State.compareIdle, if_pos ⟨s.idleRuns_iff.mpr ⟨hrun, hidle, hready⟩, htime, Nat.le_sub_of_add_le' hreached⟩,
    State.powerDown_of_idle hidle]

theorem State.compareIdle_of_not_reached {s : State} (h : s.media.engine ≠ .idle ∨ s.someReady = true
    ∨ s.battery.settings.idleTime = 0 ∨ s.now < s.media.idleSince + s.battery.settings.idleTime * 1000000) :
    s.compareIdle = s := by
  refine if_neg ?_
  rw [State.idleRuns_iff, Settings.idleLimit]
  rintro ⟨⟨-, hidle, hready⟩, htime, hreached⟩
  rcases h with h | h | h | h
  · exact h hidle
  · simp [h] at hready
  · exact htime h
  · omega

/-- The settings accepted in a SETTINGS_SET that the engine state allows. -/
theorem runSettingsSet_accepted {x : State} {body : List Byte} {new : Settings}
    (h : settingsOf body x.battery.settings = some new)
    (hok : new.mediaType = x.battery.settings.mediaType ∨ x.media.engine = .idle ∨ x.media.engine = .off) :
    x.runSettingsSet body = State.ok [] (x.applySettings new) := by
  rw [State.runSettingsSet, h]
  refine if_neg ?_
  rintro ⟨hne, hrest⟩
  rcases hok with h | h
  · exact hne h
  · rw [(Engine.resting_iff _).mpr h] at hrest
    cases hrest

/-- The state in which a new media type has been accepted (R174). -/
def State.mediaTyped (new : Settings) (s : State) : State :=
  State.printableChanged { s with
    battery := Battery.checked { s.battery with settings := { new with pitch := 0, gapLength := 0 } }
    media := { s.media with count := 0 } }

theorem State.applySettings_sameMedia {s : State} {new : Settings} (h : new.mediaType = s.battery.settings.mediaType) :
    (new.idleTime = s.battery.settings.idleTime → s.applySettings new = s.writeSettings new)
    ∧ (new.idleTime ≠ s.battery.settings.idleTime → s.applySettings new = (s.writeSettings new).compareIdle) := by
  simp only [State.applySettings, if_pos h]
  exact ⟨fun ht => if_pos ht, fun ht => if_neg ht⟩

theorem State.applySettings_newMedia {s : State} {new : Settings} (h : new.mediaType ≠ s.battery.settings.mediaType) :
    (new.idleTime = s.battery.settings.idleTime → s.applySettings new = s.mediaTyped new)
    ∧ (new.idleTime ≠ s.battery.settings.idleTime → s.applySettings new = (s.mediaTyped new).compareIdle) := by
  simp only [State.applySettings, if_neg h, State.setCount_zero]
  exact ⟨fun ht => if_pos ht, fun ht => if_neg ht⟩

/-- Settles O59. -/
theorem settingsAreSetAndRead : Obligations.SettingsAreSetAndRead := by
  unfold Obligations.SettingsAreSetAndRead
  refine ⟨fun s u body hu ha => ⟨fun hnone => ?_, fun new hnew => ⟨fun hmedia hidle hoff => ?_, fun hmedia htime => ?_,
    fun hmedia hrest htime => ?_, fun hmedia htime hne hidle hready hreached => ?_, fun hmedia htime hno => ?_,
    fun w hmedia hrest htime hw => ⟨fun hidle hready hne hreached => ?_, fun hno => ?_⟩⟩⟩,
    fun body old new p hp => settingsOf_ranges hp, fun service s u body hu ha => ?_⟩
  · refine exec_refused rfl rfl hu ha ?_
    simp [State.runSettingsSet, hnone]
  · refine exec_refused rfl rfl hu ha ?_
    simp [State.runSettingsSet, hnew, hmedia, Engine.resting_eq_false hidle hoff]
  · refine exec_answered ((u.headGone 0x34).writeSettings new) rfl rfl hu ha ?_
    rw [runSettingsSet_accepted (x := u.headGone 0x34) hnew (.inl hmedia),
      (State.applySettings_sameMedia (s := u.headGone 0x34) hmedia).1 htime]
  · refine exec_answered (State.printableChanged { u.headGone 0x34 with
      battery := Battery.checked { u.battery with settings := { new with pitch := 0, gapLength := 0 } }
      media := { u.media with count := 0 } }) rfl rfl hu ha ?_ (by simp) (by simp) (by simp) (by simp)
    rw [runSettingsSet_accepted (x := u.headGone 0x34) hnew (.inr hrest),
      (State.applySettings_newMedia (s := u.headGone 0x34) hmedia).1 htime]
    rfl
  · refine exec_answered { u.headGone 0x34 with
      battery := Battery.checked { u.battery with settings := new }
      media := { u.media with engine := .off, power := false, attention := u.media.counterHold } } rfl rfl hu ha ?_
    rw [runSettingsSet_accepted (x := u.headGone 0x34) hnew (.inl hmedia),
      (State.applySettings_sameMedia (s := u.headGone 0x34) hmedia).2 htime,
      State.compareIdle_of_reached (s := (u.headGone 0x34).writeSettings new) (State.headItem_some ha.1).1 hidle hready hne hreached]
    rfl
  · refine exec_answered ((u.headGone 0x34).writeSettings new) rfl rfl hu ha ?_
    rw [runSettingsSet_accepted (x := u.headGone 0x34) hnew (.inl hmedia),
      (State.applySettings_sameMedia (s := u.headGone 0x34) hmedia).2 htime,
      State.compareIdle_of_not_reached (s := (u.headGone 0x34).writeSettings new)]
    rcases hno with h | h | h | h
    · exact .inr (.inr (.inl h))
    · exact .inl h
    · exact .inr (.inl h)
    · exact .inr (.inr (.inr h))
  · have hrun : w.mode = .running := by rw [hw]; simpa using (State.headItem_some ha.1).1
    have hnow : w.now = u.now := by simp [hw]
    have hbattery : w.battery.settings.idleTime = new.idleTime := by rw [hw, (State.printableChanged_frame _).battery]; rfl
    refine exec_answered { w with
        media := { w.media with engine := .off, power := false, attention := w.media.counterHold } }
      rfl rfl hu ha ?_ (by simp [hw]) (by simp [hw]) (by simp [hw]) (by simp [hw])
    rw [runSettingsSet_accepted (x := u.headGone 0x34) hnew (.inr hrest),
      (State.applySettings_newMedia (s := u.headGone 0x34) hmedia).2 htime]
    refine congrArg (State.ok []) (Eq.trans (congrArg State.compareIdle hw.symm) ?_)
    exact State.compareIdle_of_reached hrun hidle hready (hbattery ▸ hne) (by rw [hbattery, hnow]; exact hreached)
  · have hnow : w.now = u.now := by simp [hw]
    have hbattery : w.battery.settings.idleTime = new.idleTime := by rw [hw, (State.printableChanged_frame _).battery]; rfl
    refine exec_answered w rfl rfl hu ha ?_ (by simp [hw]) (by simp [hw]) (by simp [hw]) (by simp [hw])
    rw [runSettingsSet_accepted (x := u.headGone 0x34) hnew (.inr hrest),
      (State.applySettings_newMedia (s := u.headGone 0x34) hmedia).2 htime]
    refine congrArg (State.ok []) (Eq.trans (congrArg State.compareIdle hw.symm) ?_)
    exact State.compareIdle_of_not_reached (by rw [hbattery, hnow]; exact hno)
  · exact exec_answered (u.headGone 0x35) rfl rfl hu ha rfl

end Sys2Proof.Machine
end


section
/-! SUPPORT. Label starts, the rest state, the path from FAULT, presentation, PAUSE and RESUME (sections 8.1, 8.2, 8.6
and 8.7). -/

set_option Elab.async false

namespace Sys2Proof.Machine

/-! ### What a label start turns on (R160, R171) -/

theorem State.printing_eq_none_iff (s : State) : s.printing = none ↔ ∀ t ∈ s.queue.tickets, t.state ≠ .printing := by
  simp [State.printing]

theorem State.printing_isSome_iff (s : State) : s.printing.isSome = true ↔ ∃ t ∈ s.queue.tickets, t.state = .printing := by
  simp [State.printing]

/-- The oldest ticket is READY and none is PRINTING. -/
theorem State.oldestReady_iff (s : State) : s.oldestReady = true ↔
    (∃ t rest, s.queue.tickets = t :: rest ∧ t.state = .ready) ∧ ∀ t ∈ s.queue.tickets, t.state ≠ .printing := by
  rw [State.oldestReady, Bool.and_eq_true, Option.isNone_iff_eq_none, State.printing_eq_none_iff, and_comm]
  cases h : s.queue.tickets with
  | nil => simp
  | cons t rest => simp

theorem State.awaitsTake_iff (s : State) : s.awaitsTake = true ↔
    s.media.out ≠ none ∧ s.media.presentedUnder = .peel ∧ s.lines.noLabel = false := by
  simp [State.awaitsTake, Option.isSome_iff_ne_none, and_assoc]

/-! ### PAUSE and RESUME (R170, R172) -/

theorem Engine.pausesAtOnce_iff (e : Engine) : e.pausesAtOnce = true ↔ e = .idle ∨ e = .off ∨ e = .presented := by
  cases e <;> simp [Engine.pausesAtOnce]

/-- A running part's engine becomes PAUSED from another state, with its notice. -/
theorem State.enterPause_of_not_paused {s : State} (hrun : s.mode = .running) (h : s.media.engine ≠ .paused) {m : Media}
    (hm : m = { s.media with engine := .paused, pausePending := false, motion := none, labelLine := .none }) :
    s.enterPause = { s with
      media := { m with notice := some (noticeAfter s.media m), attention := s.media.counterHold } } := by
  have hproduces : produces s.media m = true := by
    rw [hm]
    simp [produces, Engine.announced, h]
  have hengine : m.engine = .paused := by rw [hm]
  have hhold : m.counterHold = s.media.counterHold := by rw [hm]
  rw [State.enterPause, State.transit_eq_tracked, ← hm,
    State.tracked_of_announced hrun hproduces (by rw [hengine]; decide), hengine, hhold]
  rfl

theorem State.takePause_atOnce {s : State} (hpending : s.media.pausePending = false)
    (he : s.media.engine = .idle ∨ s.media.engine = .off ∨ s.media.engine = .presented) :
    s.takePause = s.enterPause := by
  have hne : s.media.engine ≠ .paused := by
    rintro h
    simp [h] at he
  rw [State.takePause, if_neg (by simp [hne, hpending]), if_pos ((Engine.pausesAtOnce_iff _).mpr he)]

theorem State.takePause_later {s : State} (hpending : s.media.pausePending = false) (hpaused : s.media.engine ≠ .paused)
    (hidle : s.media.engine ≠ .idle) (hoff : s.media.engine ≠ .off) (hpresented : s.media.engine ≠ .presented) :
    s.takePause = { s with media := { s.media with pausePending := true } } := by
  have hnot : ¬ s.media.engine.pausesAtOnce = true := by
    rw [Engine.pausesAtOnce_iff]
    exact fun h => h.elim hidle fun h => h.elim hoff hpresented
  rw [State.takePause, if_neg (by simp [hpaused, hpending]), if_neg hnot]

/-- A RESUME that is not refused answers the engine state it leaves. -/
theorem exec_resume_taken {s u v : State} {body : List Byte} (hu : s.settle = u) (ha : u.asks 0x31 body)
    (hcond : ¬ (u.media.engine = .fault ∧ u.media.causes.condition = true)) (hv : (u.headGone 0x31).takeResume = v)
    (hkind : v.dec.kind = byte 0x31) :
    exec .resume s = .next (v.answered 0x31 (okReply 0x31 [byte (engineCode v.media.engine)]) v) := by
  rw [exec_request_headGone rfl rfl hu ha, ← State.ok_eq_answered v v 0x31 _ rfl hkind rfl rfl rfl, ← hv]
  exact congrArg _ (if_neg hcond)

/-- Settles O57. -/
theorem pauseAndResume : Obligations.PauseAndResume := by
  unfold Obligations.PauseAndResume
  refine ⟨fun s u body hu ha => ⟨fun h => ?_, fun hpending => ⟨fun m he hm => ?_, fun hpaused hidle hoff hpres => ?_⟩⟩,
    fun s u body hu ha => ⟨fun he hc => ?_, fun v he hc hv => ?_, fun v he hv => ?_, fun hpaused hfault => ?_⟩⟩
  · refine exec_answered (u.headGone 0x30) rfl rfl hu ha ?_
    have : (u.headGone 0x30).takePause = u.headGone 0x30 := if_pos h
    simp [State.runPause, this]
  · have hne : u.media.engine ≠ .paused := by
      intro h
      rw [h] at he
      simp at he
    refine exec_answered { u.headGone 0x30 with
      media := { m with notice := some (noticeAfter u.media m), attention := u.media.counterHold } } rfl rfl hu ha ?_
    rw [State.runPause, State.takePause_atOnce (s := u.headGone 0x30) hpending he,
      State.enterPause_of_not_paused (s := u.headGone 0x30) (State.headItem_some ha.1).1 hne hm]
    simp [hm, flagByte]
  · refine exec_answered { u.headGone 0x30 with media := { u.media with pausePending := true } } rfl rfl hu ha ?_
    rw [State.runPause, State.takePause_later (s := u.headGone 0x30) hpending hpaused hidle hoff hpres]
    simp [hpaused, flagByte]
  · exact exec_refused rfl rfl hu ha (if_pos ⟨he, hc⟩)
  · refine exec_resume_taken (v := v) hu ha (by simp [hc]) ?_ (by simp [hv])
    simp [hv, State.takeResume, he]
  · refine exec_answered v rfl rfl hu ha ?_ (by simp [hv]) (by simp [hv]) (by simp [hv]) (by simp [hv])
    simp [hv, State.runResume, State.takeResume, he]
  · refine exec_resume_taken (v := { u.headGone 0x31 with media := { u.media with pausePending := false } }) hu ha
      (fun h => hfault h.1) ?_ rfl
    simp [State.takeResume, hpaused, hfault]

end Sys2Proof.Machine
end


section
/-! SUPPORT. The presentation of a label and its taking; the label start, the rest state and the path from FAULT
(sections 8.1, 8.2, 8.5 and 8.6). -/

set_option Elab.async false

namespace Sys2Proof.Machine

/-! ### The presentation (R171) -/

/-- A motion begun in an engine state that no notice announces, with power UP. -/
theorem State.present_feed {s : State} {distance : Nat} (under : Presentation) (hengine : s.media.engine = .printing)
    (hpower : s.media.power = true) (hd : distance ≠ 0) :
    s.present distance under = { s with
      media := { s.media with
        presentedUnder := under
        engine := .presenting
        motion := some
          { kind := .present distance 0, forLabel := false, forRecovery := false, wake := none, due := s.now + 1250 }
        attention := s.media.counterHold } } := by
  rw [State.present, if_neg hd, State.startMotion_of_unannounced (by exact hengine ▸ rfl) rfl (by decide)]
  simp [Media.moving, hpower]

/-- The rest state taken from PRESENTED. -/
theorem State.rest_of_presented {s : State} (h : s.media.engine = .presented) (hout : s.media.out = none) :
    s.rest = { s with
      media := { s.media with
        engine := if s.media.power = true then .idle else .off
        idleSince := if s.media.power = true then s.now else s.media.idleSince
        motion := none, labelLine := .none
        attention := s.media.counterHold } } := by
  rw [State.rest, State.transit_eq_tracked]
  cases hp : s.media.power <;>
    simp [State.tracked, Media.restState, produces, Engine.announced, h, hout, hp]

/-- The take of a label that stands out at a distance of 0. -/
theorem State.takeLabel_of_zero {s v : State} (h : s.media.out = some 0)
    (hv : v = { s with media := { s.media with out := none } }) :
    s.takeLabel = if v.oldestReady = true then v.prelimCalibrate else v.rest := by
  rw [State.takeLabel, h, hv]

theorem State.takeLabel_of_feed {s : State} {d : Nat} (h : s.media.out = some (d + 1)) :
    s.takeLabel = s.startMotion (.backfeed (d + 1)) .presenting false false := by
  rw [State.takeLabel, h]

theorem State.takeLabel_of_none {s : State} (h : s.media.out = none) : s.takeLabel = s := by
  rw [State.takeLabel, h]

/-- A PEEL label that is presented and found taken (R171). -/
theorem State.seeTaken_of_presented {u w : State} {noLabel : Bool} (hrun : u.mode = .running) (hl : noLabel = true)
    (he : u.media.engine = .presented) (hp : u.media.presentedUnder = .peel)
    (hw : w = { u with lines := { u.lines with noLabel := noLabel } }) : State.seeTaken noLabel u = w.takeLabel :=
  (if_pos ⟨hl, by simpa [State.isRunning] using hrun, he, hp⟩).trans (congrArg State.takeLabel hw.symm)

/-- Settles O56. -/
theorem labelIsPresentedAndTaken : Obligations.LabelIsPresentedAndTaken := by
  unfold Obligations.LabelIsPresentedAndTaken
  refine ⟨fun noLabel s u w hu hrun hw => ⟨fun hno => ?_, fun d hl he hp ho => ?_,
    fun v starts hl he hp hv hstarts => ⟨fun ho => ⟨fun hs => ?_, fun hs => ?_⟩, fun ho => ?_⟩⟩,
    fun s distance => ⟨fun h => ?_, fun h hno => ?_, fun h hready hd => ?_, fun h => ?_,
      fun under he hp => ⟨rfl, fun hd => State.present_feed under he hp hd⟩⟩⟩
  · refine exec_event_same (f := State.seeTaken noLabel) rfl hu ?_ (by rw [hw]) (by rw [hw]) (by rw [hw])
    rw [hw]
    refine if_neg ?_
    rintro ⟨hl, -, he, hp⟩
    rcases hno with h | h | h
    · simp [h] at hl
    · exact h he
    · exact h hp
  · refine exec_event_running (f := State.seeTaken noLabel) rfl hu ?_ (by rw [hw]; exact hrun)
    rw [State.seeTaken_of_presented hrun hl he hp hw, State.takeLabel_of_feed (d := d) (by rw [hw]; exact ho), hw]
    exact State.startMotion_of_unannounced (by exact he ▸ rfl) rfl (by decide)
  · refine exec_event_running (f := State.seeTaken noLabel) rfl hu ?_ (by rw [hv, hw]; simpa using hrun)
    have hv' : v = { w with media := { w.media with out := none } } := by rw [hv, hw]
    rw [State.seeTaken_of_presented hrun hl he hp hw, State.takeLabel_of_zero (by rw [hw]; exact ho) hv',
      if_pos (v.oldestReady_iff.mpr (by rw [hv, hw]; exact hstarts.mp hs))]
  · refine exec_event_running (f := State.seeTaken noLabel) rfl hu ?_ (by rw [hw]; exact hrun)
    have hnot : ¬ v.oldestReady = true := fun h => hs (hstarts.mpr (by rw [hv, hw] at h; exact (State.oldestReady_iff _).mp h))
    have hv' : v = { w with media := { w.media with out := none } } := by rw [hv, hw]
    rw [State.seeTaken_of_presented hrun hl he hp hw, State.takeLabel_of_zero (by rw [hw]; exact ho) hv', if_neg hnot, hv,
      hw]
    exact State.rest_of_presented (by exact he) rfl
  · refine exec_event_running (f := State.seeTaken noLabel) rfl hu ?_ (by rw [hw]; exact hrun)
    rw [State.seeTaken_of_presented hrun hl he hp hw, State.takeLabel_of_none (by rw [hw]; exact ho), hw]
  · simp [State.afterCompletion, h]
  · rcases hno with hn | hn <;> simp [State.afterCompletion, h, hn]
  · simp [State.afterCompletion, h, hready, hd]
  · simp [State.afterCompletion, h]

end Sys2Proof.Machine
end


section
/-! SUPPORT. The label start with its preliminaries, the rest state and the path from FAULT (sections 8.1, 8.2 and
8.5). -/

set_option Elab.async false

namespace Sys2Proof.Machine

/-! ### ENGINE notices (R177) -/

theorem Engine.announced_iff (e : Engine) : e.announced = true ↔ e = .hold ∨ e = .paused ∨ e = .fault := by
  cases e <;> simp [Engine.announced]

theorem produces_iff (old new : Media) : produces old new = true ↔
    (old.engine ≠ new.engine ∧ (old.engine = .hold ∨ old.engine = .paused ∨ old.engine = .fault
      ∨ new.engine = .hold ∨ new.engine = .paused ∨ new.engine = .fault))
    ∨ (old.engine = .fault ∧ new.engine = .fault ∧ old.causes ≠ new.causes) := by
  simp only [produces, Bool.or_eq_true, Bool.and_eq_true, decide_eq_true_eq, Engine.announced_iff, or_assoc, and_assoc]

theorem Media.stateBits_of (m : Media) : (m.engine = .hold → m.stateBits = holdBits m.holds)
    ∧ (m.engine = .fault → m.stateBits = causeBits m.causes)
    ∧ (m.engine ≠ .hold → m.engine ≠ .fault → m.stateBits = 0) := by
  unfold Media.stateBits
  cases m.engine <;> simp

/-! ### The preliminaries of a label start (R160, R165) -/

/-- GAP or MARK media with P above 0. -/
theorem Settings.registered_iff (st : Settings) : st.registered = true ↔ st.mediaType ≠ .continuous ∧ st.pitch ≠ 0 := by
  simp [Settings.registered, Nat.pos_iff_ne_zero]

theorem Settings.uncalibrated_iff (st : Settings) : st.uncalibrated = true ↔ st.mediaType ≠ .continuous ∧ st.pitch = 0 := by
  simp [Settings.uncalibrated]

theorem State.startResync_eq_tracked (forLabel : Bool) (s : State) : s.startResync forLabel
    = s.tracked (Media.moving { s.media with out := none } s.now .resync (.resyncSeek 0) forLabel false) := by
  rw [State.startResync, State.startMotion_eq_tracked]
  rfl

theorem State.attempt_of_feed {s : State} {d : Nat} (h : s.media.out = some (d + 1)) :
    s.attempt = s.tracked (s.media.moving s.now .presenting (.backfeed (d + 1)) true false) := by
  rw [State.attempt, h]
  exact State.startMotion_eq_tracked ..

theorem State.attempt_of_none {s : State} (h : s.media.out = none ∨ s.media.out = some 0) :
    s.attempt = State.prelimCalibrate { s with media := { s.media with out := none } } := by
  rcases h with h | h
  · have hmedia : ({ s.media with out := none } : Media) = s.media := by rw [← h]
    rw [hmedia, State.attempt, h]
  · rw [State.attempt, h]

theorem State.prelimCalibrate_of_uncalibrated {s : State} (hm : s.battery.settings.mediaType ≠ .continuous)
    (hp : s.battery.settings.pitch = 0) :
    s.prelimCalibrate = s.tracked (s.media.moving s.now .calibrating (.calibrateSeek 0) true false) := by
  rw [State.prelimCalibrate, if_pos ((Settings.uncalibrated_iff _).mpr ⟨hm, hp⟩), State.startMotion_eq_tracked]

theorem State.prelimCalibrate_of_doubtful {s : State} (hm : s.battery.settings.mediaType ≠ .continuous)
    (hp : s.battery.settings.pitch ≠ 0) (hc : 128 ≤ s.media.count) : s.prelimCalibrate
      = s.tracked (Media.moving { s.media with out := none } s.now .resync (.resyncSeek 0) true false) := by
  rw [State.prelimCalibrate, if_neg (fun h => hp ((Settings.uncalibrated_iff _).mp h).2), State.prelimResync,
    if_pos ⟨hc, (Settings.registered_iff _).mpr ⟨hm, hp⟩⟩, State.startResync_eq_tracked]

theorem State.prelimCalibrate_of_ready {s : State} (h : s.battery.settings.mediaType = .continuous
    ∨ (s.battery.settings.pitch ≠ 0 ∧ s.media.count < 128)) : s.prelimCalibrate
      = if s.media.power = true then s.settleStart else s.tracked (s.media.moving s.now .printing .awaitStart true false) := by
  rw [State.prelimCalibrate, if_neg, State.prelimResync, if_neg, State.startMotion_eq_tracked]
  · rw [Settings.registered_iff]
    rintro ⟨hc, hm, -⟩
    rcases h with h | h
    · exact hm h
    · omega
  · rw [Settings.uncalibrated_iff]
    rintro ⟨hm, hp⟩
    rcases h with h | h
    · exact hm h
    · exact h.1 hp

/-! ### The rest state, and the attempt examined afresh (R159, R160, R171) -/

theorem State.rest_eq_tracked (s : State) : s.rest = s.tracked { s.media with
    engine := if s.media.out ≠ none then .presented else if s.media.power = true then .idle else .off
    motion := none, labelLine := .none } := by
  rw [State.rest, State.transit_eq_tracked, Media.restState]
  simp only [Option.isSome_iff_ne_none]

theorem State.startLabel_eq {s : State} {t : Ticket} {rest : List Ticket} (h : s.queue.tickets = t :: rest) :
    s.startLabel = State.lineStart 0
      (State.tracked
        { s with
          burn := (s.startBurn t).burn
          queue := s.queue.updateTicket t.key fun k => { k with state := .printing } }
        { s.media with
          engine := .printing
          motion := some { kind := .label, forLabel := false, forRecovery := false, wake := none, due := s.now }
          labelLine := .standing 0, goodSeen := false, badSeen := false }) := by
  rw [State.startLabel, h]
  dsimp only
  rw [State.transit_eq_tracked]
  rfl

theorem State.oldestReady_congr {s t : State} (h : t.queue = s.queue) : t.oldestReady = s.oldestReady := by
  simp only [State.oldestReady, State.printing, h]

/-- The rest state's engine, and what it leaves as it was. -/
theorem State.rest_media (s : State) : (s.rest.media.engine = .presented ↔ s.media.out ≠ none)
    ∧ s.rest.media.out = s.media.out ∧ s.rest.media.presentedUnder = s.media.presentedUnder
    ∧ s.rest.lines = s.lines ∧ s.rest.queue = s.queue := by
  rw [State.rest_eq_tracked]
  refine ⟨?_, rfl, rfl, rfl, rfl⟩
  cases s.media.out <;> cases s.media.power <;> simp [State.tracked]

theorem State.restPresented_of_kept {s : State}
    (h : s.media.out = none ∨ s.media.presentedUnder ≠ .peel ∨ s.lines.noLabel = false) : s.restPresented = s.rest := by
  obtain ⟨hengine, -, hunder, hlines, -⟩ := s.rest_media
  refine if_neg ?_
  rw [hengine, hunder, hlines]
  rintro ⟨hout, hpeel, hl⟩
  rcases h with h | h | h
  · exact hout h
  · exact h hpeel
  · simp [h] at hl

theorem State.restPresented_of_taken {s : State} (hpeel : s.media.presentedUnder = .peel) (hl : s.lines.noLabel = true)
    (hout : s.media.out ≠ none) : s.restPresented = s.rest.takeLabel := by
  obtain ⟨hengine, -, hunder, hlines, -⟩ := s.rest_media
  exact if_pos ⟨hengine.mpr hout, hunder.trans hpeel, hlines ▸ hl⟩

theorem State.settleStart_of_pause {s : State} (h : s.media.pausePending = true) :
    s.settleStart = s.enterPause ∧ s.beginOrRest = s.enterPause := ⟨if_pos h, if_pos h⟩

theorem State.settleStart_of_no_pause {s : State} (h : s.media.pausePending = false) :
    s.settleStart = (if s.oldestReady = true then s.startLabel else s.rest)
    ∧ s.beginOrRest = if s.oldestReady = true ∧ s.awaitsTake = false then s.attempt else s.restPresented :=
  ⟨if_neg (by simp [h]), if_neg (by simp [h])⟩

theorem State.atRest_iff (s : State) : s.atRest = true ↔
    s.media.engine = .idle ∨ s.media.engine = .off ∨ (s.media.engine = .presented ∧ ¬ s.awaitsTake = true) := by
  unfold State.atRest
  cases s.media.engine <;> simp

/-! ### The path from FAULT, and printing taken up again (R158, R170) -/

/-- Printing taken up again, before a held line start is taken again. -/
def State.printingAgain (s : State) : State := s.tracked { s.media with
  engine := .printing, holds := ⟨false, false, false⟩, setAside := ⟨false, false, false⟩ }

theorem State.resumePrinting_eq (s : State) : s.resumePrinting
    = match s.media.labelLine with
      | .standing n => s.printingAgain.placeEngine.lineStart n
      | _ => s.printingAgain := by
  rw [State.resumePrinting, State.transit_eq_tracked]
  rfl

theorem Holds.none_iff (h : Holds) : h.none = true ↔ h = ⟨false, false, false⟩ := by
  obtain ⟨a, b, c⟩ := h
  simp [Holds.none, and_assoc]

theorem State.faultPath_of_printing {s : State} (h : s.printing.isSome = true) : s.faultPath
    = if s.media.setAside.none = true then s.resumePrinting
      else s.tracked { s.media with engine := .hold, holds := s.media.setAside, setAside := ⟨false, false, false⟩ } := by
  rw [State.faultPath, if_pos h, State.transit_eq_tracked]
  rfl

theorem State.faultPath_of_not_printing {s : State} (h : s.printing = none) : s.faultPath
    = if s.media.causes.mediaLost = true then
        if s.battery.settings.pitch = 0 then s.tracked (s.media.moving s.now .calibrating (.calibrateSeek 0) false true)
        else s.tracked (s.media.moving s.now .resync (.recoverySeek 0) false true)
      else if s.battery.settings.registered = true then
        s.tracked (Media.moving { s.media with out := none } s.now .resync (.resyncSeek 0) false false)
      else s.beginOrRest := by
  rw [State.faultPath, if_neg (by simp [h]), State.startMotion_eq_tracked, State.startMotion_eq_tracked,
    State.startResync_eq_tracked]

/-- The notice pending is placed where no JOB_END waits and the room is there. -/
theorem State.placeEngine_of_room {s : State} {n : EngineNotice} (hn : s.media.notice = some n) (hrun : s.mode = .running)
    (hrestart : s.line.restart = none) (hending : s.queue.ending = []) (hroom : (engineFrame n).length ≤ s.freeRoom) :
    s.placeEngine = { s.place (engineFrame n) with media := { s.media with notice := none } } := by
  have hmay : s.mayNotify = true := by simp [State.mayNotify, State.isRunning, hrun, hrestart]
  rw [State.placeEngine, hn]
  exact if_pos ⟨hmay, hending, hroom⟩

/-- A hold requested in a running part that prints, with no notice pending (R156 to R158, R177). -/
theorem State.requestHold_of_printing {s : State} {reasons : Holds} (hrun : s.mode = .running)
    (he : s.media.engine = .printing) (hn : s.media.notice = none) :
    (s.requestHold reasons).media = { s.media with
      engine := .hold, holds := reasons
      notice := some { newState := .hold, newBits := holdBits reasons, oldState := .printing, oldBits := 0
                       count := s.media.count, coalesced := 1 }
      attention := s.media.counterHold } := by
  rw [State.requestHold, State.transit_eq_tracked, State.tracked_of_announced]
  · simp [noticeAfter, hn, he, Media.stateBits]
  · exact hrun
  · simp [produces, he, Engine.announced]
  · simp

/-- The notice of the exit from HOLD placed before the held line start is taken again and held anew (R158). -/
theorem State.resumePrinting_heldAgain {s : State} {n : Nat} {t : Ticket} {v : LabelValues} {failed : Holds}
    {left : EngineNotice} (hrun : s.mode = .running) (hrestart : s.line.restart = none) (hending : s.queue.ending = [])
    (he : s.media.engine = .hold) (hn : s.media.notice = none) (hl : s.media.labelLine = .standing n)
    (ht : s.printing = some t) (hv : s.burn.values = some v) (hf : failed = s.lineChecks t n)
    (hfail : failed ≠ ⟨false, false, false⟩)
    (hleft : left = { newState := .printing, newBits := 0, oldState := .hold, oldBits := holdBits s.media.holds
                      count := s.media.count, coalesced := 1 })
    (hroom : (engineFrame left).length ≤ s.freeRoom) :
    s.resumePrinting.media.engine = .hold ∧ s.resumePrinting.media.holds = failed
    ∧ s.resumePrinting.line.output = s.line.output ++ engineFrame left
    ∧ s.resumePrinting.media.notice =
      some { newState := .hold, newBits := holdBits failed, oldState := .printing, oldBits := 0
             count := s.media.count, coalesced := 1 } := by
  have hagain : s.printingAgain = { s with media := { s.media with
      engine := .printing, holds := ⟨false, false, false⟩, setAside := ⟨false, false, false⟩
      notice := some left, attention := s.media.counterHold } } := by
    rw [State.printingAgain, State.tracked_of_announced hrun (by simp [produces, he, Engine.announced]) (by simp)]
    simp [noticeAfter, hn, he, Media.stateBits, hleft]
  obtain ⟨x, hx, hplaced⟩ : ∃ x, s.printingAgain.placeEngine = x ∧ x = { s with
      line := { s.line with
        output := s.line.output ++ engineFrame left
        sending := if s.line.sending = none ∧ s.lines.rts = true ∧ s.line.output ++ engineFrame left ≠ [] then some s.now
          else s.line.sending }
      media := { s.media with
        engine := .printing, holds := ⟨false, false, false⟩, setAside := ⟨false, false, false⟩
        notice := none, attention := s.media.counterHold } } := by
    refine ⟨_, rfl, ?_⟩
    rw [State.placeEngine_of_room (n := left) (by rw [hagain]) (by rw [hagain]; exact hrun)
      (by rw [hagain]; exact hrestart) (by rw [hagain]; exact hending) (by rw [hagain]; exact hroom), State.place,
      State.beginSending_eq, hagain]
  have hchecks : x.lineChecks t n = failed := by rw [hplaced, hf]; rfl
  have hstart : s.resumePrinting = x.requestHold failed := by
    rw [State.resumePrinting_eq, hl]
    dsimp only
    rw [hx, State.lineStart_of_failed (t := t) (v := v) (by rw [hplaced]; exact ht) (by rw [hplaced]; exact hv), hchecks]
    rw [hchecks, ne_eq, Holds.none_iff]
    exact hfail
  have hmedia := State.requestHold_of_printing (s := x) (reasons := failed) (by rw [hplaced]; exact hrun)
    (by rw [hplaced]) (by rw [hplaced])
  rw [hstart]
  refine ⟨by rw [hmedia], by rw [hmedia], ?_, by rw [hmedia, hplaced]⟩
  rw [State.requestHold, State.transit_eq_tracked, hplaced]
  rfl

/-- Settles O55. -/
theorem labelStartRestAndFaultPath : Obligations.LabelStartRestAndFaultPath := by
  unfold Obligations.LabelStartRestAndFaultPath
  refine ⟨fun old new => ⟨produces_iff old new, fun h => ?_, new.stateBits_of.1, new.stateBits_of.2.1,
      new.stateBits_of.2.2, fun n h => ?_⟩,
    fun s starts awaits hstarts hawaits => ?_, fun s w hw => ?_⟩
  · rw [noticeAfter, h]
  · rw [noticeAfter, h]
    rfl
  · rw [← State.oldestReady_iff] at hstarts
    rw [← State.awaitsTake_iff] at hawaits
    rw [hstarts, hawaits]
    refine ⟨fun hs hp he => ?_, fun hno => ?_, fun d hd => State.attempt_of_feed hd, fun ho => State.attempt_of_none ho,
      fun hm hp => State.prelimCalibrate_of_uncalibrated hm hp, fun hm hp hc => State.prelimCalibrate_of_doubtful hm hp hc,
      fun h => ⟨fun hpower => ?_, fun hpower => ?_⟩, fun hp x hx => ?_,
      fun hp => ⟨fun hs t rest ht => ?_, fun hs => ?_, fun hs ha => ?_, fun hno => ?_⟩,
      s.rest_eq_tracked, fun h => State.restPresented_of_kept h,
      fun hpeel hl => ⟨fun d hd => ?_, fun ho v hv => ⟨fun hs => ?_, fun hs => ?_⟩⟩⟩
    · exact if_pos ⟨s.atRest_iff.mpr he, hs, hp⟩
    · refine if_neg ?_
      rw [State.atRest_iff]
      rintro ⟨he, hs, hp⟩
      rcases hno with h | h | ⟨h1, h2, h3⟩
      · exact h hs
      · simp [h] at hp
      · exact he.elim h1 fun he => he.elim h2 fun he => h3.elim (fun h => h he.1) he.2
    · rw [State.prelimCalibrate_of_ready h, if_neg (by simp [hpower])]
    · rw [State.prelimCalibrate_of_ready h, if_pos hpower]
    · have hpause : s.enterPause = x := by rw [hx, State.enterPause, State.transit_eq_tracked]
      exact hpause ▸ State.settleStart_of_pause hp
    · rw [(State.settleStart_of_no_pause hp).1, if_pos hs, State.startLabel_eq ht]
    · rw [(State.settleStart_of_no_pause hp).1, if_neg hs]
    · rw [(State.settleStart_of_no_pause hp).2, if_pos ⟨hs, by simpa using ha⟩]
    · rw [(State.settleStart_of_no_pause hp).2, if_neg]
      rintro ⟨hs, ha⟩
      exact hno.elim (fun h => h hs) fun h => by simp [h] at ha
    · rw [State.restPresented_of_taken hpeel hl (by simp [hd]),
        State.takeLabel_of_feed (s.rest_media.2.1.trans hd), State.startMotion_eq_tracked, State.rest_now]
    · have hready : v.oldestReady = s.oldestReady := State.oldestReady_congr (by rw [hv]; exact s.rest_media.2.2.2.2)
      rw [State.restPresented_of_taken hpeel hl (by simp [ho]), State.takeLabel_of_zero (s.rest_media.2.1.trans ho) hv,
        hready, if_pos hs]
    · have hready : v.oldestReady = s.oldestReady := State.oldestReady_congr (by rw [hv]; exact s.rest_media.2.2.2.2)
      rw [State.restPresented_of_taken hpeel hl (by simp [ho]), State.takeLabel_of_zero (s.rest_media.2.1.trans ho) hv,
        hready, if_neg hs]
  · have hagain : s.printingAgain = w := hw.symm
    rw [← State.printing_isSome_iff, ← State.printing_eq_none_iff]
    refine ⟨fun n hn => ?_, fun hno => ?_, fun hp => ⟨fun h => ?_, fun h => ?_⟩, fun hp => ⟨fun h => ⟨fun hpitch => ?_,
      fun hpitch => ?_⟩, fun h => ⟨fun hm hpitch => ?_, fun hno => ?_⟩⟩,
      fun n t v failed left hrun hrestart hending he hnotice hl ht hv hf hfail hleft hroom =>
        State.resumePrinting_heldAgain hrun hrestart hending he hnotice hl ht hv hf hfail hleft hroom⟩
    · rw [State.resumePrinting_eq, hn, hagain]
    · rw [State.resumePrinting_eq, hagain]
      split
      · rename_i n hn
        exact absurd hn (hno n)
      · rfl
    · rw [State.faultPath_of_printing hp, if_pos ((Holds.none_iff _).mpr h)]
    · rw [State.faultPath_of_printing hp, if_neg fun hs => h ((Holds.none_iff _).mp hs)]
    · rw [State.faultPath_of_not_printing hp, if_pos h, if_pos hpitch]
    · rw [State.faultPath_of_not_printing hp, if_pos h, if_neg hpitch]
    · rw [State.faultPath_of_not_printing hp, if_neg (by simp [h]), if_pos ((Settings.registered_iff _).mpr ⟨hm, hpitch⟩)]
    · rw [State.faultPath_of_not_printing hp, if_neg (by simp [h]), if_neg]
      rw [Settings.registered_iff]
      rintro ⟨hm, hpitch⟩
      exact hno.elim hm hpitch

end Sys2Proof.Machine
end


section
/-! SUPPORT. The label values of a label start, the outcome of a line start and the stages of a line (chapter 7). -/

set_option Elab.async false

namespace Sys2Proof.Machine

/-! ### A hold requested at a line start (R156 to R158) -/

theorem State.requestHold_eq (reasons : Holds) (s : State) :
    (s.requestHold reasons).media.engine = .hold ∧ (s.requestHold reasons).media.holds = reasons
    ∧ (s.requestHold reasons).media.labelLine = s.media.labelLine
    ∧ (s.requestHold reasons).sticky = { s.sticky with
        heatHoldSeen := s.sticky.heatHoldSeen || reasons.heat
        supplyHoldSeen := s.sticky.supplyHoldSeen || reasons.supply
        underrunSeen := s.sticky.underrunSeen || reasons.underrun }
    ∧ (s.requestHold reasons).burn = { s.burn with supplyRun := if reasons.supply = true then 0 else s.burn.supplyRun }
    ∧ (s.requestHold reasons).queue = s.queue ∧ (s.requestHold reasons).render = s.render := by
  rw [State.requestHold, State.transit_eq_tracked]
  refine ⟨rfl, rfl, rfl, rfl, ?_, rfl, rfl⟩
  simp only [State.tracked]
  split <;> rfl

/-! ### The label values (R144, R145) -/

/-- A line start after a label start keeps the label's values and its history (R150, R153). -/
theorem State.lineStart_burn_of_fresh {s : State} (n : Nat) (h : s.burn.lastLineEnd = none) :
    ∃ (line : Option LineInHand) (run : Nat), (s.lineStart n).burn = { s.burn with line := line, supplyRun := run } := by
  unfold State.lineStart
  split
  · split
    · split
      · exact ⟨_, _, by simp only [State.loadLine, Burn.afterStop, h]; rfl⟩
      · exact ⟨_, _, (s.requestHold_eq _).2.2.2.2.1⟩
    · exact ⟨_, _, (s.requestHold_eq _).2.2.2.2.1⟩
  · exact ⟨_, _, rfl⟩

theorem darknessOf_cast (default : Nat) (offset : Int) :
    (darknessOf default offset : Int) = max 0 (min 30 ((default : Int) + offset)) :=
  Int.toNat_of_nonneg (le_max_left ..)

/-- The derating count after a label start, case by case (R145). -/
theorem derate_cases (theta : Int) (base count : Nat) :
    (65 ≤ theta → 50 < base - 25 * count → derate theta base count = count + 1)
    ∧ (65 ≤ theta → base - 25 * count ≤ 50 → derate theta base count = count)
    ∧ (theta ≤ 60 → derate theta base count = 0)
    ∧ (60 < theta → theta < 65 → derate theta base count = count) := by
  unfold derate
  refine ⟨fun h hb => ?_, fun h hb => ?_, fun h => ?_, fun h1 h2 => ?_⟩
  · rw [if_pos h, if_neg (by omega)]
  · rw [if_pos h, if_pos hb]
  · rw [if_neg (by omega), if_pos h]
  · rw [if_neg (by omega), if_neg (by omega)]

/-- A ticket's darkness offset and speed override, from its job or from the last-label record. -/
theorem State.ticketBurn_eq {s : State} {t : Ticket} {offset : Int} {override : Nat}
    (h : (∃ tag j, t.key.source = some tag ∧ s.queue.job tag = some j ∧ offset = j.items.darkness
        ∧ override = j.items.speed)
      ∨ ∃ l, t.key.source = none ∧ s.queue.last = some l ∧ offset = l.darkness ∧ override = l.speed) :
    s.ticketBurn t = (offset, override) := by
  unfold State.ticketBurn
  rcases h with ⟨tag, j, hs, hj, rfl, rfl⟩ | ⟨l, hs, hl, rfl, rfl⟩
  · simp [hs, hj]
  · simp [hs, hl]

/-- Settles O45. -/
theorem labelValuesAreFixedAtLabelStart : Obligations.LabelValuesAreFixedAtLabelStart := by
  unfold Obligations.LabelValuesAreFixedAtLabelStart
  intro s t rest offset override base ht hsource hbase
  have hburn := State.ticketBurn_eq hsource
  have hspeed : s.baseSpeed t = base := by rw [State.baseSpeed, hburn, hbase]
  obtain ⟨line, run, hstart⟩ : ∃ line run, s.startLabel.burn = { (s.startBurn t).burn with line := line, supplyRun := run } := by
    rw [State.startLabel_eq ht]
    exact State.lineStart_burn_of_fresh 0 rfl
  obtain ⟨hup, hfloor, hcool, hbetween⟩ := derate_cases s.burn.theta base s.burn.derating
  rw [hstart]
  refine ⟨s.labelValues t, rfl, ?_, ?_, rfl, rfl, rfl, rfl, rfl, rfl, ?_, ?_, ?_, ?_, rfl, rfl, rfl, rfl, rfl, rfl⟩
  · rw [State.labelValues, hburn]
    exact darknessOf_cast ..
  · simp only [State.labelValues, State.startBurn, labelSpeed, hspeed]
  · simpa only [State.startBurn, hspeed] using hup
  · simpa only [State.startBurn, hspeed] using hfloor
  · simpa only [State.startBurn, hspeed] using hcool
  · simpa only [State.startBurn, hspeed] using hbetween

/-! ### The outcome of a line start (R148, R150, R153, R156 to R158) -/

theorem Holds.none_eq_false_iff (h : Holds) : h.none ≠ true ↔ h.underrun = true ∨ h.heat = true ∨ h.supply = true := by
  obtain ⟨a, b, c⟩ := h
  cases a <;> cases b <;> cases c <;> simp [Holds.none]

/-- The on dots of a line through the print window, from the left (R148). -/
theorem mem_windowDots (row : List Bool) (width offset dot : Nat) : dot ∈ windowDots row width offset ↔
    dot < 832 ∧ offset ≤ dot ∧ dot - offset < width ∧ row.getD (dot - offset) false = true := by
  simp [windowDots, Config.headDots, and_assoc]

theorem windowDots_pairwise (row : List Bool) (width offset : Nat) : (windowDots row width offset).Pairwise (· < ·) :=
  List.pairwise_lt_range.filter _

/-- The history after a stop of 20 ms or more (R150). -/
theorem Burn.afterStop_eq (now : Nat) (b : Burn) : b.afterStop now
    = if (∃ e, b.lastLineEnd = some e ∧ 20000 ≤ now - e) then { b with previous := [], before := [] } else b := by
  unfold Burn.afterStop
  cases b.lastLineEnd with
  | none => simp
  | some e => by_cases he : 20000 ≤ now - e <;> simp [Config.coolStop, he]

/-- Settles O47. -/
theorem lineStartHoldsOrLoads : Obligations.LineStartHoldsOrLoads := by
  unfold Obligations.LineStartHoldsOrLoads
  refine fun s n t v ht hv => ⟨fun reasons hr hfail => ?_,
    fun i p0 phases b buffer dots hi htheta hsupply hb hbuffer hdots hp0 hphases => ?_⟩
  · have hr : s.lineChecks t n = reasons := hr.symm
    rw [State.lineStart_of_failed ht hv (by rw [hr, Holds.none_eq_false_iff]; exact hfail), hr]
    exact s.requestHold_eq reasons
  · have hpass := State.lineChecks_none_iff.mpr ⟨Option.isSome_of_eq_some hi, htheta, hsupply⟩
    refine ⟨fun dot => by rw [hdots, mem_windowDots], hdots ▸ windowDots_pairwise .., hb ▸ Burn.afterStop_eq .., ?_⟩
    rw [State.lineStart_of_passed ht hv hi hpass, hphases, hp0, hdots, hbuffer, hb]
    rfl

end Sys2Proof.Machine
end


section
/-! SUPPORT. The stages of a line in hand (sections 7.5 and 7.6). -/

set_option Elab.async false

namespace Sys2Proof.Machine

/-! ### The split of a line's dots over its phases (R151) -/

theorem flatMap_range_chunks {α : Type} (k n : Nat) (l : List α) :
    ((List.range n).flatMap fun i => (l.drop (k * i)).take k) = l.take (k * n) := by
  induction n with
  | zero => simp
  | succ n ih => rw [List.range_succ, List.flatMap_append, ih, Nat.mul_succ, List.take_add]; simp

theorem LineInHand.phaseDots_succ (l : LineInHand) (k : Nat) : l.phaseDots (k + 1) = (l.dots.drop (256 * k)).take 256 :=
  rfl

/-- Each phase but the last has 256 dots, and the last the rest. -/
theorem LineInHand.phaseDots_split {l : LineInHand} (h : l.phases = phaseCount l.dots.length) :
    ((List.range l.phases).flatMap fun k => l.phaseDots (k + 1)) = l.dots
    ∧ (∀ k, 1 ≤ k → k < l.phases → (l.phaseDots k).length = 256)
    ∧ (1 ≤ l.phases → 1 ≤ (l.phaseDots l.phases).length ∧ (l.phaseDots l.phases).length ≤ 256) := by
  have hcount : l.phases = (l.dots.length + 255) / 256 := h
  refine ⟨?_, fun k hk hlt => ?_, fun hp => ?_⟩
  · simp only [LineInHand.phaseDots_succ]
    rw [flatMap_range_chunks, List.take_of_length_le]
    omega
  · rw [LineInHand.phaseDots, List.length_take, List.length_drop]
    omega
  · rw [LineInHand.phaseDots, List.length_take, List.length_drop]
    omega

/-! ### The dots driven (R151) -/

theorem State.mem_driven {u : State} {l : LineInHand} {k : Nat} (hl : u.burn.line = some l) (hk : l.stage = .phase k)
    (dot : Nat) : dot ∈ u.driven ↔
      ∃ d ∈ l.phaseDots k, d.dot = dot ∧ u.now < l.started + 60 + (k - 1) * l.p0 + d.pulse := by
  simp only [State.driven, hl, LineInHand.driven, hk, List.mem_map, List.mem_filter, decide_eq_true_eq, and_assoc]
  exact exists_congr fun d => and_congr_right fun _ => and_comm

/-! ### The ends of loading, of a phase and of the line (R149, R151, R152, R154) -/

theorem State.endLoading_of_loading {u : State} {l : LineInHand} (hl : u.burn.line = some l) (hs : l.stage = .loading) :
    u.endLoading = State.freeBand l.number { u with
      now := max u.now (l.started + 60)
      burn := { u.burn with line := some { l with stage := if l.phases = 0 then .waiting else .phase 1 } } } := by
  simp only [State.endLoading, hl, if_pos hs]
  simp only [State.setStage, State.atLeast, hl]
  rfl

theorem State.freeBand_of_inner {s : State} {t : Ticket} {n : Nat} (ht : s.printing = some t)
    (h : lastOfBand n (t.length.getD 0) = false) : s.freeBand n = s := by
  simp [State.freeBand, ht, h]

theorem State.freeBand_of_last {s : State} {t : Ticket} {n i : Nat} (ht : s.printing = some t)
    (h : lastOfBand n (t.length.getD 0) = true) (hi : s.lineBuffer t n = some i) :
    s.freeBand n = State.renderNext { s with render := s.render.setBuffer i Buffer.empty } := by
  simp [State.freeBand, ht, h, hi]

/-- Settles O48. -/
theorem lineGoesThroughItsStages : Obligations.LineGoesThroughItsStages := by
  unfold Obligations.LineGoesThroughItsStages
  intro s u l hu hrun hl
  refine ⟨fun w hs hw => ⟨fun t ht hlast => ?_, fun t i ht hlast hi => ?_⟩, fun k hk => ?_,
    fun v ended more hs hv hended hmore => ?_, LineInHand.phaseDots_split, fun k dot hk => State.mem_driven hl hk dot,
    fun hs => ?_, fun hs => ?_, fun hs => ?_, fun hs => ?_⟩
  · refine exec_event_running (f := State.endLoading) rfl hu ?_ (by rw [hw]; exact hrun)
    rw [State.endLoading_of_loading hl hs, ← hw, State.freeBand_of_inner (t := t) (by rw [hw]; exact ht) hlast]
  · refine exec_event_running (f := State.endLoading) rfl hu ?_ (by rw [hw]; simpa using hrun)
    rw [State.endLoading_of_loading hl hs, ← hw,
      State.freeBand_of_last (t := t) (i := i) (by rw [hw]; exact ht) hlast (by rw [hw]; exact hi), hw]
  · refine exec_event_running (f := State.endPhase) rfl hu ?_ hrun
    simp only [State.endPhase, hl, hk]
    simp only [State.setStage, State.atLeast, hl]
    rfl
  · refine exec_event_running (f := State.endLine) rfl hu ?_ hrun
    have hstretched : (if l.stretched v.period = true then 1 else 0) = more := by
      rw [hmore]
      by_cases h : v.period < l.phases * l.p0 + 60 <;> simp [LineInHand.stretched, strobeTime, Config.loadTime, h]
    simp only [State.endLine, hl, hv, if_pos hs, hstretched]
    simp only [State.setDue, State.atLeast, Burn.endLine, hl, hv, ← hended]
    rfl
  · rcases hs with hs | hs <;> simp [State.driven, hl, LineInHand.driven, hs]
  · exact exec_event_same (f := State.endLoading) rfl hu (by simp [State.endLoading, hl, hs])
  · refine exec_event_same (f := State.endPhase) rfl hu ?_
    unfold State.endPhase
    rw [hl]
    dsimp only
    split
    · rename_i k hk
      exact absurd hk (hs k)
    · rfl
  · refine exec_event_same (f := State.endLine) rfl hu ?_
    cases hv : u.burn.values <;> simp [State.endLine, hl, hv, hs]

end Sys2Proof.Machine
end


section
/-! SUPPORT. A fault cause that arises (sections 7.6, 8.1 and 8.5). -/

set_option Elab.async false

namespace Sys2Proof.Machine

/-! ### What frees buffers leaves alone -/

theorem State.RendererFrame.freeBand {s t : State} {n : Nat} (h : s.RendererFrame t) : s.RendererFrame (t.freeBand n) := by
  obtain ⟨h1, h2, h3, h4, h5, h6⟩ := h
  unfold State.freeBand
  repeat' split
  · exact .renderNext ⟨h1, h2, h3, h4, h5, h6⟩
  all_goals exact ⟨h1, h2, h3, h4, h5, h6⟩

theorem State.RendererFrame.freeCut {s t : State} {line : Option LineInHand} (h : s.RendererFrame t) :
    s.RendererFrame (t.freeCut line) := by
  unfold State.freeCut
  repeat' split
  · exact h.freeBand
  all_goals exact h

theorem State.voidTicket_frame (t : Ticket) (s : State) : s.RendererFrame (s.voidTicket t) := by
  unfold State.voidTicket State.freeAllBuffers
  exact .renderNext ⟨rfl, rfl, rfl, rfl, rfl, rfl⟩

/-! ### The line cut short (R155) -/

/-- Where the label stands once the line in hand has been cut short. -/
def State.cutLabelLine (s : State) : LabelLine :=
  match s.burn.line with
  | some l => .stepping l.number
  | none => s.media.labelLine

theorem State.cutLine_eq (s : State) : s.cutLine = { s with
    burn := s.burn.endLine s.now, media := { s.media with labelLine := s.cutLabelLine } } := by
  unfold State.cutLine State.cutLabelLine Burn.endLine
  cases s.burn.line <;> rfl

theorem Burn.endLine_line (now : Nat) (b : Burn) : (b.endLine now).line = none := by
  unfold Burn.endLine
  split
  · rfl
  · assumption

/-! ### The cause joins, and the engine enters FAULT (R169) -/

/-- The cause puts the PRINTING label out of the printer's hands. -/
def Causes.drops (causes : Causes) : Bool := causes.headOpen || causes.mediaOut || causes.mediaLost

/-- The engine in FAULT with the cause, before the PRINTING ticket is dealt with. -/
def State.faulted (causes : Causes) (s : State) : State :=
  s.cutLine.tracked (Media.enterFault causes (!causes.drops && s.printing.isSome) s.cutLine.media)

theorem State.addCause_eq (causes : Causes) (s : State) : s.addCause causes
    = if causes.drops = true then (s.faulted causes).dropPrinting else (s.faulted causes).freeCut s.burn.line := by
  rw [State.addCause, State.transit_eq_tracked]
  rfl

theorem State.faulted_eq (causes : Causes) (s : State) : ∃ notice, s.faulted causes = { s with
    burn := s.burn.endLine s.now
    media := { Media.enterFault causes (!causes.drops && s.printing.isSome) s.media with
      labelLine := s.cutLabelLine, notice := notice, attention := true } } := by
  rw [State.faulted, State.cutLine_eq]
  exact ⟨_, rfl⟩

theorem State.dropPrinting_of_none {s : State} (h : s.printing = none) : s.dropPrinting = s := by
  rw [State.dropPrinting, h]

theorem State.dropPrinting_of_burned {s : State} {t : Ticket} (h : s.printing = some t) (hb : t.burned = true) :
    s.dropPrinting = State.voidTicket t { s with
      media := { s.media with labelLine := .none }, burn := { s.burn with stretchedLabel := 0 } } := by
  rw [State.dropPrinting, h]
  exact if_pos hb

theorem State.dropPrinting_of_unburned {s : State} {t : Ticket} (h : s.printing = some t) (hb : t.burned = false) :
    s.dropPrinting = { s with
      media := { s.media with labelLine := .none }
      queue := s.queue.updateTicket t.key fun k => { k with state := .ready } } := by
  rw [State.dropPrinting, h]
  exact if_neg (by simp [hb])

/-- The burn figures, the media and the rest as the PRINTING ticket's withdrawal leaves them. -/
theorem State.dropPrinting_frame (s : State) : (∃ n, s.dropPrinting.burn = { s.burn with stretchedLabel := n })
    ∧ (s.dropPrinting.media = { s.media with labelLine := if s.printing.isSome = true then .none else s.media.labelLine })
    ∧ s.dropPrinting.battery = s.battery ∧ s.dropPrinting.store = s.store ∧ s.dropPrinting.sticky = s.sticky := by
  cases hp : s.printing with
  | none =>
    rw [State.dropPrinting_of_none hp]
    exact ⟨⟨_, rfl⟩, rfl, rfl, rfl, rfl⟩
  | some t =>
    cases hb : t.burned with
    | true =>
      rw [State.dropPrinting_of_burned hp hb]
      obtain ⟨hbattery, hstore, hburn, hmedia, hsticky, -⟩ := State.voidTicket_frame t { s with
        media := { s.media with labelLine := .none }, burn := { s.burn with stretchedLabel := 0 } }
      exact ⟨⟨_, hburn⟩, hmedia, hbattery, hstore, hsticky⟩
    | false =>
      rw [State.dropPrinting_of_unburned hp hb]
      exact ⟨⟨_, rfl⟩, rfl, rfl, rfl, rfl⟩

/-- What a cause that arises leaves. -/
structure State.FaultFrame (causes : Causes) (s v : State) : Prop where
  media : ∃ notice labelLine, v.media = { Media.enterFault causes (!causes.drops && s.printing.isSome) s.media with
    labelLine := labelLine, notice := notice, attention := true }
    ∧ labelLine = if causes.drops = true ∧ s.printing.isSome = true then .none else s.cutLabelLine
  burn : ∃ n, v.burn = { s.burn.endLine s.now with stretchedLabel := n }
  battery : v.battery = s.battery
  store : v.store = s.store
  sticky : v.sticky = s.sticky

theorem State.addCause_frame (causes : Causes) (s : State) : s.FaultFrame causes (s.addCause causes) := by
  obtain ⟨notice, hf⟩ := s.faulted_eq causes
  rw [State.addCause_eq]
  cases hd : causes.drops with
  | true =>
    rw [if_pos rfl]
    obtain ⟨⟨n, hburn⟩, hmedia, hbattery, hstore, hsticky⟩ := (s.faulted causes).dropPrinting_frame
    have hprint : (s.faulted causes).printing = s.printing := by rw [hf]; rfl
    rw [hprint, hf] at hmedia
    rw [hf] at hburn hbattery hstore hsticky ⊢
    refine ⟨⟨notice, _, ?_, rfl⟩, ⟨n, hburn⟩, hbattery, hstore, hsticky⟩
    simpa [hd] using hmedia
  | false =>
    rw [if_neg (by simp)]
    obtain ⟨hbattery, hstore, hburn, hmedia, hsticky, -⟩ :=
      State.RendererFrame.freeCut (line := s.burn.line) (State.RendererFrame.refl (s.faulted causes))
    rw [hf] at hburn hmedia hbattery hstore hsticky ⊢
    refine ⟨⟨notice, _, ?_, rfl⟩, ⟨_, hburn⟩, hbattery, hstore, hsticky⟩
    simpa [hd] using hmedia

end Sys2Proof.Machine
end


section
/-! SUPPORT. A cause that clears, and the head samples (sections 7.2 and 7.7). -/

set_option Elab.async false

namespace Sys2Proof.Machine

/-! ### A condition clears (R168, R170) -/

theorem State.clearCause_of_absent {s : State} {f : Causes → Causes} (h : f s.media.causes = s.media.causes) :
    s.clearCause f = s := if_pos h

theorem State.clearCause_leaves {s : State} {f : Causes → Causes} {causes : Causes} (hf : f s.media.causes = causes)
    (h : causes ≠ s.media.causes) (he : s.media.engine = .fault) (hauto : s.battery.settings.autoResume = true)
    (hc : causes.condition = false) (hrun : s.mode = .running) :
    s.clearCause f = { s.faultPath with media := { s.faultPath.media with causes := causes } } := by
  subst hf
  exact (if_neg h).trans (if_pos ⟨he, hauto, hc, by simpa [State.isRunning] using hrun⟩)

theorem State.clearCause_stays {s : State} {f : Causes → Causes} {causes : Causes} (hf : f s.media.causes = causes)
    (h : causes ≠ s.media.causes) (hno : s.media.engine ≠ .fault ∨ s.battery.settings.autoResume = false
      ∨ causes.condition = true ∨ s.mode ≠ .running) :
    s.clearCause f = s.tracked { s.media with causes := causes } := by
  subst hf
  rw [← s.transit_eq_tracked fun m => { m with causes := f m.causes }]
  refine (if_neg h).trans (if_neg ?_)
  rintro ⟨he, hauto, hc, hrun⟩
  rcases hno with h | h | h | h
  · exact h he
  · simp [h] at hauto
  · simp [h] at hc
  · exact h (by simpa [State.isRunning] using hrun)

/-- A change of the causes alone, in FAULT in a running part (R177). -/
theorem State.tracked_causes {s : State} {causes : Causes} (hrun : s.mode = .running) (he : s.media.engine = .fault)
    (h : causes ≠ s.media.causes) : s.tracked { s.media with causes := causes } = { s with
      media := { s.media with
        causes := causes, notice := some (noticeAfter s.media { s.media with causes := causes }), attention := true } } := by
  rw [State.tracked_of_announced hrun]
  · simp [he]
  · simp [produces, he, Ne.symm h]
  · simp [he]

/-! ### The sensor fault judged at a sample (R143) -/

theorem headInRange_iff (theta : Int) : headInRange theta = true ↔ -20 ≤ theta ∧ theta ≤ 100 := by
  simp [headInRange]

theorem State.engineActs_iff (s : State) : s.engineActs = true ↔
    s.mode = .running ∨ ∃ step, s.mode = .startUp step ∧ ∀ c, step ≠ .scan c := by
  unfold State.engineActs
  cases s.mode with
  | startUp step => cases step <;> simp
  | _ => simp

theorem State.judgeSensor_kept {s : State} {theta : Int}
    (h : (-20 ≤ theta ∧ theta ≤ 100) ↔ s.burn.sensorFault = false) : s.judgeSensor theta = s := by
  rw [← headInRange_iff] at h
  unfold State.judgeSensor
  cases hr : headInRange theta <;> cases hs : s.burn.sensorFault <;> simp_all

theorem State.judgeSensor_raised {s v : State} {theta : Int} (h : ¬ (-20 ≤ theta ∧ theta ≤ 100))
    (hs : s.burn.sensorFault = false) (hv : v = { s with burn := { s.burn with sensorFault := true } }) :
    s.judgeSensor theta = if v.engineActs = true then v.addCause ⟨false, false, false, true⟩ else v := by
  rw [← headInRange_iff, Bool.not_eq_true] at h
  rw [hv]
  exact if_pos (by simp [h, hs])

theorem State.judgeSensor_cleared {s v : State} {theta : Int} (h : -20 ≤ theta ∧ theta ≤ 100)
    (hs : s.burn.sensorFault = true) (hv : v = { s with burn := { s.burn with sensorFault := false } }) :
    s.judgeSensor theta = v.clearCause fun c => { c with headFault := false } := by
  rw [← headInRange_iff] at h
  rw [hv]
  exact (if_neg (by simp [h])).trans (if_pos (by simp [h, hs]))

/-! ### HEAT and SUPPLY cleared (R156, R157, R162) -/

theorem Media.standing_of_hold {m : Media} (h : m.engine = .hold) : m.standing = m.holds := by rw [Media.standing, h]

theorem Media.standing_of_fault {m : Media} (h : m.engine = .fault) : m.standing = m.setAside := by rw [Media.standing, h]

theorem Media.standing_of_other {m : Media} (h : m.engine ≠ .hold) (h' : m.engine ≠ .fault) :
    m.standing = ⟨false, false, false⟩ := by
  unfold Media.standing
  split
  · contradiction
  · contradiction
  · rfl

theorem State.judgeHeat_of_discarded {s : State} {theta : Int} (h : 60 < theta ∨ theta < -20) : s.judgeHeat theta = s := by
  refine if_neg ?_
  rw [headInRange_iff]
  omega

theorem State.judgeHeat_of_absent {s : State} {theta : Int} (h : s.media.standing.heat = false) : s.judgeHeat theta = s :=
  if_neg (by simp [h])

theorem State.judgeHeat_of_standing {s : State} {theta : Int} (hlow : -20 ≤ theta) (hhigh : theta ≤ 60)
    (h : s.media.standing.heat = true) : s.judgeHeat theta = s.clearHold fun h => { h with heat := false } :=
  if_pos ⟨h, (headInRange_iff theta).mpr ⟨hlow, by omega⟩, hhigh⟩

theorem State.clearHold_of_hold {s : State} {f : Holds → Holds} (he : s.media.engine = .hold)
    (h : f s.media.holds ≠ s.media.holds) : s.clearHold f
      = if (f s.media.holds).none = true then s.resumePrinting
        else { s with media := { s.media with holds := f s.media.holds } } := by
  rw [State.clearHold, he]
  exact if_neg h

theorem State.clearHold_of_fault {s : State} {f : Holds → Holds} (he : s.media.engine = .fault) :
    s.clearHold f = { s with media := { s.media with setAside := f s.media.setAside } } := by
  rw [State.clearHold, he]

theorem State.judgeHeat_of_hold {s : State} {theta : Int} (hlow : -20 ≤ theta) (hhigh : theta ≤ 60)
    (he : s.media.engine = .hold) (hh : s.media.holds.heat = true) : s.judgeHeat theta
      = if s.media.holds = ⟨false, true, false⟩ then s.resumePrinting
        else { s with media := { s.media with holds := { s.media.holds with heat := false } } } := by
  rw [State.judgeHeat_of_standing hlow hhigh (by rw [Media.standing_of_hold he, hh]),
    State.clearHold_of_hold he fun h => by rw [← h] at hh; cases hh]
  refine if_congr ?_ rfl rfl
  rw [Holds.none_iff]
  generalize hs : s.media.holds = holds at hh
  obtain ⟨a, b, c⟩ := holds
  cases hh
  simp

theorem State.judgeHeat_of_fault {s : State} {theta : Int} (hlow : -20 ≤ theta) (hhigh : theta ≤ 60)
    (he : s.media.engine = .fault) : s.judgeHeat theta
      = { s with media := { s.media with setAside := { s.media.setAside with heat := false } } } := by
  cases hh : s.media.setAside.heat with
  | true => rw [State.judgeHeat_of_standing hlow hhigh (by rw [Media.standing_of_fault he, hh]), State.clearHold_of_fault he]
  | false =>
    rw [State.judgeHeat_of_absent (by rw [Media.standing_of_fault he, hh])]
    rw [← hh]

theorem State.countSupply_of_absent {s : State} (supply : Nat) (h : s.media.standing.supply = false) :
    s.countSupply supply = s := if_neg (by simp [h])

theorem State.countSupply_of_standing {s : State} (supply : Nat) (h : s.media.standing.supply = true) :
    s.countSupply supply = { s with
      burn := { s.burn with supplyRun := if 200 ≤ supply then min 11 (s.burn.supplyRun + 1) else 0 } } := if_pos h

end Sys2Proof.Machine
end


section
/-! SUPPORT. What a head sample leads to (sections 7.2 and 7.7). -/

set_option Elab.async false

namespace Sys2Proof.Machine

/-! ### Printing taken up again under the sample's supply (R156, R157, R162) -/

theorem State.placeEngine_burn_engine (s : State) :
    s.placeEngine.burn = s.burn ∧ s.placeEngine.media.engine = s.media.engine := by
  rcases s.placeEngine_cases with h | ⟨n, -, h⟩
  · rw [h]
    exact ⟨rfl, rfl⟩
  · rw [h]
    exact ⟨by rw [State.place, State.beginSending_eq], rfl⟩

/-- A line start held on the supply finds it below 180 and has begun its run of samples at 0. -/
theorem State.lineStart_supply {s : State} (n : Nat) (he : s.media.engine = .printing)
    (h : (s.lineStart n).media.standing.supply = true) :
    (s.lineStart n).burn.supplyRun = 0 ∧ s.burn.supply < 180 ∧ (s.lineStart n).burn.supply = s.burn.supply := by
  have hheld : ∀ t, (s.requestHold (s.lineChecks t n)).media.standing.supply = true →
      (s.requestHold (s.lineChecks t n)).burn.supplyRun = 0 ∧ s.burn.supply < 180
      ∧ (s.requestHold (s.lineChecks t n)).burn.supply = s.burn.supply := by
    intro t h
    obtain ⟨hengine, hholds, -, -, hburn, -⟩ := State.requestHold_eq (s.lineChecks t n) s
    rw [Media.standing_of_hold hengine, hholds] at h
    rw [hburn]
    exact ⟨if_pos h, of_decide_eq_true h, rfl⟩
  have hstand : s.media.standing.supply = false := by
    rw [Media.standing_of_other] <;> simp [he]
  revert h
  unfold State.lineStart
  split
  · split
    · split
      · intro h
        rw [Media.standing_of_other (by simp [State.loadLine, he]) (by simp [State.loadLine, he])] at h
        cases h
      · exact hheld _
    · exact hheld _
  · intro h
    rw [hstand] at h
    cases h

theorem State.resumePrinting_countSupply {s : State} {supply : Nat} (h : s.burn.supply = supply) :
    s.resumePrinting.countSupply supply = s.resumePrinting := by
  cases hs : s.resumePrinting.media.standing.supply with
  | false => exact State.countSupply_of_absent supply hs
  | true =>
    rw [State.countSupply_of_standing supply hs]
    rw [State.resumePrinting_eq] at hs ⊢
    split at hs
    · rename_i n hn
      obtain ⟨hburn, hengine⟩ := s.printingAgain.placeEngine_burn_engine
      obtain ⟨hrun, hlow, -⟩ := State.lineStart_supply n (by rw [hengine]; rfl) hs
      rw [hburn] at hlow
      have hlow : supply < 180 := h ▸ hlow
      rw [if_neg (by omega), ← hrun]
    · rw [Media.standing_of_other (by simp [State.printingAgain, State.tracked])
        (by simp [State.printingAgain, State.tracked])] at hs
      cases hs

/-! ### The sample as a whole (R143) -/

theorem Burn.endLine_frame (now : Nat) (b : Burn) : (b.endLine now).theta = b.theta ∧ (b.endLine now).supply = b.supply
    ∧ (b.endLine now).sensorFault = b.sensorFault := by
  unfold Burn.endLine
  split <;> exact ⟨rfl, rfl, rfl⟩

theorem State.sampleHead_eq {u w : State} {theta : Int} {supply : Nat} (hawake : u.isAwake = true)
    (hw : w = { u with
      now := max u.now (u.burn.lastSample + 10000)
      burn := { u.burn with
        theta := theta, supply := supply, lastSample := max u.now (u.burn.lastSample + 10000) } }) :
    u.sampleHead theta supply = ((w.judgeSensor theta).judgeHeat theta).countSupply supply := by
  rw [hw]
  exact if_pos hawake

/-- HEAD_FAULT raised by a sample outside the range leaves no HEAT or SUPPLY to judge. -/
theorem State.sample_raised {x : State} {theta : Int} (supply : Nat) (h : theta < -20 ∨ 100 < theta)
    (hholds : x.media.holds.supply = false) (haside : x.media.setAside.supply = false) :
    State.countSupply supply (State.judgeHeat theta (x.addCause ⟨false, false, false, true⟩))
      = x.addCause ⟨false, false, false, true⟩ := by
  rw [State.judgeHeat_of_discarded (by omega)]
  refine State.countSupply_of_absent supply ?_
  obtain ⟨⟨notice, labelLine, hmedia, -⟩, -⟩ := x.addCause_frame ⟨false, false, false, true⟩
  rw [hmedia, Media.standing_of_fault rfl]
  simp only [Media.enterFault, Holds.union, Holds.empty]
  split
  · simp [hholds, haside]
  · rfl

/-- A sample outside the range in a running part raises HEAD_FAULT. -/
theorem exec_headSample_raised {s u x : State} {theta : Int} {supply : Nat} (hu : s.settle = u) (hrun : u.mode = .running)
    (hs : u.burn.sensorFault = false) (hout : theta < -20 ∨ 100 < theta) (hholds : u.media.holds.supply = false)
    (haside : u.media.setAside.supply = false) (hx : x = { u with
      now := max u.now (u.burn.lastSample + 10000)
      burn := { u.burn with
        theta := theta, supply := supply, lastSample := max u.now (u.burn.lastSample + 10000), sensorFault := true } }) :
    exec (.headSample theta supply) s = .next (x.addCause ⟨false, false, false, true⟩) := by
  have hmode : x.mode = .running := by rw [hx]; exact hrun
  refine exec_event_running (f := State.sampleHead theta supply) rfl hu ?_ (by simpa using hmode)
  obtain ⟨w, hw⟩ : ∃ w : State, w = { u with
    now := max u.now (u.burn.lastSample + 10000)
    burn := { u.burn with
      theta := theta, supply := supply, lastSample := max u.now (u.burn.lastSample + 10000) } } := ⟨_, rfl⟩
  rw [State.sampleHead_eq (u.isAwake_iff.mpr (.inl hrun)) hw,
    State.judgeSensor_raised (v := x) (by omega) (by rw [hw]; exact hs) (by rw [hx, hw]),
    if_pos (x.engineActs_iff.mpr (.inl hmode)),
    State.sample_raised supply hout (by rw [hx]; exact hholds) (by rw [hx]; exact haside)]

/-- SUPPLY clears at the eleventh sample (R157). -/
theorem State.takeSupplyCleared_of_hold {u : State} (he : u.media.engine = .hold) (hsup : u.media.holds.supply = true)
    (hr : 11 ≤ u.burn.supplyRun) : u.takeSupplyCleared
      = State.clearHold (fun h => { h with supply := false }) { u with burn := { u.burn with supplyRun := 0 } } :=
  if_pos ⟨by rw [Media.standing_of_hold he, hsup], hr⟩

/-- Settles O49. -/
theorem headSampleSetsFiguresAndReasons : Obligations.HeadSampleSetsFiguresAndReasons := by
  unfold Obligations.HeadSampleSetsFiguresAndReasons
  refine ⟨fun theta supply s u w hu hrun hs hw => ?_, fun theta supply s u w hu hw => ⟨fun hmode => ?_, fun hr hst => ?_⟩,
    fun s v theta supply causes inRange hin hcauses => ?_, fun s u hu he hsup => ⟨fun hr => ?_, fun hr hother => ?_,
      fun hr hunder hheat => ?_⟩⟩
  · have hsample := State.sampleHead_eq (theta := theta) (supply := supply) (u.isAwake_iff.mpr (.inl hrun)) hw
    have hmode : w.mode = .running := by rw [hw]; exact hrun
    have hsensor : w.burn.sensorFault = false := by rw [hw]; exact hs
    have hmedia : w.media = u.media := by rw [hw]
    have hsupply : w.burn.supply = supply := by rw [hw]
    have hsuprun : w.burn.supplyRun = u.burn.supplyRun := by rw [hw]
    rw [← hmedia, ← hsuprun]
    have hkept : -20 ≤ theta → theta ≤ 100 → w.judgeSensor theta = w := fun h1 h2 =>
      State.judgeSensor_kept ⟨fun _ => hsensor, fun _ => ⟨h1, h2⟩⟩
    refine ⟨fun h1 h2 hhold hfault => ?_, fun hout hholds haside => ?_, fun h1 h2 he hh => ?_, fun h1 h2 he hh => ?_,
      fun h1 h2 he hheat hsup => ?_, fun underrun h1 h2 he hh => ?_⟩
    · refine exec_event_running (f := State.sampleHead theta supply) rfl hu ?_ hmode
      have hstand := Media.standing_of_other hhold hfault
      rw [hsample, hkept h1 h2, State.judgeHeat_of_absent (by rw [hstand]), State.countSupply_of_absent _ (by rw [hstand])]
    · obtain ⟨x, hx⟩ : ∃ x : State, x = { w with burn := { w.burn with sensorFault := true } } := ⟨_, rfl⟩
      refine ⟨_, exec_headSample_raised (x := x) hu hrun hs hout (hmedia ▸ hholds) (hmedia ▸ haside) (by rw [hx, hw]), ?_⟩
      obtain ⟨⟨notice, labelLine, hmedia', -⟩, ⟨n, hburn⟩, hbattery, hstore, -⟩ :=
        x.addCause_frame ⟨false, false, false, true⟩
      obtain ⟨htheta, hsup, hfault⟩ := Burn.endLine_frame x.now x.burn
      rw [hmedia', hburn, hbattery, hstore, State.addCause_flash, State.addCause_line]
      refine ⟨rfl, ?_, hfault.trans (by rw [hx]), htheta.trans (by rw [hx, hw]), hsup.trans (by rw [hx, hw]),
        Burn.endLine_line .., by rw [hx, hw], by rw [hx, hw], by rw [hx, hw], by rw [hx, hw]⟩
      simp [Media.enterFault, Causes.union]
    · refine exec_event_running (f := State.sampleHead theta supply) rfl hu ?_ hmode
      rw [hsample, hkept h1 (by omega), State.judgeHeat_of_hold h1 h2 he (by rw [hh]), hh, if_neg (by decide)]
      exact State.countSupply_of_absent supply (congrArg Holds.supply (Media.standing_of_hold (by exact he)))
    · refine exec_event_running (f := State.sampleHead theta supply) rfl hu ?_ (by simpa using hmode)
      rw [hsample, hkept h1 (by omega), State.judgeHeat_of_hold h1 h2 he (by rw [hh]), if_pos hh,
        State.resumePrinting_countSupply hsupply]
    · refine exec_event_running (f := State.sampleHead theta supply) rfl hu ?_ hmode
      rw [hsample, hkept h1 h2, State.judgeHeat_of_absent (by rw [Media.standing_of_hold he, hheat]),
        State.countSupply_of_standing supply (by rw [Media.standing_of_hold he, hsup])]
    · refine exec_event_running (f := State.sampleHead theta supply) rfl hu ?_ hmode
      rw [hsample, hkept h1 (by omega), State.judgeHeat_of_hold h1 h2 he (by rw [hh]), hh, if_neg (by simp)]
      exact State.countSupply_of_standing supply (congrArg Holds.supply (Media.standing_of_hold (by exact he)))
  · rw [exec_event (f := State.sampleHead theta supply) rfl hu, State.sampleHead_eq (u.isAwake_iff.mpr hmode) hw]
  · refine exec_event_same (f := State.sampleHead theta supply) rfl hu (if_neg ?_)
    rw [State.isAwake_iff]
    exact fun h => h.elim hr fun ⟨step, h⟩ => hst step h
  · rw [hin]
    refine ⟨fun h => State.judgeSensor_kept h, fun hout hs hv => ⟨fun hm => ?_, fun hm => ?_⟩,
      fun hr hs hv => ⟨fun hc => ?_, fun hc => ⟨fun he hauto hcond hrun => ?_, fun hno => ?_⟩⟩,
      fun h => State.judgeHeat_of_discarded h, fun h1 h2 => ⟨fun he hh => ⟨fun h => ?_, fun h => ?_⟩, fun he hh => ?_,
        fun he => State.judgeHeat_of_fault h1 h2 he, fun he hf => ?_⟩, fun h => ?_, fun hhold hfault => ?_⟩
    · rw [State.judgeSensor_raised hout hs hv, if_pos (v.engineActs_iff.mpr (by rw [hv]; exact hm))]
    · obtain ⟨c, hm⟩ := hm
      have hacts : v.engineActs = false := by rw [hv]; simp [State.engineActs, hm]
      rw [State.judgeSensor_raised hout hs hv, if_neg (by simp [hacts])]
    · rw [State.judgeSensor_cleared hr hs hv, State.clearCause_of_absent]
      rw [hv]
      rw [← hc]
    · have hne : causes ≠ v.media.causes := by
        rw [hv, hcauses]
        exact fun h => by simpa [hc] using congrArg Causes.headFault h
      rw [State.judgeSensor_cleared hr hs hv]
      exact State.clearCause_leaves (by rw [hv, hcauses]) hne (by rw [hv]; exact he) (by rw [hv]; exact hauto) hcond
        (by rw [hv]; exact hrun)
    · have hne : causes ≠ v.media.causes := by
        rw [hv, hcauses]
        exact fun h => by simpa [hc] using congrArg Causes.headFault h
      rw [State.judgeSensor_cleared hr hs hv, State.clearCause_stays (by rw [hv, hcauses]) hne (by rw [hv]; exact hno)]
      rw [hv]
    · rw [State.judgeHeat_of_hold h1 h2 he hh, if_pos h]
    · rw [State.judgeHeat_of_hold h1 h2 he hh, if_neg h]
    · exact State.judgeHeat_of_absent (by rw [Media.standing_of_hold he, hh])
    · exact State.judgeHeat_of_absent (by rw [Media.standing_of_other he hf])
    · refine State.countSupply_of_standing supply ?_
      rcases h with ⟨he, h⟩ | ⟨he, h⟩
      · rw [Media.standing_of_hold he, h]
      · rw [Media.standing_of_fault he, h]
    · refine State.countSupply_of_absent supply ?_
      by_cases he : s.media.engine = .hold
      · rw [Media.standing_of_hold he, hhold he]
      · by_cases hf : s.media.engine = .fault
        · rw [Media.standing_of_fault hf, hfault hf]
        · rw [Media.standing_of_other he hf]
  · rw [show exec .supplyCleared s = .next s.grantRoom.takeSupplyCleared from rfl, hu]
    exact congrArg Host.Outcome.next (if_neg fun h => by omega)
  · have hne : { u.media.holds with supply := false } ≠ u.media.holds :=
      fun h => by simpa [hsup] using congrArg Holds.supply h
    rw [show exec .supplyCleared s = .next s.grantRoom.takeSupplyCleared from rfl, hu,
      State.takeSupplyCleared_of_hold he hsup hr, State.clearHold_of_hold (by exact he) hne, if_neg]
    exact (Holds.none_eq_false_iff _).mpr (hother.imp id .inl)
  · have hne : { u.media.holds with supply := false } ≠ u.media.holds :=
      fun h => by simpa [hsup] using congrArg Holds.supply h
    rw [show exec .supplyCleared s = .next s.grantRoom.takeSupplyCleared from rfl, hu,
      State.takeSupplyCleared_of_hold he hsup hr, State.clearHold_of_hold (by exact he) hne, if_pos]
    rw [Holds.none_iff]
    simp [hunder, hheat]

end Sys2Proof.Machine
end


section
/-! SUPPORT. The faults of the switch, the sensors, the gap run and the feed limits (sections 5.7, 7.6, 8.1, 8.3 and
8.5). -/

set_option Elab.async false

namespace Sys2Proof.Machine

/-! ### A cause that takes the PRINTING label out of hand (R169) -/

/-- The engine stopped in FAULT by a cause that drops the PRINTING label. -/
structure State.Stopped (causes : Causes) (s v : State) : Prop where
  engine : v.media.engine = .fault
  causes : v.media.causes = s.media.causes.union causes
  motion : v.media.motion = none
  holds : v.media.holds = ⟨false, false, false⟩
  setAside : v.media.setAside = ⟨false, false, false⟩
  attention : v.media.attention = true
  event : v.media.event = s.media.event
  count : v.media.count = s.media.count
  due : v.media.due = s.media.due
  gapRun : v.media.gapRun = s.media.gapRun
  line : v.burn.line = none
  battery : v.battery = s.battery
  store : v.store = s.store
  sticky : v.sticky = s.sticky

theorem State.addCause_stopped {causes : Causes} (hd : causes.drops = true) (s : State) :
    s.Stopped causes (s.addCause causes) := by
  obtain ⟨⟨notice, labelLine, hmedia, -⟩, ⟨n, hburn⟩, hbattery, hstore, hsticky⟩ := s.addCause_frame causes
  rw [hd] at hmedia
  exact ⟨congrArg Media.engine hmedia, congrArg Media.causes hmedia, congrArg Media.motion hmedia,
    congrArg Media.holds hmedia, congrArg Media.setAside hmedia, congrArg Media.attention hmedia,
    (congrArg Media.event hmedia).trans rfl, (congrArg Media.count hmedia).trans rfl, (congrArg Media.due hmedia).trans rfl, (congrArg Media.gapRun hmedia).trans rfl,
    (congrArg Burn.line hburn).trans (Burn.endLine_line ..), hbattery, hstore, hsticky⟩

/-! ### The head switch and the media sensor (R168) -/

theorem State.seeHead_same {u w : State} {isOpen : Bool} (hw : w = { u with lines := { u.lines with headOpen := isOpen } })
    (h : isOpen = u.lines.headOpen) : State.seeHead isOpen u = w := by
  rw [hw]
  exact if_pos (.inl h)

theorem State.seeHead_opened {u : State} (hrun : u.mode = .running) (h : u.lines.headOpen = false) :
    State.seeHead true u = State.addCause ⟨true, false, false, false⟩
      { u with lines := { u.lines with headOpen := true }, media := { u.media with event := .headOpen } } :=
  (if_neg (by simp [h, u.engineActs_iff.mpr (.inl hrun)])).trans (if_pos rfl)

theorem State.seeHead_closed {u w : State} (hw : w = { u with lines := { u.lines with headOpen := false } })
    (hrun : u.mode = .running) (h : u.lines.headOpen = true) :
    State.seeHead false u = w.clearCause fun c => { c with headOpen := false } := by
  rw [hw]
  exact (if_neg (by simp [h, u.engineActs_iff.mpr (.inl hrun)])).trans (if_neg (by simp))

theorem Causes.headOpen_dropped {c : Causes} (h : c.headOpen = true) : { c with headOpen := false } ≠ c :=
  fun hc => by simpa [h] using congrArg Causes.headOpen hc

theorem Causes.mediaOut_dropped {c : Causes} (h : c.mediaOut = true) : { c with mediaOut := false } ≠ c :=
  fun hc => by simpa [h] using congrArg Causes.mediaOut hc

theorem exec_headSwitch {s u t : State} {isOpen : Bool} (hu : s.settle = u) (ht : State.seeHead isOpen u = t)
    (hrun : t.mode = .running) : exec (.headSwitchChange isOpen) s = .next t :=
  exec_event_running (f := State.seeHead isOpen) rfl hu ht hrun

theorem exec_mediaSensor {s u t : State} {gap : Bool} (hu : s.settle = u) (ht : State.seeMedia gap u = t)
    (hrun : t.mode = .running) : exec (.mediaSensorChange gap) s = .next t :=
  exec_event_running (f := State.seeMedia gap) rfl hu ht hrun

/-! ### The details of a cause that arises (R155, R169) -/

theorem Burn.endLine_eq {s : State} {b : Burn} (hnone : s.burn.line = none → b = s.burn)
    (hsome : ∀ l, s.burn.line = some l → b = { s.burn with
      before := s.burn.previous, previous := l.dots.map DotPulse.dot, lastLineEnd := some s.now, line := none }) :
    s.burn.endLine s.now = b := by
  unfold Burn.endLine
  cases h : s.burn.line with
  | none => exact (hnone h).symm
  | some l => exact (hsome l h).symm

/-- The PRINTING ticket under a cause that drops its label, or stays with its place under HEAD_FAULT. -/
theorem State.addCause_ticket {s v : State} {causes : Causes} {t : Ticket} (hv : v = s.addCause causes)
    (ht : s.printing = some t) :
    (causes.drops = true → v.media.motion = none ∧ v.media.labelLine = .none ∧ v.media.holds = ⟨false, false, false⟩
      ∧ v.media.setAside = ⟨false, false, false⟩)
    ∧ (causes.drops = true → t.burned = true →
      v.burn = { s.burn.endLine s.now with stretchedLabel := 0 } ∧ ∃ y : State, v = y.renderNext
      ∧ y.queue = { s.queue with
          jobs := s.queue.jobs.map fun (j : Job) =>
            if t.key.source = some j.items.tag then { j with labelsVoided := min 65535 (j.labelsVoided + 1) } else j
          tickets := s.queue.tickets.map fun (k : Ticket) =>
            { k with rendered := 0, length := none, state := .rendering } }
      ∧ y.render = { buffers := s.render.buffers.map fun _ => Buffer.empty, hand := none }
      ∧ y.array = (if s.render.hand = none then s.array else s.array.orphanRenderer))
    ∧ (causes.drops = true → t.burned = false →
      v.burn = s.burn.endLine s.now ∧ v.render = s.render ∧ v.array = s.array
      ∧ v.queue = { s.queue with
          tickets := s.queue.tickets.map fun (k : Ticket) =>
            if k.key = t.key then { k with state := .ready } else k })
    ∧ (causes.drops = false →
      v.burn = s.burn.endLine s.now ∧ v.media.motion = s.media.motion ∧ v.media.holds = ⟨false, false, false⟩
      ∧ v.media.setAside =
        ⟨s.media.setAside.underrun || s.media.holds.underrun, s.media.setAside.heat || s.media.holds.heat,
          s.media.setAside.supply || s.media.holds.supply⟩
      ∧ (s.burn.line = none → v.media.labelLine = s.media.labelLine ∧ v.queue = s.queue ∧ v.render = s.render)
      ∧ ∀ l, s.burn.line = some l → v.media.labelLine = .stepping l.number
        ∧ (l.stage ≠ .loading ∨ lastOfBand l.number (t.length.getD 0) = false →
          v.queue = s.queue ∧ v.render = s.render)
        ∧ ∀ i, l.stage = .loading → lastOfBand l.number (t.length.getD 0) = true →
          s.lineBuffer t l.number = some i →
          ∃ y : State, v = y.renderNext ∧ y.queue = s.queue ∧ y.array = s.array
            ∧ y.render = { s.render with buffers := s.render.buffers.set i Buffer.empty }) := by
  obtain ⟨notice, hf⟩ := s.faulted_eq causes
  have hprint : (s.faulted causes).printing = some t := by rw [hf]; exact ht
  have hsome : s.printing.isSome = true := by rw [ht]; rfl
  obtain ⟨notice', labelLine, hmedia, hline⟩ := (s.addCause_frame causes).media
  have hstop := fun hd => State.addCause_stopped (causes := causes) hd s
  rw [← hv] at hmedia hstop
  rw [State.addCause_eq] at hv
  refine ⟨fun hd => ?_, fun hd hb => ?_, fun hd hb => ?_, fun hd => ?_⟩
  · refine ⟨(hstop hd).motion, ?_, (hstop hd).holds, (hstop hd).setAside⟩
    rw [hmedia, hline, if_pos ⟨hd, hsome⟩]
  · rw [if_pos hd, State.dropPrinting_of_burned hprint hb] at hv
    refine ⟨by rw [hv, (State.voidTicket_frame t _).burn, hf], _, hv, ?_, ?_, ?_⟩
    · rw [hf]
      cases h : t.key.source with
      | none =>
        simp only [State.freeAllBuffers, reduceCtorEq, if_false, List.map_id']
        rfl
      | some tag =>
        simp only [State.freeAllBuffers, JobQueue.updateJob, Option.some.injEq, sat16, eq_comm (a := tag)]
        rfl
    · rw [hf]
      simp [State.freeAllBuffers]
    · rw [hf]
      cases h : s.render.hand <;> simp [State.freeAllBuffers, h]
  · rw [if_pos hd, State.dropPrinting_of_unburned hprint hb, hf] at hv
    rw [hv]
    exact ⟨rfl, rfl, rfl, rfl⟩
  · rw [if_neg (by simp [hd])] at hv
    obtain ⟨-, -, hburn, -⟩ := State.RendererFrame.freeCut (line := s.burn.line) (State.RendererFrame.refl (s.faulted causes))
    rw [← hv, hf] at hburn
    rw [if_neg (by simp [hd])] at hline
    rw [hd, hsome] at hmedia
    refine ⟨hburn, (congrArg Media.motion hmedia).trans rfl, (congrArg Media.holds hmedia).trans rfl,
      (congrArg Media.setAside hmedia).trans rfl, fun hl => ⟨?_, ?_, ?_⟩, fun l hl => ⟨?_, fun hno => ?_, fun i hs hlast hi => ?_⟩⟩
    · rw [hmedia, hline, State.cutLabelLine, hl]
    · rw [hv, hl, hf]
      rfl
    · rw [hv, hl, hf]
      rfl
    · rw [hmedia, hline, State.cutLabelLine, hl]
    · have hkept : (s.faulted causes).freeCut s.burn.line = s.faulted causes := by
        rw [hl, State.freeCut]
        rcases hno with h | h
        · exact if_neg h
        · rw [State.freeBand_of_inner hprint h, ite_self]
      rw [hv, hkept, hf]
      exact ⟨rfl, rfl⟩
    · have hbuffer : (s.faulted causes).lineBuffer t l.number = some i := by rw [hf]; exact hi
      rw [hl, State.freeCut] at hv
      rw [if_pos hs, State.freeBand_of_last hprint hlast hbuffer] at hv
      refine ⟨_, hv, ?_⟩
      rw [hf]
      exact ⟨rfl, rfl, rfl⟩

/-- A loss of registration: the count 256, the event LOST, and MEDIA_LOST joined (R164). -/
theorem State.loseMedia_eq (s : State) : s.loseMedia = State.addCause ⟨false, false, true, false⟩ { s with
    media := { s.media with event := .lost, count := 256 }
    sticky := { s.sticky with registrationWarning := true } } := by
  rw [State.loseMedia, State.setCount, State.setEvent]
  simp [Causes.onlyMediaLost, Causes.empty]

theorem State.checkMediaOut_of_stopped {s : State} (hm : s.media.motion = none) (h : s.media.gapRun ≤ 160) :
    s.checkMediaOut = s := by
  rw [State.checkMediaOut, if_neg (by omega), State.arrive, hm]

theorem exec_mediaOut {s u : State} (hu : s.grantRoom = u) (hrun : u.mode = .running) :
    exec .mediaOut s = .next u.takeMediaOut := by
  rw [← State.checkEngineStep_running (s := u.takeMediaOut) (by simpa using hrun), ← hu]
  rfl

theorem State.takeMediaOut_of_due {u : State} (h : u.media.due = some .mediaOut) :
    u.takeMediaOut = State.addCause ⟨false, true, false, false⟩
      { u with media := { u.media with event := .mediaOut, due := none } } := if_pos h

theorem State.addCause_of_not_printing {s : State} (causes : Causes) (h : s.printing = none) :
    s.addCause causes = s.faulted causes := by
  obtain ⟨notice, hf⟩ := s.faulted_eq causes
  have hprint : (s.faulted causes).printing = none := by rw [hf]; exact h
  rw [State.addCause_eq, State.dropPrinting_of_none hprint]
  cases s.burn.line <;> simp [State.freeCut, State.freeBand, hprint]

/-- A feed limit that is due is taken, and another's command changes nothing (R165 to R167). -/
theorem exec_limit {c : Instr} {due : StepDue} {s u : State}
    (h : (c = .resyncNoEdge ∧ due = .resyncNoEdge) ∨ (c = .recoveryLimit ∧ due = .recoveryLimit)
      ∨ (c = .calibrationLimit ∧ due = .calibrationLimit)) (hu : s.grantRoom = u) (hrun : u.mode = .running) :
    exec c s = .next (if u.media.due = some due then
      State.checkMediaOut (State.loseMedia { u with media := { u.media with due := none } }) else u) := by
  subst hu
  rw [← State.checkEngineStep_running (s := if s.grantRoom.media.due = some due then _ else s.grantRoom)]
  · rcases h with ⟨rfl, rfl⟩ | ⟨rfl, rfl⟩ | ⟨rfl, rfl⟩ <;> rfl
  · split
    · simpa using hrun
    · exact hrun

/-- Settles O54. -/
theorem switchAndSensorRaiseAndClearFaults : Obligations.SwitchAndSensorRaiseAndClearFaults := by
  unfold Obligations.SwitchAndSensorRaiseAndClearFaults
  refine ⟨⟨fun isOpen s u w causes hu hrun hw hcauses => ⟨fun h => ?_, fun ho h => ?_, fun ho h hc he hauto hcond => ?_,
      fun ho h hc he hno => ?_⟩, fun gap s u w causes hu hrun hw hcauses => ⟨fun h => ?_, fun hg hc he hauto hcond => ?_,
      fun hg hc he hno => ?_⟩⟩,
    fun s u hu hrun => ⟨fun h => ?_, fun theta supply now hs hout hholds haside hnow => ?_⟩,
    fun s u hu hrun => ⟨fun h => ?_, fun h hgap => ?_⟩, fun s v causes drops b hv hdrops hnone hsome => ?_⟩
  · exact exec_headSwitch hu (State.seeHead_same hw h) (by rw [hw]; exact hrun)
  · subst ho
    refine ⟨_, exec_headSwitch hu (State.seeHead_opened hrun h) (by simpa using hrun), ?_⟩
    have hstop := State.addCause_stopped (causes := ⟨true, false, false, false⟩) rfl
      { u with lines := { u.lines with headOpen := true }, media := { u.media with event := .headOpen } }
    refine ⟨by simp [hw], hstop.engine, ?_, hstop.event, hstop.motion, hstop.holds, hstop.setAside, hstop.line,
      hstop.attention, by simp, hstop.battery, hstop.store, by simp, by simp⟩
    rw [hstop.causes]
    simp [Causes.union]
  · subst ho
    refine exec_headSwitch hu ((State.seeHead_closed hw hrun h).trans ?_) (by rw [hw]; simpa using hrun)
    exact State.clearCause_leaves (by rw [hw, hcauses]) (hw ▸ hcauses ▸ Causes.headOpen_dropped hc)
      (by rw [hw]; exact he) (by rw [hw]; exact hauto) hcond (by rw [hw]; exact hrun)
  · subst ho
    have hne : causes ≠ u.media.causes := hcauses ▸ Causes.headOpen_dropped hc
    refine exec_headSwitch hu ((State.seeHead_closed hw hrun h).trans ?_) (by rw [hw]; exact hrun)
    rw [State.clearCause_stays (causes := causes) (by rw [hw, hcauses]) (by rw [hw]; exact hne)
      (by rw [hw]; exact .inr (hno.imp id .inl)), State.tracked_causes (by rw [hw]; exact hrun) (by rw [hw]; exact he)
      (by rw [hw]; exact hne), hw]
  · refine exec_mediaSensor hu ?_ (by rw [hw]; exact hrun)
    rcases h with h | h
    · rw [State.seeMedia, if_pos h, hw]
    · rw [State.seeMedia, ← hw, State.clearCause_of_absent, ite_self]
      rw [hw]
      simp [← h]
  · refine exec_mediaSensor hu ?_ (by rw [hw]; simpa using hrun)
    rw [State.seeMedia, ← hw, if_neg (by simp [hg])]
    exact State.clearCause_leaves (by rw [hw, hcauses]) (hw ▸ hcauses ▸ Causes.mediaOut_dropped hc)
      (by rw [hw]; exact he) (by rw [hw]; exact hauto) hcond (by rw [hw]; exact hrun)
  · have hne : causes ≠ u.media.causes := hcauses ▸ Causes.mediaOut_dropped hc
    refine exec_mediaSensor hu ?_ (by rw [hw]; exact hrun)
    rw [State.seeMedia, ← hw, if_neg (by simp [hg]), State.clearCause_stays (causes := causes) (by rw [hw, hcauses])
      (by rw [hw]; exact hne) (by rw [hw]; exact .inr (hno.imp id .inl)), State.tracked_causes (by rw [hw]; exact hrun)
      (by rw [hw]; exact he) (by rw [hw]; exact hne), hw]
  · exact exec_headSwitch hu (State.seeHead_opened hrun h) (by simpa using hrun)
  · exact exec_headSample_raised hu hrun hs hout hholds haside (by rw [hnow])
  · rw [exec_mediaOut hu hrun, State.takeMediaOut_of_due h]
  · rw [exec_limit (.inl ⟨rfl, rfl⟩) hu hrun, if_pos h, State.loseMedia_eq]
    refine congrArg Host.Outcome.next (State.checkMediaOut_of_stopped ?_ ?_)
    · exact (State.addCause_stopped rfl _).motion
    · rw [(State.addCause_stopped rfl _).gapRun]
      exact hgap
  · have hb : s.burn.endLine s.now = b := Burn.endLine_eq hnone hsome
    have hdrops : causes.drops = drops := hdrops.symm
    obtain ⟨⟨notice, labelLine, hmedia, -⟩, -, hbattery, hstore, hsticky⟩ := s.addCause_frame causes
    rw [← hv] at hmedia hbattery hstore hsticky
    refine ⟨⟨by rw [hmedia]; rfl, by rw [hmedia], by rw [hmedia]; rfl, by rw [hmedia]; rfl, by rw [hmedia]; rfl,
      by simp [hv], hbattery, hstore, hsticky, by simp [hv], by simp [hv], by simp [hv]⟩, fun hp => ?_, fun t ht => ?_⟩
    · obtain ⟨notice', hf⟩ := s.faulted_eq causes
      rw [State.addCause_of_not_printing causes hp, hf] at hv
      rw [hv, ← hb]
      refine ⟨rfl, ?_, rfl⟩
      simp [Media.enterFault, hp]
    · rw [← hb, ← hdrops]
      exact State.addCause_ticket hv ht

end Sys2Proof.Machine
end


section
/-! SUPPORT. Judged and missed gaps (section 8.3). -/

set_option Elab.async false

namespace Sys2Proof.Machine

/-! ### The count and the judgement of an edge (R163, R164, R166) -/

theorem State.raiseCount_of_lt {s : State} (h : s.media.count + 8 < 256) : s.raiseCount = s.setCount (s.media.count + 8) := by
  rw [State.raiseCount, Nat.min_eq_right (by omega)]
  exact if_neg (by omega)

theorem State.raiseCount_of_ge {s : State} (h : 256 ≤ s.media.count + 8) : s.raiseCount = s.loseMedia := by
  rw [State.raiseCount, Nat.min_eq_left h]
  exact if_pos rfl

theorem State.goodGap_of_other {s : State} {m : Motion} (hm : s.media.motion = some m)
    (hk : ∀ fed run, m.kind ≠ .recoveryJudge fed run) : s.goodGap
      = State.setCount (s.media.count - 1) { s with media := { s.media with d := 0, high := 0, goodSeen := true } } := by
  unfold State.goodGap
  split
  · rename_i h
    rw [hm] at h
    cases h
    exact absurd rfl (hk _ _)
  · rfl

theorem State.goodGap_of_recovery {s : State} {m : Motion} {fed run : Nat} (hm : s.media.motion = some m)
    (hk : m.kind = .recoveryJudge fed run) : s.goodGap
      = if run + 1 = 3 then { s with
          media := { s.media with
            d := 0, high := 0, goodSeen := true, count := 0, event := .none
            causes := { s.media.causes with mediaLost := false }
            motion := some { m with kind := .recoveryRun } } }
        else { s with
          media := { s.media with
            d := 0, high := 0, goodSeen := true, motion := some { m with kind := .recoveryJudge fed (run + 1) } } } := by
  obtain ⟨kind, forLabel, forRecovery, wake, due⟩ := m
  cases hk
  simp only [State.goodGap, hm, State.setKind, State.setEvent, State.setReference, State.setCount_zero, Option.map_some]

theorem State.earlyGap_of_other {s : State} {m : Motion} (hm : s.media.motion = some m)
    (hk : ∀ fed run, m.kind ≠ .recoveryJudge fed run) :
    s.earlyGap = State.raiseCount { s with media := { s.media with event := .earlyGap, badSeen := true } } := by
  unfold State.earlyGap
  split
  · rename_i h
    rw [hm] at h
    cases h
    exact absurd rfl (hk _ _)
  · rfl

theorem State.earlyGap_of_recovery {s : State} {m : Motion} {fed run : Nat} (hm : s.media.motion = some m)
    (hk : m.kind = .recoveryJudge fed run) : s.earlyGap = { s with
      media := { s.media with
        event := .earlyGap, badSeen := true, motion := some { m with kind := .recoveryJudge fed 0 } } } := by
  obtain ⟨kind, forLabel, forRecovery, wake, due⟩ := m
  cases hk
  simp only [State.earlyGap, hm, State.setKind, Option.map_some]

theorem State.missGap_of_other {s : State} {m : Motion} (hm : s.media.motion = some m)
    (hk : ∀ fed run, m.kind ≠ .recoveryJudge fed run) : s.missGap = State.raiseCount { s with
      media := { s.media with
        event := .missedGap, badSeen := true, d := s.media.d - s.battery.settings.pitch
        high := s.media.d - s.battery.settings.pitch } } := by
  unfold State.missGap
  dsimp only
  split
  · rename_i h
    rw [hm] at h
    cases h
    exact absurd rfl (hk _ _)
  · rfl

theorem State.missGap_of_recovery {s : State} {m : Motion} {fed run : Nat} (hm : s.media.motion = some m)
    (hk : m.kind = .recoveryJudge fed run) : s.missGap = { s with
      media := { s.media with
        event := .missedGap, badSeen := true, d := s.media.d - s.battery.settings.pitch
        high := s.media.d - s.battery.settings.pitch, motion := some { m with kind := .recoveryJudge fed 0 } } } := by
  obtain ⟨kind, forLabel, forRecovery, wake, due⟩ := m
  cases hk
  simp only [State.missGap, hm, State.setKind, Option.map_some]

theorem State.judgeEdge_of_good {s : State} {p : Int} (hp : p = s.battery.settings.pitch) (h1 : p - 16 ≤ s.media.d)
    (h2 : s.media.d ≤ p + 16) : s.judgeEdge false = s.goodGap := by
  subst hp
  exact if_pos (by simp [h1, h2])

theorem State.judgeEdge_of_early {s : State} {p : Int} {missed : Bool} (hp : p = s.battery.settings.pitch)
    (h : missed = true ∨ s.media.d < p - 16 ∨ p + 16 < s.media.d) : s.judgeEdge missed = s.earlyGap := by
  subst hp
  refine if_neg ?_
  rw [Bool.and_eq_true, Bool.not_eq_true', decide_eq_true_eq]
  rintro ⟨hm, h1, h2⟩
  rcases h with h | h | h
  · simp [h] at hm
  · omega
  · omega

/-! ### The loss of registration (R164, R165 to R167) -/

/-- What a loss of registration leaves. -/
structure State.Lost (s v : State) : Prop where
  engine : v.media.engine = .fault
  mediaLost : v.media.causes.mediaLost = true
  count : v.media.count = 256
  event : v.media.event = .lost
  motion : v.media.motion = none
  line : v.burn.line = none
  warning : v.sticky.registrationWarning = true
  attention : v.media.attention = true
  due : v.media.due = s.media.due
  gapRun : v.media.gapRun = s.media.gapRun
  flash : v.flash = s.flash
  battery : v.battery = s.battery
  store : v.store = s.store
  serial : v.line = s.line
  now : v.now = s.now
  mode : v.mode = s.mode

theorem State.loseMedia_lost (s : State) : s.Lost s.loseMedia := by
  rw [State.loseMedia_eq]
  obtain h := State.addCause_stopped (causes := ⟨false, false, true, false⟩) rfl { s with
    media := { s.media with event := .lost, count := 256 }, sticky := { s.sticky with registrationWarning := true } }
  refine ⟨h.engine, ?_, h.count, h.event, h.motion, h.line, by rw [h.sticky], h.attention, h.due, h.gapRun, by simp,
    h.battery, h.store, by simp, by simp, by simp⟩
  rw [h.causes]
  simp [Causes.union]

theorem State.checkMediaOut_of_motionless {s : State} (h : s.media.motion = none) : s.checkMediaOut
    = { s with media := { s.media with due := if 160 < s.media.gapRun then some .mediaOut else s.media.due } } := by
  rw [State.checkMediaOut, State.arrive, h]
  split <;> rfl

/-- Registration lost at a step, and a media out that falls due with it (R163, R168). -/
theorem State.loseMedia_at_step {s : State} (hdue : s.media.due = none) :
    ∃ t, s.loseMedia.checkMediaOut = t ∧ t.media.engine = .fault ∧ t.media.causes.mediaLost = true
      ∧ t.media.count = 256 ∧ t.media.event = .lost ∧ t.media.motion = none ∧ t.burn.line = none
      ∧ t.sticky.registrationWarning = true ∧ t.media.attention = true
      ∧ t.media.due = (if 160 < s.media.gapRun then some .mediaOut else none)
      ∧ t.flash = s.flash ∧ t.battery = s.battery ∧ t.store = s.store ∧ t.line = s.line ∧ t.now = s.now := by
  have h := s.loseMedia_lost
  refine ⟨_, State.checkMediaOut_of_motionless h.motion, h.engine, h.mediaLost, h.count, h.event, h.motion, h.line,
    h.warning, h.attention, ?_, h.flash, h.battery, h.store, h.serial, h.now⟩
  simp only [h.gapRun, h.due, hdue]

/-! ### The rest of a step after a miss (R163, log entry 14) -/

/-- Neither a change of the sensor nor a motion leaves nothing to judge or to measure. -/
theorem State.takeEdge_of_no_change (missed fresh : Bool) (s : State) : s.takeEdge missed fresh false false = s := by
  unfold State.takeEdge
  split
  · rfl
  · split <;> rfl

theorem State.takeEdge_of_judging {s : State} {m : Motion} {missed fresh edge fell : Bool} (hm : s.media.motion = some m)
    (hk : m.kind.judges = true) (hr : s.battery.settings.registered = true) : s.takeEdge missed fresh edge fell
      = if (edge && fresh) = true then s.judgeEdge missed else s := by
  unfold State.takeEdge
  rw [hm]
  dsimp only
  split <;> simp_all [MotionKind.judges]

theorem State.takeEdge_of_motionless {s : State} (missed fresh edge fell : Bool) (h : s.media.motion = none) :
    s.takeEdge missed fresh edge fell = s := by rw [State.takeEdge, h]

theorem exec_missedGap {s u : State} (hu : s.grantRoom = u) (hrun : u.mode = .running) :
    exec .missedGap s = .next u.takeMiss := by
  rw [← State.checkEngineStep_running (s := u.takeMiss) (by simpa using hrun), ← hu]
  rfl

theorem State.takeMiss_of_due {u : State} {edge fell : Bool} (h : u.media.due = some (.missedGap edge fell)) :
    u.takeMiss = State.checkLimit
      (State.takeEdge true true edge fell (State.missGap { u with media := { u.media with due := none } })) := by
  rw [State.takeMiss, h]
  rfl

/-- A miss taken in a motion that judges edges, registration kept: the edge of its step is early (log entry 43). -/
theorem exec_missedGap_kept {s u z : State} {m : Motion} {edge fell : Bool} (hu : s.grantRoom = u)
    (hrun : u.mode = .running) (hdue : u.media.due = some (.missedGap edge fell))
    (hz : State.missGap { u with media := { u.media with due := none } } = z) (hm : z.media.motion = some m)
    (hk : m.kind.judges = true) (hr : z.battery.settings.registered = true) :
    exec .missedGap s = .next (if edge = true then z.judgeEdge true else z).checkLimit := by
  rw [exec_missedGap hu hrun, State.takeMiss_of_due hdue, hz, State.takeEdge_of_judging hm hk hr, Bool.and_true]

/-- A miss in a motion that judges edges, outside a recovery feed, below a count of 256. -/
theorem State.missGap_kept {u : State} {m : Motion} {p : Int} (hm : u.media.motion = some m)
    (hk : ∀ fed run, m.kind ≠ .recoveryJudge fed run) (hp : p = u.battery.settings.pitch) (hc : u.media.count + 8 < 256) :
    State.missGap { u with media := { u.media with due := none } } = { u with
      media := { u.media with
        event := .missedGap, badSeen := true, d := u.media.d - p, high := u.media.d - p, due := none
        count := u.media.count + 8 }
      sticky := { u.sticky with
        registrationWarning := u.sticky.registrationWarning || decide (96 ≤ u.media.count + 8) } } := by
  rw [State.missGap_of_other (by exact hm) hk, State.raiseCount_of_lt (by exact hc), hp]
  rfl

theorem State.checkLimit_of_motionless {s : State} (h : s.media.motion = none) : s.checkLimit = s.checkMediaOut := by
  rw [State.checkLimit, h]

theorem State.takeEdge_of_no_edge {s : State} {m : Motion} (missed fresh fell : Bool) (hm : s.media.motion = some m)
    (hk : m.kind.judges = true) : s.takeEdge missed fresh false fell = s := by
  unfold State.takeEdge
  rw [hm]
  dsimp only
  split <;> simp_all [MotionKind.judges]

/-- A forward motion without a limit, its gap run not above 160, arrives (R168). -/
theorem State.checkLimit_arrives {s : State} {m : Motion} (hm : s.media.motion = some m)
    (hl : limitOf s.battery.settings.pitch m.kind = none) (hgap : s.media.gapRun ≤ 160) : s.checkLimit = s.arrive := by
  rw [State.checkLimit, hm]
  dsimp only
  rw [hl]
  dsimp only
  rw [State.checkMediaOut, if_neg (Nat.not_lt.mpr hgap), ite_self]

/-- Settles O52. -/
theorem gapsAreJudgedAndCounted : Obligations.GapsAreJudgedAndCounted := by
  unfold Obligations.GapsAreJudgedAndCounted
  refine ⟨fun s m p missed hm hp hk => ⟨fun h1 h2 => ?_, fun hearly => ⟨fun hc => ?_, fun hc => ?_⟩⟩,
    fun s m p fed run missed hm hp hk => ⟨fun h1 h2 hrun => ?_, fun h1 h2 hrun => ?_, fun hearly => ?_⟩,
    fun s u y m p edge fell hu hrun hm hk hr hp hdue hy => ⟨fun fed run z hkind hz => ?_, fun z hkind hc hz => ?_,
      fun hkind hc => ?_⟩,
    fun s u m p fell hu hrun hm hk hp hdue hc hgap htop => ?_, fun s u hu hrun hdue => ?_⟩
  · rw [State.judgeEdge_of_good hp h1 h2, State.goodGap_of_other hm hk]
    rfl
  · rw [State.judgeEdge_of_early hp hearly, State.earlyGap_of_other hm hk, State.raiseCount_of_lt (by exact hc)]
    rfl
  · rw [State.judgeEdge_of_early hp hearly, State.earlyGap_of_other hm hk, State.raiseCount_of_ge (by exact hc)]
    have h := State.loseMedia_lost { s with media := { s.media with event := .earlyGap, badSeen := true } }
    exact ⟨h.engine, h.mediaLost, h.count, h.event⟩
  · rw [State.judgeEdge_of_good hp h1 h2, State.goodGap_of_recovery hm hk, if_neg hrun]
  · rw [State.judgeEdge_of_good hp h1 h2, State.goodGap_of_recovery hm hk, if_pos hrun]
  · rw [State.judgeEdge_of_early hp hearly, State.earlyGap_of_recovery hm hk]
  · refine exec_missedGap_kept hu hrun hdue (z := z) (m := { m with kind := .recoveryJudge fed 0 }) ?_ (by rw [hz]) rfl
      (by rw [hz, hy]; exact hr)
    rw [State.missGap_of_recovery (by exact hm) hkind, hz, hy, hp]
  · refine exec_missedGap_kept hu hrun hdue (z := z) (m := m) ?_ (by rw [hz, hy]; exact hm) hk (by rw [hz, hy]; exact hr)
    rw [State.missGap_kept hm hkind hp hc, hz, hy]
  · obtain ⟨t, ht, h⟩ := State.loseMedia_at_step (s := y) (by rw [hy])
    have hmiss : State.missGap { u with media := { u.media with due := none } } = y.loseMedia := by
      rw [State.missGap_of_other (by exact hm) hkind, State.raiseCount_of_ge (by exact hc), hy, hp]
    have hmotion := y.loseMedia_lost.motion
    refine ⟨t, ?_, ?_⟩
    · rw [exec_missedGap hu hrun, State.takeMiss_of_due hdue, hmiss, State.takeEdge_of_motionless _ _ _ _ hmotion,
        State.checkLimit_of_motionless hmotion, ht]
    · simpa only [hy] using h
  · obtain ⟨x, hx⟩ : ∃ x, x = State.missGap { u with media := { u.media with due := none } } := ⟨_, rfl⟩
    have hxe := hx.trans (State.missGap_kept hm (by simp [hk]) hp hc)
    have hxm : x.media.motion = some m := by rw [hxe]; exact hm
    have hxtop : x.atLabelTop = false := by rw [hxe, State.atLabelTop]; simpa [hp] using htop
    rw [exec_missedGap hu hrun, State.takeMiss_of_due hdue, ← hx, State.takeEdge_of_no_edge _ _ _ hxm (by rw [hk]; rfl),
      State.checkLimit_arrives hxm (by rw [hk]; rfl) (by rw [hxe]; exact hgap), State.arrive, hxm]
    simp only [hk, hxtop]
    rw [hxe]
    simp [State.setDue, hm, Config.feedPeriod, hk]
  · rw [exec_missedGap hu hrun, State.takeMiss]
    split
    · rename_i edge fell h
      exact absurd h (hdue edge fell)
    · rfl

end Sys2Proof.Machine
end


section
/-! SUPPORT. What a motor step leads to: the limits, media out and the arrival (sections 8.2 to 8.6). -/

set_option Elab.async false

namespace Sys2Proof.Machine

/-! ### The arrival (R161, R165 to R167, R171, R173) -/

theorem State.atLabelTop_iff (s : State) : s.atLabelTop = true ↔
    (s.media.d - (128 + (s.battery.settings.gapLength : Int))) % (s.battery.settings.pitch : Int) = 0 := by
  simp [State.atLabelTop]

/-- The kinds that end at a label top. -/
def MotionKind.toTop (k : MotionKind) : Prop := k = .resyncRun ∨ k = .recoveryRun ∨ k = .calibrateRun ∨ k = .feedTop

section arrival
variable {y more : State} {m : Motion} (hm : y.media.motion = some m)
include hm

theorem State.setDue_eq (t : Nat) :
    y.setDue t = { y with media := { y.media with motion := some { m with due := t } } } := by
  rw [State.setDue, hm]
  rfl

theorem State.arrive_at_top (hk : m.kind.toTop) (h : y.atLabelTop = true) : y.arrive = y.endMotion m := by
  rw [State.arrive, hm]
  rcases hk with hk | hk | hk | hk <;> simp [hk, h]

theorem State.arrive_before_top (hk : m.kind.toTop) (h : y.atLabelTop = false)
    (hmore : more = { y with media := { y.media with motion := some { m with due := y.now + 1250 } } }) :
    y.arrive = more := by
  rw [hmore, ← State.setDue_eq hm, State.arrive, hm]
  rcases hk with hk | hk | hk | hk <;> simp [hk, h, Config.feedPeriod]

theorem State.arrive_with_lines_left {left fed : Nat}
    (hk : m.kind = .feedLines left ∨ m.kind = .present left fed ∨ m.kind = .backfeed left) (hl : left ≠ 0)
    (hmore : more = { y with media := { y.media with motion := some { m with due := y.now + 1250 } } }) :
    y.arrive = more := by
  rw [hmore, ← State.setDue_eq hm, State.arrive, hm]
  rcases hk with hk | hk | hk <;> simp [hk, hl, Config.feedPeriod]

theorem State.arrive_seeking (hk : m.kind.seeks = true ∨ ∃ fed run, m.kind = .recoveryJudge fed run)
    (hmore : more = { y with media := { y.media with motion := some { m with due := y.now + 1250 } } }) :
    y.arrive = more := by
  rw [hmore, ← State.setDue_eq hm, State.arrive, hm]
  dsimp only
  split <;> simp_all [Config.feedPeriod, MotionKind.seeks]

theorem State.arrive_feedLines (hk : m.kind = .feedLines 0) : y.arrive = y.endMotion m := by
  rw [State.arrive, hm]
  simp [hk]

theorem State.arrive_present {fed : Nat} (hk : m.kind = .present 0 fed) :
    y.arrive = State.endMotion m { y with media := { y.media with out := some fed } } := by
  rw [State.arrive, hm]
  simp [hk]

theorem State.arrive_backfeed (hk : m.kind = .backfeed 0) :
    y.arrive = State.endMotion m { y with media := { y.media with out := none } } := by
  rw [State.arrive, hm]
  simp [hk]

/-- The step off a line of the PRINTING label that is not its last. -/
theorem State.arrive_at_line {t : Ticket} {n : Nat} (hk : m.kind = .label) (ht : y.printing = some t)
    (hn : y.media.labelLine = .stepping n) (hlen : n + 1 < t.length.getD 0) :
    y.arrive = State.lineStart (n + 1) { y with media := { y.media with labelLine := .standing (n + 1) } } := by
  rw [State.arrive, hm]
  simp [hk, State.arriveLabel, ht, hn, hlen]

/-- The step off the last line of the PRINTING label, or one of its tail. -/
theorem State.arrive_in_tail {t : Ticket} {v : LabelValues} (hk : m.kind = .label) (ht : y.printing = some t)
    (hv : y.burn.values = some v)
    (hn : (∃ n, y.media.labelLine = .stepping n ∧ t.length.getD 0 ≤ n + 1) ∨ y.media.labelLine = .tail) :
    y.arrive = if y.battery.settings.registered = true ∧ y.atLabelTop = false then
        { y with media := { y.media with labelLine := .tail, motion := some { m with due := y.now + v.period } } }
      else y.completeLabel := by
  rw [State.arrive, hm]
  rcases hn with ⟨n, hn, hlen⟩ | hn
  · simp [hk, State.arriveLabel, ht, hv, hn, Nat.not_lt.mpr hlen, State.setDue, hm]
  · simp [hk, State.arriveLabel, hv, hn, State.setDue, hm]

end arrival

theorem State.endMotion_eq {y z : State} {m : Motion} (hz : z = { y with media := { y.media with motion := none } }) :
    (m.forLabel = false → y.endMotion m = z.beginOrRest)
    ∧ (m.forLabel = true → (∃ left, m.kind = .backfeed left) → y.endMotion m = z.prelimCalibrate)
    ∧ (m.forLabel = true → (∀ left, m.kind ≠ .backfeed left) → y.endMotion m = z.settleStart) := by
  subst hz
  refine ⟨fun h => ?_, fun h ⟨left, hk⟩ => ?_, fun h hk => ?_⟩
  · simp [State.endMotion, h]
  · simp [State.endMotion, h, hk]
  · simp only [State.endMotion, h, if_true]

/-! ### The limit, media out, the arrival, in that order (R165 to R168) -/

theorem MotionKind.forward_eq_false_iff (k : MotionKind) : k.forward = false ↔ ∃ left, k = .backfeed left := by
  cases k <;> simp [MotionKind.forward]

section limits
variable {y : State} {m : Motion} (hm : y.media.motion = some m)
include hm

theorem State.checkLimit_of_limit {limit : StepDue} (h : limitOf y.battery.settings.pitch m.kind = some limit) :
    y.checkLimit = { y with media := { y.media with due := some limit } } := by
  rw [State.checkLimit, hm]
  dsimp only
  rw [h]

theorem State.checkLimit_of_backward (h : ∃ left, m.kind = .backfeed left) : y.checkLimit = y.arrive := by
  obtain ⟨left, hk⟩ := h
  rw [State.checkLimit, hm]
  simp [hk, limitOf, MotionKind.forward]

theorem State.checkLimit_of_out (h : limitOf y.battery.settings.pitch m.kind = none) (hk : ∀ left, m.kind ≠ .backfeed left)
    (hgap : 160 < y.media.gapRun) : y.checkLimit = { y with media := { y.media with due := some .mediaOut } } := by
  have hf : m.kind.forward = true := by
    rw [← Bool.not_eq_false, MotionKind.forward_eq_false_iff]
    exact fun ⟨left, h⟩ => hk left h
  rw [State.checkLimit, hm]
  dsimp only
  rw [h]
  dsimp only
  rw [if_pos hf, State.checkMediaOut, if_pos hgap]

end limits

end Sys2Proof.Machine
end


section
/-! SUPPORT. The motor step itself, and the judgement of its edge (sections 8.2 to 8.5). -/

set_option Elab.async false

namespace Sys2Proof.Machine

/-! ### The kinds of motion -/

theorem MotionKind.judges_iff (k : MotionKind) : k.judges = true ↔ k = .label ∨ k = .feedTop ∨ (∃ n, k = .feedLines n)
    ∨ (∃ n fed, k = .present n fed) ∨ k = .resyncRun ∨ (∃ fed run, k = .recoveryJudge fed run) ∨ k = .recoveryRun := by
  cases k <;> simp [MotionKind.judges]

theorem MotionKind.advance_of_top {k : MotionKind}
    (h : k = .label ∨ k = .feedTop ∨ k = .resyncRun ∨ k = .recoveryRun ∨ k = .calibrateRun) : k.advance = k := by
  rcases h with rfl | rfl | rfl | rfl | rfl <;> rfl

/-- A motion that judges edges runs forward, and leaves no edge to seek. -/
theorem MotionKind.of_judges {k : MotionKind} (h : k.judges = true) : k.forward = true ∧ k.seeks = false := by
  cases k <;> simp_all [MotionKind.judges, MotionKind.forward, MotionKind.seeks]

theorem MotionKind.forward_of_seeks {k : MotionKind} (h : k.seeks = true) : k.forward = true ∧ k.judges = false := by
  cases k <;> simp_all [MotionKind.judges, MotionKind.forward, MotionKind.seeks]

theorem MotionKind.judges_advance (k : MotionKind) : k.advance.judges = k.judges := by cases k <;> rfl

/-! ### The step (R161, R163, R168) -/

/-- A motor step that may be made. -/
theorem exec_motorStep {s u t : State} {gap : Bool} (hu : s.settle = u) (hrun : u.mode = .running)
    (hcan : u.canStep = true) (ht : u.stepMotor gap = t) : exec (.motorStep gap) s = .next t :=
  exec_event_running (f := State.tryStep gap) rfl hu ((if_pos hcan).trans ht) (by rw [← ht]; simpa using hrun)

section step
variable {u x : State} {m : Motion} {gap : Bool} (hm : u.media.motion = some m)
include hm

/-- A step of a feed that seeks an edge. -/
theorem State.stepMotor_of_seek (hk : m.kind.seeks = true) (hx : x = { u with
      now := max u.now m.due, lines := { u.lines with gap := gap }
      media := { u.media with
        motion := some { m with kind := m.kind.advance }
        gapRun := if gap = true then min 161 (u.media.gapRun + 1) else 0 } }) :
    u.stepMotor gap
      = (x.takeEdge false (decide (u.media.high < u.media.d)) (gap && !u.lines.gap) (!gap && u.lines.gap)).checkLimit := by
  obtain ⟨hf, hj⟩ := MotionKind.forward_of_seeks hk
  rw [State.stepMotor, hm, hx]
  simp only [Media.stepped, State.atLeast, hk, hf, hj, Bool.not_true, Bool.and_false, Bool.false_and, Bool.and_true,
    if_true, Bool.false_eq_true, if_false, gapRunAfter]
  rfl

/-- A forward step of a motion that seeks no edge, and takes no miss. -/
theorem State.stepMotor_of_run {reg : Bool} (hreg : reg = u.battery.settings.registered) (hk : m.kind.seeks = false)
    (hf : m.kind.forward = true)
    (hmiss : m.kind.judges = false ∨ reg = false ∨ u.media.d + 1 ≤ u.media.high
      ∨ u.media.d + 1 < (u.battery.settings.pitch : Int) + 17)
    (hx : x = { u with
      now := max u.now m.due, lines := { u.lines with gap := gap }
      media := { u.media with
        motion := some { m with kind := m.kind.advance }
        gapRun := if gap = true then min 161 (u.media.gapRun + 1) else 0
        d := if reg = true then u.media.d + 1 else u.media.d
        high := if reg = true then max u.media.high (u.media.d + 1) else u.media.high } }) :
    u.stepMotor gap
      = (x.takeEdge false (decide (u.media.high < x.media.d)) (gap && !u.lines.gap) (!gap && u.lines.gap)).checkLimit := by
  have hmoves : (u.battery.settings.registered && !m.kind.seeks) = reg := by simp [hk, hreg]
  rw [State.stepMotor, hm, hx]
  simp only [Media.stepped, State.atLeast, hmoves, hf, Bool.and_true, if_true, gapRunAfter]
  rw [if_neg]
  · rfl
  · rw [← hreg]
    rcases hmiss with h | h | h | h
    · simp [h]
    · simp [h]
    · cases reg <;> simp [not_lt.mpr h]
    · cases reg <;> simp [h]

/-- A step of a backfeed. -/
theorem State.stepMotor_of_backfeed {k : Nat} (hk : m.kind = .backfeed (k + 1)) (hx : x = { u with
      now := max u.now m.due, lines := { u.lines with gap := gap }
      media := { u.media with
        motion := some { m with kind := .backfeed k }
        d := if u.battery.settings.registered = true then u.media.d - 1 else u.media.d
        high := if u.battery.settings.registered = true then max u.media.high (u.media.d - 1) else u.media.high } }) :
    u.stepMotor gap = x.arrive := by
  have hf : m.kind.forward = false := by rw [hk]; rfl
  have hj : m.kind.judges = false := by rw [hk]; rfl
  have hs : m.kind.seeks = false := by rw [hk]; rfl
  have ha : m.kind.advance = .backfeed k := by rw [hk]; rfl
  have hxm : x.media.motion = some { m with kind := .backfeed k } := by rw [hx]
  rw [← State.checkLimit_of_backward hxm ⟨k, rfl⟩, ← State.takeEdge_of_no_change false
    (decide (u.media.high < x.media.d)) x, hx, State.stepMotor, hm]
  simp only [Media.stepped, State.atLeast, hf, hj, hs, ha, Bool.not_false, Bool.and_true, Bool.and_false, Bool.false_and,
    Bool.false_eq_true, if_false, State.afterMiss]

/-- A step at which a missed gap falls due. -/
theorem State.stepMotor_of_miss (hj : m.kind.judges = true) (hr : u.battery.settings.registered = true)
    (hfresh : u.media.high < u.media.d + 1) (hpast : (u.battery.settings.pitch : Int) + 17 ≤ u.media.d + 1) :
    u.stepMotor gap = { u with
      now := max u.now m.due, lines := { u.lines with gap := gap }
      media := { u.media with
        motion := some { m with kind := m.kind.advance }
        gapRun := if gap = true then min 161 (u.media.gapRun + 1) else 0
        d := u.media.d + 1
        high := max u.media.high (u.media.d + 1)
        due := some (.missedGap (gap && !u.lines.gap) (!gap && u.lines.gap)) } } := by
  obtain ⟨hf, hs⟩ := MotionKind.of_judges hj
  rw [State.stepMotor, hm]
  simp only [Media.stepped, State.atLeast, hf, hj, hs, hr, Bool.not_false, Bool.and_true, if_true, gapRunAfter]
  rw [if_pos (by simp [hfresh, hpast])]

end step

end Sys2Proof.Machine
end


section
/-! SUPPORT. The edge that a step finds, judged or measured, and what the step leads to (sections 8.3 to 8.5). -/

set_option Elab.async false

namespace Sys2Proof.Machine

/-! ### The edge taken by the motion (R163, R165 to R167) -/

section edge
variable {y : State} {m : Motion} {missed fresh edge fell : Bool} (hm : y.media.motion = some m)
include hm

theorem State.setKind_eq (k : MotionKind) :
    y.setKind k = { y with media := { y.media with motion := some { m with kind := k } } } := by
  rw [State.setKind, hm]
  rfl

theorem State.takeEdge_resyncSeek {fed : Nat} (hk : m.kind = .resyncSeek fed) : y.takeEdge missed fresh edge fell
    = if edge = true then { y with
        media := { y.media with motion := some { m with kind := .resyncRun }, d := 0, high := 0 } } else y := by
  simp only [State.takeEdge, hm, hk, State.setKind, State.setReference, Option.map_some]

theorem State.takeEdge_recoverySeek {fed : Nat} (hk : m.kind = .recoverySeek fed) : y.takeEdge missed fresh edge fell
    = if edge = true then { y with
        media := { y.media with motion := some { m with kind := .recoveryJudge fed 0 }, d := 0, high := 0 } } else y := by
  simp only [State.takeEdge, hm, hk, State.setKind, State.setReference, Option.map_some]

theorem State.takeEdge_calibrateSeek {fed : Nat} (hk : m.kind = .calibrateSeek fed) : y.takeEdge missed fresh edge fell
    = { y with
        media := { y.media with
          motion := some { m with kind := if edge = true then .calibrateGap fed 0 else .calibrateSeek fed } } } := by
  simp only [State.takeEdge, hm, hk, State.setKind, Option.map_some]
  split
  · rfl
  · rw [← hk, ← hm]

theorem State.takeEdge_calibrateGap {fed since : Nat} (hk : m.kind = .calibrateGap fed since) :
    y.takeEdge missed fresh edge fell = { y with
        media := { y.media with
          motion := some { m with
            kind := if fell = true then .calibratePitch fed since since else .calibrateGap fed since } } } := by
  simp only [State.takeEdge, hm, hk, State.setKind, Option.map_some]
  split
  · rfl
  · rw [← hk, ← hm]

theorem State.takeEdge_calibratePitch {fed since length : Nat} (hk : m.kind = .calibratePitch fed since length) :
    y.takeEdge missed fresh edge fell = if edge = true then y.endCalibration since length m.forRecovery else y := by
  simp only [State.takeEdge, hm, hk]

theorem State.takeEdge_of_not_judging (hk : m.kind.judges = false) (hs : m.kind.seeks = false) :
    y.takeEdge missed fresh edge fell = y := by
  unfold State.takeEdge
  rw [hm]
  dsimp only
  split <;> simp_all [MotionKind.judges, MotionKind.seeks]

end edge

/-- Settles O51. -/
theorem stepIsJudgedAndArrives : Obligations.StepIsJudgedAndArrives := by
  unfold Obligations.StepIsJudgedAndArrives
  refine ⟨fun k n fed run => ⟨k.judges_iff, MotionKind.advance_of_top, rfl, rfl, rfl, rfl, rfl, rfl, rfl, rfl, rfl⟩,
    fun gap edge s u w x m p run hu hrun hm hcan hreg hp hedge hr hw hx => ?_,
    fun y => ⟨fun m due hm hdue => ⟨fun limit hl => ?_, fun hn hk => ?_, fun hn hk => ⟨fun hgap => ?_, fun hgap => ?_⟩⟩,
      fun hm => ⟨fun hgap => ?_, fun hgap => ?_⟩⟩,
    fun y more m atTop hm hmore htop => ⟨fun hk => ⟨fun ht => ?_, fun ht => ?_⟩, fun left fed hk hl => ?_, fun hk => ?_,
      fun fed hk => ?_, fun hk => ?_, fun hk => ?_, fun t v hk ht hv => ⟨fun n hn hlen => ?_, fun hn =>
        ⟨fun hreg htail => ?_, fun hdone => ?_⟩⟩⟩,
    fun y z m hz => State.endMotion_eq hz⟩
  · have hxm : x.media.motion = some { m with kind := m.kind.advance } := by rw [hx]
    have hxd : x.media.d = u.media.d + 1 := by rw [hx]
    have hxr : x.battery.settings.registered = true := by rw [hx, hw]; exact hreg
    have hstep : ∀ (_ : m.kind.seeks = false) (_ : m.kind.forward = true)
        (_ : m.kind.judges = false ∨ true = false ∨ u.media.d + 1 ≤ u.media.high ∨ u.media.d + 1 < p + 17),
        exec (.motorStep gap) s = .next
          (x.takeEdge false (decide (u.media.high < u.media.d + 1)) edge (!gap && u.lines.gap)).checkLimit := by
      intro hs hf hmiss
      refine exec_motorStep hu hrun hcan ?_
      rw [hedge, ← hxd]
      exact State.stepMotor_of_run (reg := true) hm hreg.symm hs hf (hp ▸ hmiss) (by rw [hx, hw, hr]; rfl)
    refine ⟨fun hj hfresh hlow he => ?_, fun hj hfresh hlow he => ?_, fun hj hold => ?_, fun hk => ?_,
      fun hk hl hfresh hgood hlow he hrun160 htop => ?_⟩
    · obtain ⟨hf, hs⟩ := MotionKind.of_judges hj
      rw [hstep hs hf (.inr (.inr (.inr hlow))), State.takeEdge_of_judging hxm (m.kind.judges_advance ▸ hj) hxr, he,
        if_pos (by simp [hfresh])]
    · obtain ⟨hf, hs⟩ := MotionKind.of_judges hj
      rw [hstep hs hf (.inr (.inr (.inr hlow))), he, State.takeEdge_of_no_edge _ _ _ hxm (m.kind.judges_advance ▸ hj)]
    · obtain ⟨hf, hs⟩ := MotionKind.of_judges hj
      rw [hstep hs hf (.inr (.inr (.inl hold))), State.takeEdge_of_judging hxm (m.kind.judges_advance ▸ hj) hxr,
        if_neg (by simp [not_lt.mpr hold])]
    · rw [hstep (by rw [hk]; rfl) (by rw [hk]; rfl) (.inl (by rw [hk]; rfl)),
        State.takeEdge_of_not_judging hxm (by rw [hk]; rfl) (by rw [hk]; rfl)]
    · obtain ⟨z, hz⟩ : ∃ z : State, z = { w with
          media := { u.media with
            motion := some m, gapRun := run, d := 0, high := 0, goodSeen := true, count := u.media.count - 1 }
          sticky := { u.sticky with
            registrationWarning := u.sticky.registrationWarning || decide (96 ≤ u.media.count - 1) } } := ⟨_, rfl⟩
      have hadvance : ({ m with kind := m.kind.advance } : Motion) = m := by rw [MotionKind.advance_of_top (.inr (.inl hk))]
      have hgoodGap : x.judgeEdge false = z := by
        rw [State.judgeEdge_of_good (p := p) (by rw [hx, hw]; exact hp) (by rw [hxd]; exact hgood) (by rw [hxd]; omega),
          State.goodGap_of_other hxm (by simp [hk, MotionKind.advance]), hx, hz, hw, hadvance]
        rfl
      have hzm : z.media.motion = some m := by rw [hz]
      rw [hstep (by rw [hk]; rfl) (by rw [hk]; rfl) (.inr (.inr (.inr hlow))),
        State.takeEdge_of_judging hxm (by rw [hk]; rfl) hxr, he, if_pos (by simp [hfresh]), hgoodGap,
        State.checkLimit_arrives hzm (by rw [hk]; rfl) (by rw [hz]; exact hrun160),
        State.arrive_at_top hzm (.inr (.inr (.inr hk)))]
      · rw [(State.endMotion_eq rfl).1 hl, hz]
      · rw [State.atLabelTop_iff, hz, hw]
        rw [zero_sub]
        exact Int.emod_eq_zero_of_dvd ((Int.dvd_neg).mpr (Int.dvd_of_emod_eq_zero (hp ▸ htop)))
  · exact State.checkLimit_of_limit hm (hdue.symm.trans hl)
  · exact State.checkLimit_of_backward hm hk
  · exact State.checkLimit_of_out hm (hdue.symm.trans hn) hk hgap
  · exact State.checkLimit_arrives hm (hdue.symm.trans hn) hgap
  · rw [State.checkLimit_of_motionless hm, State.checkMediaOut, if_pos hgap]
  · rw [State.checkLimit_of_motionless hm, State.checkMediaOut_of_stopped hm hgap]
  · exact State.arrive_at_top hm hk (y.atLabelTop_iff.mpr (htop.mp ht))
  · refine State.arrive_before_top hm hk ?_ hmore
    rw [← Bool.not_eq_true, State.atLabelTop_iff]
    exact fun h => ht (htop.mpr h)
  · exact State.arrive_with_lines_left hm hk hl hmore
  · exact State.arrive_feedLines hm hk
  · exact State.arrive_present hm hk
  · exact State.arrive_backfeed hm hk
  · refine State.arrive_seeking hm ?_ hmore
    rcases hk with ⟨fed, hk⟩ | ⟨fed, hk⟩ | ⟨fed, run, hk⟩ | ⟨fed, hk⟩ | ⟨fed, n, hk⟩ | ⟨fed, n, length, hk⟩
    · exact .inl (by rw [hk]; rfl)
    · exact .inl (by rw [hk]; rfl)
    · exact .inr ⟨fed, run, hk⟩
    · exact .inl (by rw [hk]; rfl)
    · exact .inl (by rw [hk]; rfl)
    · exact .inl (by rw [hk]; rfl)
  · exact State.arrive_at_line hm hk ht hn hlen
  · have hbefore : y.atLabelTop = false := by
      rw [← Bool.not_eq_true, State.atLabelTop_iff]
      exact fun h => htail (htop.mpr h)
    rw [State.arrive_in_tail hm hk ht hv hn, if_pos ⟨hreg, hbefore⟩]
  · rw [State.arrive_in_tail hm hk ht hv hn, if_neg]
    rintro ⟨hreg, htail⟩
    rcases hdone with h | h
    · simp [h] at hreg
    · rw [y.atLabelTop_iff.mpr (htop.mp h)] at htail
      cases htail

end Sys2Proof.Machine
end


section
/-! SUPPORT. The limits of the feeds and media out (sections 8.3 to 8.5). -/

set_option Elab.async false

namespace Sys2Proof.Machine

/-- A forward motion that may step seeks an edge, judges edges, or is a calibration's last run. -/
theorem MotionKind.seeks_eq_false_iff {k : MotionKind} (hstart : k ≠ .awaitStart) (hback : ∀ left, k ≠ .backfeed left) :
    k.seeks = false ↔ k.judges = true ∨ k = .calibrateRun := by
  cases k <;> simp_all [MotionKind.seeks, MotionKind.judges]

/-- A motor that may step is in a motion, past its wake, that waits for no label start. -/
theorem State.not_awaiting_of_canStep {u : State} {m : Motion} (hm : u.media.motion = some m) (h : u.canStep = true) :
    m.kind ≠ .awaitStart := by
  intro hk
  simp [State.canStep, hm, hk] at h

theorem MotionKind.advance_forward {k : MotionKind} (h : ∀ left, k ≠ .backfeed left) (left : Nat) :
    k.advance ≠ .backfeed left := by
  cases k <;> simp_all [MotionKind.advance]

/-- Settles O53. -/
theorem feedLimitsAndMediaOut : Obligations.FeedLimitsAndMediaOut := by
  unfold Obligations.FeedLimitsAndMediaOut
  refine ⟨fun pitch fed n k => ⟨by simp [limitOf], by simp [limitOf], by simp [limitOf], by simp [limitOf],
      by simp [limitOf], by simp [limitOf]⟩,
    fun gap edge fell s u w m run x hu hrun hm hcan hw hr he hf hx => ?_,
    fun s u m moves hu hrun hm hcan hlines hgap hk hl hmiss hmoves => ?_,
    fun c due s u hu hc hrun => ⟨fun hdue => ?_, fun hdue => ?_⟩,
    fun s u hu hrun => ⟨fun hdue => ?_, fun hdue => ?_⟩⟩
  · obtain ⟨y, hy⟩ : ∃ y : MotionKind → State, ∀ kind, y kind = { w with
      media := { u.media with motion := some { m with kind := kind }, gapRun := run } } := ⟨fun kind => _, fun _ => rfl⟩
    have hym : ∀ kind, (y kind).media.motion = some { m with kind := kind } := fun kind => by rw [hy]
    have hseek : ∀ {kind : MotionKind} (next : MotionKind), m.kind = kind → kind.seeks = true → kind.advance = next →
        exec (.motorStep gap) s
          = .next ((y next).takeEdge false (decide (u.media.high < u.media.d)) edge fell).checkLimit := by
      rintro kind next rfl hs rfl
      rw [he, hf]
      exact exec_motorStep hu hrun hcan (State.stepMotor_of_seek hm hs (by rw [hy, hw, hr]))
    have hlimit : ∀ kind limit, limitOf u.battery.settings.pitch kind = some limit → (y kind).checkLimit = x kind limit := by
      intro kind limit h
      rw [State.checkLimit_of_limit (hym kind) (limit := limit) (by rw [hy, hw]; exact h), hx, hy]
    refine ⟨fun fed hk hedge hl => ?_, fun fed z hk hedge hl hz => ?_, fun fed good z hk hedge hreg hmiss hl hz => ?_,
      fun fed hk hl => ?_, fun fed since hk hl => ?_, fun fed since length hk hedge hl => ?_⟩
    · rw [hseek (.recoverySeek (fed + 1)) hk rfl rfl, State.takeEdge_recoverySeek (hym _) rfl, hedge, if_neg (by simp),
        hlimit (.recoverySeek (fed + 1)) _ (if_pos hl)]
    · rw [hseek (.recoverySeek (fed + 1)) hk rfl rfl, State.takeEdge_recoverySeek (hym _) rfl, hedge, if_pos rfl,
        State.checkLimit_of_limit (m := { m with kind := .recoveryJudge (fed + 1) 0 }) rfl (limit := .recoveryLimit), hz, hx, hy]
      rw [hy, hw]
      exact if_pos hl
    · obtain ⟨r, hrr⟩ : ∃ r : State, r = { w with
          media := { u.media with
            motion := some { m with kind := .recoveryJudge (fed + 1) good }
            gapRun := run, d := u.media.d + 1, high := max u.media.high (u.media.d + 1) } } := ⟨_, rfl⟩
      have hrm : r.media.motion = some { m with kind := .recoveryJudge (fed + 1) good } := by rw [hrr]
      refine exec_motorStep hu hrun hcan ?_
      rw [State.stepMotor_of_run (x := r) (reg := true) hm hreg.symm (by rw [hk]; rfl) (by rw [hk]; rfl)
        (.inr (.inr hmiss)) (by rw [hrr, hw, hr, hk]; rfl), ← he, hedge, State.takeEdge_of_no_edge _ _ _ hrm rfl,
        State.checkLimit_of_limit hrm (limit := .recoveryLimit), hz, hx, hrr]
      rw [hrr, hw]
      exact if_pos hl
    · rw [hseek (.calibrateSeek (fed + 1)) hk rfl rfl, State.takeEdge_calibrateSeek (hym _) rfl, State.checkLimit_of_limit
        (m := { m with kind := if edge = true then .calibrateGap (fed + 1) 0 else .calibrateSeek (fed + 1) }) rfl
        (limit := .calibrationLimit), hx, hy]
      cases edge <;> exact if_pos hl
    · rw [hseek (.calibrateGap (fed + 1) (since + 1)) hk rfl rfl, State.takeEdge_calibrateGap (hym _) rfl, State.checkLimit_of_limit
        (m := { m with kind := if fell = true then .calibratePitch (fed + 1) (since + 1) (since + 1)
          else .calibrateGap (fed + 1) (since + 1) }) rfl (limit := .calibrationLimit), hx, hy]
      cases fell <;> exact if_pos hl
    · rw [hseek (.calibratePitch (fed + 1) (since + 1) length) hk rfl rfl, State.takeEdge_calibratePitch (hym _) rfl, hedge, if_neg (by simp),
        hlimit (.calibratePitch (fed + 1) (since + 1) length) _ (if_pos hl)]
  · obtain ⟨y, hy⟩ : ∃ y : State, y = { u with
        now := max u.now m.due
        media := { u.media with
          motion := some { m with kind := m.kind.advance }
          gapRun := 161
          d := if moves = true then u.media.d + 1 else u.media.d
          high := if moves = true then max u.media.high (u.media.d + 1) else u.media.high } } := ⟨_, rfl⟩
    have hym : y.media.motion = some { m with kind := m.kind.advance } := by rw [hy]
    have hlevel : ({ u.lines with gap := true } : BoardLines) = u.lines := by rw [← hlines]
    have hcount : min 161 (u.media.gapRun + 1) = 161 := Nat.min_eq_left (by omega)
    have hstep : u.stepMotor true = y.checkLimit := by
      cases hs : m.kind.seeks with
      | true =>
        have hstill : moves = false := by
          rw [← Bool.not_eq_true, hmoves, ← MotionKind.seeks_eq_false_iff (State.not_awaiting_of_canStep hm hcan) hk, hs]
          simp
        rw [State.stepMotor_of_seek (x := y) hm hs (by simp [hy, hlevel, hcount, hstill]), hlines]
        exact congrArg State.checkLimit (State.takeEdge_of_no_change _ _ y)
      | false =>
        have hmoves' : moves = u.battery.settings.registered := by
          rw [Bool.eq_iff_iff, hmoves, ← MotionKind.seeks_eq_false_iff (State.not_awaiting_of_canStep hm hcan) hk]
          exact and_iff_left hs
        have hforward : m.kind.forward = true := by
          rw [← Bool.not_eq_false, MotionKind.forward_eq_false_iff]
          exact fun ⟨left, h⟩ => hk left h
        rw [State.stepMotor_of_run (x := y) hm hmoves' hs hforward (hmoves' ▸ hmiss) (by simp [hy, hlevel, hcount]), hlines]
        exact congrArg State.checkLimit (State.takeEdge_of_no_change _ _ y)
    refine exec_motorStep hu hrun hcan (hstep.trans ?_)
    rw [State.checkLimit_of_out hym (by rw [hy]; exact hl) (MotionKind.advance_forward hk) (by rw [hy]; exact Nat.lt_succ_self 160), hy]
  · rw [exec_limit hc hu hrun, if_neg hdue]
  · obtain ⟨t, ht, h⟩ := State.loseMedia_at_step (s := { u with media := { u.media with due := none } }) rfl
    exact ⟨t, by rw [exec_limit hc hu hrun, if_pos hdue, ht], h⟩
  · rw [exec_mediaOut hu hrun]
    exact congrArg Host.Outcome.next (if_neg hdue)
  · have h := State.addCause_stopped (causes := ⟨false, true, false, false⟩) rfl
      { u with media := { u.media with event := .mediaOut, due := none } }
    refine ⟨_, by rw [exec_mediaOut hu hrun, State.takeMediaOut_of_due hdue], h.engine, ?_, h.event, h.due, h.motion, h.line,
      h.attention, by simp, h.battery, h.store, by simp, by simp⟩
    rw [h.causes]
    simp [Causes.union]

end Sys2Proof.Machine
end


section
/-! SUPPORT. Each motor step's effect on the motion and the tracker (sections 8.1 to 8.6). -/

set_option Elab.async false

namespace Sys2Proof.Machine

/-! ### Steps without an edge to take -/

section run
variable {y : State} {m : Motion} {missed fresh edge fell : Bool} (hm : y.media.motion = some m)
include hm

theorem State.takeEdge_of_run (hs : m.kind.seeks = false) : y.takeEdge missed fresh false fell = y := by
  cases hj : m.kind.judges with
  | true => exact State.takeEdge_of_no_edge _ _ _ hm hj
  | false => exact State.takeEdge_of_not_judging hm hj hs

theorem State.takeEdge_of_unregistered (hs : m.kind.seeks = false) (hr : y.battery.settings.registered = false) :
    y.takeEdge missed fresh edge fell = y := by
  unfold State.takeEdge
  rw [hm]
  dsimp only
  split <;> simp_all [MotionKind.seeks]

end run

/-- On the reference edge the burn line stands at a label top where the window's length is a multiple of the pitch. -/
theorem State.atLabelTop_of_reference {s : State} (h : s.media.d = 0) : s.atLabelTop = true ↔
    (128 + s.battery.settings.gapLength) % s.battery.settings.pitch = 0 := by
  rw [State.atLabelTop_iff, h, zero_sub, ← Int.dvd_iff_emod_eq_zero, Int.dvd_neg, ← Nat.dvd_iff_mod_eq_zero,
    ← Int.natCast_dvd_natCast]
  simp

/-! ### Completion (R109, R152, R161) -/

theorem State.completeLabel_eq {y z : State} {t : Ticket} {v : LabelValues} (ht : y.printing = some t)
    (hv : y.burn.values = some v) (hz : z = { y with
      burn := { y.burn with stretchedLast := y.burn.stretchedLabel }
      media := { y.media with
        event := if y.media.goodSeen = true ∧ y.media.badSeen = false then .none else y.media.event
        motion := none
        labelLine := .none } }) :
    y.completeLabel = (z.completeTicket t).afterCompletion v.presentDistance := by
  have hevent : y.media.completionEvent
      = if y.media.goodSeen = true ∧ y.media.badSeen = false then .none else y.media.event := by
    simp [Media.completionEvent]
  rw [hz, State.completeLabel, ht, hv, ← hevent]

end Sys2Proof.Machine
end


section
/-! SUPPORT. A job changed in place, and the completion of a ticket's label at the Job Queue (sections 5.2 and 5.7). -/

set_option Elab.async false

namespace Sys2Proof.Machine

/-! ### A job changed in place (R95) -/

theorem JobQueue.job_tag {q : JobQueue} {tag : Nat} {j : Job} (h : q.job tag = some j) : j.items.tag = tag := by
  simpa using List.find?_some h

theorem JobQueue.job_updateJob {q : JobQueue} {tag : Nat} {f : Job → Job} (hf : ∀ j, (f j).items.tag = j.items.tag) :
    (q.updateJob tag f).job tag = (q.job tag).map f := by
  unfold JobQueue.job JobQueue.updateJob
  induction q.jobs with
  | nil => rfl
  | cons k ks ih =>
    by_cases hk : k.items.tag = tag
    · simp [hk, hf]
    · simpa [hk] using ih

theorem map_update_update {jobs : List Job} {tag : Nat} {f g : Job → Job} (hf : ∀ j, (f j).items.tag = j.items.tag) :
    (jobs.map fun (j : Job) => if j.items.tag = tag then f j else j).map
        (fun (j : Job) => if j.items.tag = tag then g j else j)
      = jobs.map fun (j : Job) => if j.items.tag = tag then g (f j) else j := by
  rw [List.map_map]
  refine List.map_congr_left fun k _ => ?_
  by_cases hk : k.items.tag = tag <;> simp [hk, hf]

theorem JobQueue.hasTicket_eq_false_iff (q : JobQueue) (tag : Nat) :
    q.hasTicket tag = false ↔ ∀ t ∈ q.tickets, t.key.source ≠ some tag := by
  simp [JobQueue.hasTicket]

theorem Job.hasLabelsLeft_eq_false_iff (j : Job) :
    j.hasLabelsLeft = false ↔ j.cancelled = true ∨ j.items.quantity < j.nextLabel := by
  simp [Job.hasLabelsLeft, or_iff_not_imp_left]

/-! ### The completion of a label (R109, R114, R115) -/

/-- A completion counted in the ticket's job. -/
def Job.completed (clipped final : Bool) (j : Job) : Job :=
  { j with
    labelsCompleted := j.labelsCompleted + 1
    labelsClipped := j.labelsClipped + if clipped = true then 1 else 0
    groupsCompleted := j.groupsCompleted + if final = true then 1 else 0 }

/-- A completion taken by the Job Queue, before its job may end. -/
def State.completedFor (j : Job) (t : Ticket) (tag : Nat) (s : State) : State :=
  { s with
    battery := if (decide (t.key.copy = j.items.copies) || j.cancelled) = true then
        s.battery.withCounters (confirmGroup tag t.key.label s.battery.counters)
      else s.battery
    store := s.store.replace j.entries ((s.queue.last.map LastLabel.entries).getD [])
    queue := { s.queue.updateJob tag (Job.completed t.clipped (decide (t.key.copy = j.items.copies))) with
      tickets := s.queue.tickets.filter fun k => decide (k.key ≠ t.key)
      last := some (lastOf j t) } }

theorem State.settled_replaced {z : State} {t : Ticket} {tag : Nat} {j : Job} (hj : z.queue.job tag = some j) :
    State.replaceLast (lastOf j t) (State.settleGroup j t
      { z.removeTicket t.key with
        queue := (z.removeTicket t.key).queue.updateJob tag fun k =>
          { k with
            labelsCompleted := k.labelsCompleted + 1
            labelsClipped := k.labelsClipped + (if t.clipped then 1 else 0) } })
    = z.completedFor j t tag := by
  have htag := JobQueue.job_tag hj
  simp only [State.settleGroup, State.replaceLast, State.completedFor, State.removeTicket, State.withCounters, htag]
  by_cases hc : t.key.copy = j.items.copies
  · simp only [if_pos hc, JobQueue.updateJob, decide_eq_true hc, Bool.true_or, if_true]
    rw [map_update_update (f := fun j : Job => { j with
      labelsCompleted := j.labelsCompleted + 1
      labelsClipped := j.labelsClipped + (if t.clipped = true then 1 else 0) }) fun _ => rfl]
    cases hl : z.queue.last <;> rfl
  · simp only [if_neg hc, JobQueue.updateJob, decide_eq_false hc, Bool.false_or]
    cases hl : z.queue.last <;> cases hcan : j.cancelled <;> rfl

/-- The job ended by a completion, where nothing of it is left (R109, R114). -/
theorem State.endIfDone_completed {z : State} {t : Ticket} {tag : Nat} {j : Job} {done : Bool}
    (hj : z.queue.job tag = some j)
    (hdone : done = true ↔ (∀ k ∈ z.queue.tickets.filter fun k => decide (k.key ≠ t.key), k.key.source ≠ some tag)
      ∧ j.openGroup = none ∧ (j.cancelled = true ∨ j.items.quantity < j.nextLabel)) :
    (z.completedFor j t tag).endIfDone tag
      = if done = true then (z.completedFor j t tag).endJob tag (if j.cancelled = true then .cancelled else .done)
        else z.completedFor j t tag := by
  have hjob : (z.completedFor j t tag).queue.job tag
      = some (j.completed t.clipped (decide (t.key.copy = j.items.copies))) := by
    have := JobQueue.job_updateJob (q := z.queue) (tag := tag)
      (f := Job.completed t.clipped (decide (t.key.copy = j.items.copies))) fun _ => rfl
    rw [hj] at this
    exact this
  rw [State.endIfDone, hjob]
  refine if_congr ?_ rfl rfl
  rw [hdone, Bool.and_eq_true, Bool.and_eq_true, Bool.not_eq_true', Bool.not_eq_true', JobQueue.hasTicket_eq_false_iff,
    Job.hasLabelsLeft_eq_false_iff, Option.isNone_iff_eq_none, and_assoc]
  rfl

theorem State.completeTicket_of_job {z : State} {t : Ticket} {tag : Nat} {j : Job} {done : Bool}
    (hs : t.key.source = some tag) (hj : z.queue.job tag = some j)
    (hdone : done = true ↔ (∀ k ∈ z.queue.tickets.filter fun k => decide (k.key ≠ t.key), k.key.source ≠ some tag)
      ∧ j.openGroup = none ∧ (j.cancelled = true ∨ j.items.quantity < j.nextLabel)) :
    z.completeTicket t = State.boundary
      (if done = true then (z.completedFor j t tag).endJob tag (if j.cancelled = true then .cancelled else .done)
        else z.completedFor j t tag) := by
  rw [← State.endIfDone_completed hj hdone, ← State.settled_replaced hj, State.completeTicket, hs]
  dsimp only
  rw [hj]

end Sys2Proof.Machine
end


section
/-! SUPPORT. What each motor step does to the motion it belongs to (sections 8.1 to 8.6). -/

set_option Elab.async false

namespace Sys2Proof.Machine

/-- A step that finds no edge: neither a change to the gap nor one from media. -/
theorem no_edge_of {gap before : Bool} (h : gap = false ∨ before = true) : (gap && !before) = false := by
  rcases h with rfl | rfl <;> simp

/-- The end of a motion that goes back to the label start it was made for, or to rest. -/
theorem State.endMotion_forward {y z : State} {m : Motion} (hk : ∀ left, m.kind ≠ .backfeed left)
    (hz : z = { y with media := { y.media with motion := none } }) :
    y.endMotion m = if m.forLabel = true then z.settleStart else z.beginOrRest := by
  cases hl : m.forLabel with
  | false => exact (State.endMotion_eq hz).1 hl
  | true => exact (State.endMotion_eq hz).2.2 hl hk

theorem MotionKind.toTop.runs {k : MotionKind} (h : k.toTop) (pitch : Nat) :
    k.advance = k ∧ k.seeks = false ∧ k.forward = true ∧ limitOf pitch k = none := by
  rcases h with rfl | rfl | rfl | rfl <;> exact ⟨rfl, rfl, rfl, rfl⟩

theorem MotionKind.toTop.not_backfeed {k : MotionKind} (h : k.toTop) (left : Nat) : k ≠ .backfeed left := by
  rcases h with rfl | rfl | rfl | rfl <;> simp

/-- A forward step of a motion with nothing to seek, no miss, no edge and no limit goes straight to its arrival. -/
theorem exec_motorStep_arrives {gap : Bool} {s u x : State} {m : Motion} {reg : Bool} (hu : s.settle = u)
    (hrun : u.mode = .running) (hm : u.media.motion = some m) (hcan : u.canStep = true)
    (hreg : reg = u.battery.settings.registered) (hs : m.kind.seeks = false) (hf : m.kind.forward = true)
    (hmiss : reg = false ∨ u.media.d + 1 ≤ u.media.high ∨ u.media.d + 1 < (u.battery.settings.pitch : Int) + 17)
    (hedge : reg = false ∨ gap = false ∨ u.lines.gap = true)
    (hgap : (if gap = true then min 161 (u.media.gapRun + 1) else 0) ≤ 160)
    (hlimit : limitOf u.battery.settings.pitch m.kind.advance = none)
    (hx : x = { u with
      now := max u.now m.due, lines := { u.lines with gap := gap }
      media := { u.media with
        motion := some { m with kind := m.kind.advance }
        gapRun := if gap = true then min 161 (u.media.gapRun + 1) else 0
        d := if reg = true then u.media.d + 1 else u.media.d
        high := if reg = true then max u.media.high (u.media.d + 1) else u.media.high } }) :
    exec (.motorStep gap) s = .next x.arrive := by
  have hxm : x.media.motion = some { m with kind := m.kind.advance } := by rw [hx]
  have hadvance : m.kind.advance.seeks = false := by cases hk : m.kind <;> simp_all [MotionKind.seeks, MotionKind.advance]
  have hnone : ∀ fresh fell, x.takeEdge false fresh (gap && !u.lines.gap) fell = x := by
    intro fresh fell
    rcases hedge with h | h
    · exact State.takeEdge_of_unregistered hxm hadvance (by rw [hx]; exact hreg.symm.trans h)
    · rw [no_edge_of h]
      exact State.takeEdge_of_run hxm hadvance
  refine exec_motorStep hu hrun hcan ?_
  rw [State.stepMotor_of_run hm hreg hs hf (.inr hmiss) hx, hnone,
    State.checkLimit_arrives hxm (by rw [hx]; exact hlimit) (by rw [hx]; exact hgap)]

/-- A calibration that ends with a pitch in range (R167). -/
theorem State.endCalibration_of_range {y c : State} {m : Motion} {pitch gap : Nat} {recovers : Bool} (hlow : 16 ≤ pitch)
    (hhigh : pitch ≤ 4100) (hm : y.media.motion = some m) (hc : c = { y with
      battery := Battery.checked { y.battery with settings := { y.battery.settings with pitch := pitch, gapLength := gap } }
      media := { y.media with
        d := 0, high := 0, count := 0, event := .calibrated
        causes := if recovers = true then { y.media.causes with mediaLost := false } else y.media.causes
        motion := some { m with kind := .calibrateRun } } }) :
    y.endCalibration pitch gap recovers = c.printableChanged := by
  rw [State.endCalibration, if_pos ⟨hlow, hhigh⟩, hc]
  simp only [State.setReference, State.setCount_zero, State.setEvent, State.setKind, hm, Option.map_some]

theorem limitOf_resyncSeek_of_lt {pitch fed : Nat} (h : fed < 2 * pitch) : limitOf pitch (.resyncSeek fed) = none :=
  if_neg (Nat.not_le.mpr h)

theorem limitOf_resyncSeek_of_le {pitch fed : Nat} (h : 2 * pitch ≤ fed) :
    limitOf pitch (.resyncSeek fed) = some .resyncNoEdge :=
  if_pos h

theorem limitOf_recoverySeek {pitch fed : Nat} (h : fed < 8 * pitch) : limitOf pitch (.recoverySeek fed) = none :=
  if_neg (Nat.not_le.mpr h)

theorem limitOf_recoveryJudge {pitch fed good : Nat} (h : fed < 8 * pitch) :
    limitOf pitch (.recoveryJudge fed good) = none :=
  if_neg (Nat.not_le.mpr h)

theorem limitOf_calibrateSeek {pitch fed : Nat} (h : fed < 8200) : limitOf pitch (.calibrateSeek fed) = none :=
  if_neg (Nat.not_le.mpr h)

theorem limitOf_calibrateGap {pitch fed since : Nat} (h : fed < 8200) : limitOf pitch (.calibrateGap fed since) = none :=
  if_neg (Nat.not_le.mpr h)

theorem limitOf_calibratePitch {pitch fed since length : Nat} (h : fed < 8200) :
    limitOf pitch (.calibratePitch fed since length) = none :=
  if_neg (Nat.not_le.mpr h)

/-- Settles O50. -/
theorem motorStepMovesTheTracker : Obligations.MotorStepMovesTheTracker := by
  unfold Obligations.MotorStepMovesTheTracker
  refine ⟨fun gap s u w m p hu hrun hm hp hw => ⟨fun hcan => ?_, fun hcan => ⟨fun k run hk hreg hr hgap =>
      ⟨fun hk0 => ?_, fun hk0 hl => ?_⟩, fun hk hreg hgap hlow htop => ?_, fun k hk => ?_, fun hj hreg hfresh hpast => ?_⟩⟩,
    fun gap s u w m p run reg atTop x hu hrun hm hcan hp hw hreg hr hgap hedge hmiss hx htop => ?_,
    fun gap s u w x m hu hrun hm hcan hk hw hx => ?_,
    fun gap edge fell s u w x m pitch run next hu hrun hm hcan hp hw hr hgap hx he hf hnext => ?_,
    fun y z t v ht hv hz => ?_,
    fun z t left hleft => ⟨fun hs => ?_, fun tag j settled final done hs hj hfinal hsettled hdone => ?_⟩⟩
  · exact exec_event_same (f := State.tryStep gap) rfl hu (if_neg (by simp [hcan]))
  · rw [exec_motorStep_arrives (reg := false) hu hrun hm hcan hreg.symm (by rw [hk]; rfl) (by rw [hk]; rfl) (.inl rfl)
      (.inl rfl) (hr ▸ hgap) (by rw [hk]; rfl) rfl]
    refine congrArg Host.Outcome.next (State.arrive_with_lines_left (m := { m with kind := .feedLines k }) ?_
      (fed := 0) (.inl rfl) hk0 ?_)
    · rw [hk]; rfl
    · rw [hw, hr]; rfl
  · rw [exec_motorStep_arrives (reg := false) hu hrun hm hcan hreg.symm (by rw [hk]; rfl) (by rw [hk]; rfl) (.inl rfl)
      (.inl rfl) (hr ▸ hgap) (by rw [hk]; rfl) rfl]
    rw [State.arrive_feedLines (m := { m with kind := .feedLines 0 }) (by rw [hk, hk0]; rfl) rfl]
    refine congrArg Host.Outcome.next (((State.endMotion_eq (m := { m with kind := .feedLines 0 }) rfl).1 hl).trans ?_)
    rw [hw, hr]
    rfl
  · obtain ⟨x, hx⟩ : ∃ x : State, x = { w with
        media := { u.media with
          motion := some m, gapRun := 0, d := u.media.d + 1, high := max u.media.high (u.media.d + 1) } } := ⟨_, rfl⟩
    have hxm : x.media.motion = some m := by rw [hx]
    rw [exec_motorStep_arrives (x := x) (reg := true) hu hrun hm hcan hreg.symm (by rw [hk]; rfl) (by rw [hk]; rfl)
      (.inr (.inr (hp ▸ hlow))) (.inr (.inl hgap)) (by simp [hgap]) (by rw [hk]; rfl)
      (by rw [hx, hw, hgap, MotionKind.advance_of_top (.inr (.inl hk))]; rfl)]
    refine congrArg Host.Outcome.next (State.arrive_before_top hxm (.inr (.inr (.inr hk))) ?_ (by rw [hx]))
    rw [← Bool.not_eq_true, State.atLabelTop_iff, hx, hw]
    exact hp ▸ htop
  · refine exec_motorStep hu hrun hcan ((State.stepMotor_of_backfeed hm hk rfl).trans ?_)
    refine State.arrive_with_lines_left (m := { m with kind := .backfeed (k + 1) }) (fed := 0) rfl (.inr (.inr rfl)) (by simp) ?_
    rw [hw]
  · rw [exec_motorStep hu hrun hcan (State.stepMotor_of_miss hm hj hreg hfresh (hp ▸ hpast)), hw]
  · have hstep : ∀ kind, m.kind.advance = kind → m.kind.seeks = false → m.kind.forward = true →
        limitOf u.battery.settings.pitch kind = none → exec (.motorStep gap) s = .next (x kind).arrive := by
      rintro kind rfl hs hf hl
      exact exec_motorStep_arrives hu hrun hm hcan hreg hs hf (hp ▸ hmiss) (.inr hedge) (hr ▸ hgap) hl
        (by rw [hx, hw, hr])
    have hxm : ∀ kind, (x kind).media.motion = some { m with kind := kind } := fun kind => by rw [hx]
    have hxtop : ∀ kind, reg = true → (x kind).atLabelTop = atTop := by
      intro kind h
      rw [Bool.eq_iff_iff, htop, State.atLabelTop_iff, hx, hw, hp]
      simp [h]
    have hnow : ∀ kind, (x kind).now = w.now := fun kind => by rw [hx]
    refine ⟨fun t v hk ht hv => ?_, fun left fed hk hl => ?_, fun hk hr1 => ?_, fun fed good hk hlim => ?_⟩
    · have hmk : (x .label).media.motion = some m := by rw [hxm, ← hk]
      have hgo := hstep .label (by rw [hk]; rfl) (by rw [hk]; rfl) (by rw [hk]; rfl) rfl
      have hline : (x .label).media.labelLine = u.media.labelLine := by rw [hx]
      have hprint : (x .label).printing = some t := by rw [← ht, hx, hw]; rfl
      have hvalues : (x .label).burn.values = some v := by rw [hx, hw]; exact hv
      refine ⟨fun n hn hlen => ?_, fun hn => ?_⟩
      · rw [hgo, State.arrive_at_line hmk hk hprint (hline.trans hn) hlen]
      · rw [hgo, State.arrive_in_tail hmk hk hprint hvalues (hline ▸ hn)]
        have hxr : (x .label).battery.settings.registered = reg := by rw [hx, hw]; exact hreg.symm
        refine ⟨fun hr1 ht1 => ?_, fun hdone => ?_⟩
        · rw [if_pos ⟨hxr.trans hr1, (hxtop _ hr1).trans ht1⟩, hnow, hx]
        · rw [if_neg]
          rintro ⟨h1, h2⟩
          rcases hdone with h | h
          · exact Bool.false_ne_true ((h.symm.trans hxr.symm).trans h1)
          · exact Bool.false_ne_true (h2.symm.trans ((hxtop _ (hxr.symm.trans h1)).trans h))
    · have hgo := hstep (.present left (fed + 1)) (by rw [hk]; rfl) (by rw [hk]; rfl) (by rw [hk]; rfl) rfl
      refine ⟨fun h0 => ?_, fun h0 => ?_⟩
      · rw [hgo, State.arrive_with_lines_left (hxm _) (.inr (.inl rfl)) h0 rfl, hnow, hx, hx]
      · subst h0
        rw [hgo, State.arrive_present (hxm _) rfl]
        refine congrArg Host.Outcome.next
          (((State.endMotion_eq (m := { m with kind := .present 0 (fed + 1) }) rfl).1 hl).trans ?_)
        rw [hx, hx]
    · have hk : m.kind.toTop := hk
      obtain ⟨hself, hseeks, hforward, hnone⟩ := hk.runs u.battery.settings.pitch
      have hgo := hstep m.kind hself hseeks hforward hnone
      have hmk : (x m.kind).media.motion = some m := hxm m.kind
      refine ⟨fun ht1 => ?_, fun ht1 hl => ?_, fun ht1 hl => ?_⟩
      · rw [hgo, State.arrive_before_top hmk hk ((hxtop _ hr1).trans ht1) rfl, hnow, hx]
      · rw [hgo, State.arrive_at_top hmk hk ((hxtop _ hr1).trans ht1)]
        exact congrArg Host.Outcome.next ((State.endMotion_eq rfl).1 hl)
      · rw [hgo, State.arrive_at_top hmk hk ((hxtop _ hr1).trans ht1)]
        exact congrArg Host.Outcome.next ((State.endMotion_eq rfl).2.2 hl hk.not_backfeed)
    · rw [hstep (.recoveryJudge (fed + 1) good) (by rw [hk]; rfl) (by rw [hk]; rfl) (by rw [hk]; rfl)
        (if_neg (Nat.not_le.mpr hlim)), State.arrive_seeking (hxm _) (.inr ⟨_, _, rfl⟩) rfl, hnow, hx, hx]
  · rw [exec_motorStep hu hrun hcan ((State.stepMotor_of_backfeed hm hk rfl).trans
      (State.arrive_backfeed (m := { m with kind := .backfeed 0 }) rfl rfl))]
    obtain ⟨y, hy⟩ : ∃ y : State, y = { w with
        media := { u.media with
          motion := some { m with kind := .backfeed 0 }
          out := none
          d := if u.battery.settings.registered = true then u.media.d - 1 else u.media.d
          high := if u.battery.settings.registered = true then max u.media.high (u.media.d - 1) else u.media.high } } :=
      ⟨_, rfl⟩
    have hxy : x = { y with media := { y.media with motion := none } } := by rw [hx, hy]
    refine congrArg Host.Outcome.next ?_
    rw [hw] at hy
    rw [← hy]
    cases hl : m.forLabel with
    | false => exact (State.endMotion_eq hxy).1 rfl
    | true => exact (State.endMotion_eq hxy).2.1 rfl ⟨0, rfl⟩
  · obtain ⟨y, hy⟩ : ∃ y : MotionKind → State, ∀ kind, y kind = { w with
      media := { u.media with motion := some { m with kind := kind }, gapRun := run } } := ⟨fun kind => _, fun _ => rfl⟩
    have hym : ∀ kind, (y kind).media.motion = some { m with kind := kind } := fun kind => by rw [hy]
    have hnow : ∀ kind, (y kind).now = w.now := fun kind => by rw [hy]
    have hpitch : ∀ kind, (y kind).battery.settings.pitch = pitch := fun kind => by rw [hy, hw, hp]
    have hseek : ∀ {kind : MotionKind} (next : MotionKind), m.kind = kind → kind.seeks = true → kind.advance = next →
        exec (.motorStep gap) s
          = .next ((y next).takeEdge false (decide (u.media.high < u.media.d)) edge fell).checkLimit := by
      rintro kind next rfl hs rfl
      rw [he, hf]
      exact exec_motorStep hu hrun hcan (State.stepMotor_of_seek hm hs (by rw [hy, hw, hr]))
    -- a step that leaves its feed seeking or judging, short of its limit, makes the next step due
    have hmore : ∀ {z : State} {kind : MotionKind}, z.media.motion = some { m with kind := kind } →
        limitOf z.battery.settings.pitch kind = none → z.media.gapRun = run → z.now = w.now →
        (kind.seeks = true ∨ ∃ fed n, kind = .recoveryJudge fed n) →
        z.checkLimit = { z with media := { z.media with motion := some (next kind) } } := by
      intro z kind hz hl hg hn hk
      rw [State.checkLimit_arrives hz hl (by rw [hg]; exact hgap), State.arrive_seeking hz hk rfl, hn, hnext]
    -- one whose edge ends the seeking runs on to the label top
    have htop : ∀ {z : State} {kind : MotionKind}, z.media.motion = some { m with kind := kind } → kind.toTop →
        z.media.gapRun = run → z.now = w.now → z.media.d = 0 →
        ((128 + z.battery.settings.gapLength) % z.battery.settings.pitch ≠ 0 →
          z.checkLimit = { z with media := { z.media with motion := some (next kind) } })
        ∧ ((128 + z.battery.settings.gapLength) % z.battery.settings.pitch = 0 → ∀ v : State,
          v = { z with media := { z.media with motion := none } } →
          z.checkLimit = if m.forLabel = true then v.settleStart else v.beginOrRest) := by
      intro z kind hz hk hg hn hd
      have hgo := State.checkLimit_arrives hz (hk.runs z.battery.settings.pitch).2.2.2 (by rw [hg]; exact hgap)
      refine ⟨fun h => ?_, fun h v hv => ?_⟩
      · have hbefore : z.atLabelTop = false := by rwa [← Bool.not_eq_true, State.atLabelTop_of_reference hd]
        rw [hgo, State.arrive_before_top hz hk hbefore rfl, hn, hnext]
      · rw [hgo, State.arrive_at_top hz hk ((State.atLabelTop_of_reference hd).mpr h),
          State.endMotion_forward hk.not_backfeed hv]
    refine ⟨fun fed hk => ?_, fun fed hk hlim => ?_, fun fed hk hlim => ?_, fun fed since hk hlim => ?_,
      fun fed since length hk => ?_⟩
    · rw [hseek (.resyncSeek (fed + 1)) hk rfl rfl, State.takeEdge_resyncSeek (hym _) rfl]
      refine ⟨fun h1 h2 => ?_, fun h1 h2 => ?_, fun h1 h2 => ?_, fun h1 h2 v hv => ?_⟩
      · rw [h1, if_neg (by simp), hmore (hym _) (limitOf_resyncSeek_of_lt (by rwa [hpitch])) (by rw [hy]) (hnow _)
          (.inl rfl), hy, hx]
      · rw [h1, if_neg (by simp), State.checkLimit_of_limit (hym _) (limitOf_resyncSeek_of_le (by rwa [hpitch])), hy, hx]
      · rw [if_pos h1]
        refine congrArg Host.Outcome.next (((htop (kind := .resyncRun) rfl (.inl rfl) ?_ ?_ rfl).1 ?_).trans ?_)
        · rw [hy]
        · rw [hy]
        · rw [hy, hw]
          exact hp ▸ h2
        · rw [hy, hx]
      · rw [if_pos h1]
        refine congrArg Host.Outcome.next ((htop (kind := .resyncRun) rfl (.inl rfl) ?_ ?_ rfl).2 ?_ v ?_)
        · rw [hy]
        · rw [hy]
        · rw [hy, hw]
          exact hp ▸ h2
        · rw [hv, hy, hx]
    · rw [hseek (.recoverySeek (fed + 1)) hk rfl rfl, State.takeEdge_recoverySeek (hym _) rfl]
      refine ⟨fun h1 => ?_, fun h1 => ?_⟩
      · rw [h1, if_neg (by simp), hmore (hym _) (limitOf_recoverySeek (by rwa [hpitch])) (by rw [hy]) (hnow _)
          (.inl rfl), hy, hx]
      · rw [if_pos h1]
        refine congrArg Host.Outcome.next ((hmore (kind := .recoveryJudge (fed + 1) 0) rfl ?_ ?_ ?_
          (.inr ⟨_, _, rfl⟩)).trans ?_)
        · exact limitOf_recoveryJudge (by rwa [hpitch])
        · rw [hy]
        · rw [hy]
        · rw [hy, hx]
    · rw [hseek (.calibrateSeek (fed + 1)) hk rfl rfl, State.takeEdge_calibrateSeek (hym _) rfl]
      refine congrArg Host.Outcome.next ((hmore
        (kind := if edge = true then .calibrateGap (fed + 1) 0 else .calibrateSeek (fed + 1)) rfl ?_ ?_ ?_ ?_).trans ?_)
      · cases edge <;> simp [limitOf_calibrateSeek hlim, limitOf_calibrateGap hlim]
      · rw [hy]
      · rw [hy]
      · cases edge <;> exact .inl rfl
      · rw [hy, hx]
    · rw [hseek (.calibrateGap (fed + 1) (since + 1)) hk rfl rfl, State.takeEdge_calibrateGap (hym _) rfl]
      refine congrArg Host.Outcome.next ((hmore (kind := if fell = true then .calibratePitch (fed + 1) (since + 1) (since + 1)
        else .calibrateGap (fed + 1) (since + 1)) rfl ?_ ?_ ?_ ?_).trans ?_)
      · cases fell <;> simp [limitOf_calibrateGap hlim, limitOf_calibratePitch hlim]
      · rw [hy]
      · rw [hy]
      · cases fell <;> exact .inl rfl
      · rw [hy, hx]
    · rw [hseek (.calibratePitch (fed + 1) (since + 1) length) hk rfl rfl, State.takeEdge_calibratePitch (hym _) rfl]
      obtain ⟨c, hc⟩ : ∃ c : State, c = { x with
          battery := Battery.checked
            { u.battery with settings := { u.battery.settings with pitch := since + 1, gapLength := length } }
          media := { x.media with
            d := 0, high := 0, count := 0, event := .calibrated
            causes := if m.forRecovery = true then { u.media.causes with mediaLost := false } else u.media.causes
            motion := some { m with kind := .calibrateRun } } } := ⟨_, rfl⟩
      have hframe := c.printableChanged_frame
      have hcalibrated : 16 ≤ since + 1 → since + 1 ≤ 4100 →
          State.endCalibration (since + 1) length m.forRecovery (y (.calibratePitch (fed + 1) (since + 1) length))
            = c.printableChanged := by
        intro h2 h3
        rw [State.endCalibration_of_range h2 h3 (hym _) rfl, hc, hy, hx, hw]
      have hcm : c.printableChanged.media.motion = some { m with kind := .calibrateRun } := by rw [hframe.media, hc]
      have hcg : c.printableChanged.media.gapRun = run := by rw [hframe.media, hc, hx]
      have hcn : c.printableChanged.now = w.now := by rw [State.printableChanged_now, hc, hx]
      have hcd : c.printableChanged.media.d = 0 := by rw [hframe.media, hc]
      have hcp : c.printableChanged.battery.settings.pitch = since + 1
          ∧ c.printableChanged.battery.settings.gapLength = length := by rw [hframe.battery, hc]; exact ⟨rfl, rfl⟩
      refine ⟨fun h1 hlim => ?_, fun h1 h2 h3 h4 => ?_, fun h1 h2 h3 h4 v z hv hz => ?_, fun h1 h2 => ?_⟩
      · rw [h1, if_neg (by simp), hmore (hym _) (limitOf_calibratePitch hlim) (by rw [hy]) (hnow _) (.inl rfl), hy, hx]
      · refine ⟨c.printableChanged, by rw [hc], ?_⟩
        rw [if_pos h1, hcalibrated h2 h3,
          (htop hcm (.inr (.inr (.inl rfl))) hcg hcn hcd).1 (by rw [hcp.1, hcp.2]; exact h4)]
      · rw [if_pos h1, hcalibrated h2 h3]
        rw [← hc] at hv
        exact congrArg Host.Outcome.next ((htop hcm (.inr (.inr (.inl rfl))) hcg hcn hcd).2
          (by rw [hcp.1, hcp.2]; exact h4) z (hv ▸ hz))
      · have hlost := (y (.calibratePitch (fed + 1) (since + 1) length)).loseMedia_lost
        have hfails : State.endCalibration (since + 1) length m.forRecovery (y (.calibratePitch (fed + 1) (since + 1) length))
            = (y (.calibratePitch (fed + 1) (since + 1) length)).loseMedia :=
          if_neg (by omega)
        refine ⟨_, ?_, hlost.engine, hlost.mediaLost, hlost.count, hlost.event, hlost.motion, ?_⟩
        · rw [if_pos h1, hfails, State.checkLimit_of_motionless hlost.motion,
            State.checkMediaOut_of_stopped hlost.motion (by rw [hlost.gapRun, hy]; exact hgap)]
        · rw [hlost.battery, hy, hw]
  · exact State.completeLabel_eq ht hv hz
  · rw [State.completeTicket, hs, hleft]
    rfl
  · rw [State.completeTicket_of_job hs hj (hleft ▸ hdone), State.completedFor, hsettled, hfinal, hleft]
    refine congrArg State.boundary ?_
    cases done with
    | false => simp only [Bool.false_eq_true, if_false, JobQueue.updateJob, Job.completed, lastOf, JobQueue.job_tag hj]
    | true =>
      simp only [if_true, State.endJob, JobQueue.updateJob, lastOf, JobQueue.job_tag hj]
      rw [map_update_update (f := Job.completed t.clipped (decide (t.key.copy = j.items.copies))) fun _ => rfl]
      rfl

end Sys2Proof.Machine
end


section
/-! SUPPORT. The counter requests: their operands, what they write, and the report that follows (section 4.6). -/

set_option Elab.async false

namespace Sys2Proof.Machine

/-! ### The operands (R85, Tables 4-1 and 11-13) -/

theorem idOf_eq_some (body : List Byte) (id : Nat) : idOf body = some id ↔ id = num body 0 1 ∧ 1 ≤ id ∧ id ≤ 64 := by
  simp only [idOf, counterIdOk, decide_eq_true_eq, Option.ite_none_right_eq_some, Option.some.injEq]
  constructor
  · rintro ⟨h, rfl⟩
    exact ⟨rfl, h⟩
  · rintro ⟨rfl, h⟩
    exact ⟨h, rfl⟩

/-- A coded value 0 or 1 names one of two values. -/
theorem coded_iff {α : Type} {n : Nat} {a b v : α} (hab : a ≠ b) :
    (n ≤ 1 ∧ v = if n = 0 then a else b) ↔ (n = 0 ∧ v = a) ∨ (n = 1 ∧ v = b) := by
  rcases n with _ | _ | n
  · simp
  · simp
  · simp

theorem CounterDef.valid_iff (d : CounterDef) : d.valid = true ↔
    (1 ≤ d.width ∧ d.width ≤ 12) ∧ d.high < (if d.alphabet = .decimal then 10 else 36) ^ d.width ∧ d.low ≤ d.high
      ∧ (d.low ≤ d.start ∧ d.start ≤ d.high) ∧ 1 ≤ d.step ∧ d.step ≤ 9999 := by
  have hbase : alphabetBase d.alphabet = if d.alphabet = .decimal then 10 else 36 := by cases d.alphabet <;> rfl
  simp [CounterDef.valid, hbase, and_assoc]

theorem counterDefOf_eq_some (body : List Byte) (d : CounterDef) : counterDefOf body = some d ↔
    (d.width = num body 1 1 ∧ 1 ≤ d.width ∧ d.width ≤ 12)
    ∧ ((num body 2 1 = 0 ∧ d.alphabet = .decimal) ∨ (num body 2 1 = 1 ∧ d.alphabet = .base36))
    ∧ (d.low = num body 3 8 ∧ d.high = num body 11 8 ∧ d.low ≤ d.high
      ∧ d.high < (if d.alphabet = .decimal then 10 else 36) ^ d.width)
    ∧ (d.start = num body 19 8 ∧ d.low ≤ d.start ∧ d.start ≤ d.high)
    ∧ (d.step = num body 27 2 ∧ 1 ≤ d.step ∧ d.step ≤ 9999)
    ∧ ((num body 29 1 = 0 ∧ d.direction = .up) ∨ (num body 29 1 = 1 ∧ d.direction = .down))
    ∧ ((num body 30 1 = 0 ∧ d.endAction = .wrap) ∨ (num body 30 1 = 1 ∧ d.endAction = .halt))
    ∧ ((num body 31 1 = 0 ∧ d.policy = .gap) ∨ (num body 31 1 = 1 ∧ d.policy = .reuse)) := by
  have ha := coded_iff (n := num body 2 1) (v := d.alphabet) (a := .decimal) (b := .base36) (by simp)
  have hd := coded_iff (n := num body 29 1) (v := d.direction) (a := .up) (b := .down) (by simp)
  have he := coded_iff (n := num body 30 1) (v := d.endAction) (a := .wrap) (b := .halt) (by simp)
  have hp := coded_iff (n := num body 31 1) (v := d.policy) (a := .gap) (b := .reuse) (by simp)
  rw [← ha, ← hd, ← he, ← hp, counterDefOf]
  simp only [Option.ite_none_right_eq_some, Option.some.injEq, Bool.and_eq_true, decide_eq_true_eq]
  constructor
  · rintro ⟨⟨⟨h1, h2, h3, h4⟩, hvalid⟩, rfl⟩
    obtain ⟨hw, hh, hl, hs, hstep⟩ := (CounterDef.valid_iff _).mp hvalid
    exact ⟨⟨rfl, hw⟩, ⟨h1, rfl⟩, ⟨rfl, rfl, hl, hh⟩, ⟨rfl, hs⟩, ⟨rfl, hstep⟩, ⟨h2, rfl⟩, ⟨h3, rfl⟩, h4, rfl⟩
  · rintro ⟨⟨ew, hw⟩, ⟨h1, ea⟩, ⟨el, eh, hl, hh⟩, ⟨es, hs⟩, ⟨et, hstep⟩, ⟨h2, ed⟩, ⟨h3, ee⟩, h4, ep⟩
    have hd : d = ⟨num body 1 1, if num body 2 1 = 0 then .decimal else .base36, num body 3 8, num body 11 8,
        num body 19 8, num body 27 2, if num body 29 1 = 0 then .up else .down, if num body 30 1 = 0 then .wrap else .halt,
        if num body 31 1 = 0 then .gap else .reuse⟩ := by
      rw [← ew, ← ea, ← el, ← eh, ← es, ← et, ← ed, ← ee, ← ep]
    rw [← hd]
    exact ⟨⟨⟨h1, h2, h3, h4⟩, d.valid_iff.mpr ⟨hw, hh, hl, hs, hstep⟩⟩, rfl⟩

/-! ### The record written and the report (R84 to R86) -/

@[simp] theorem Battery.withCounters_counters (cs : List Counter) (b : Battery) : (b.withCounters cs).counters = cs := by
  unfold Battery.withCounters
  split
  · next h => exact h.symm
  · rfl

theorem Battery.counter_setCounter {b : Battery} {id : Nat} (c : Counter) (hlow : 1 ≤ id) (hid : id ≤ b.counters.length) :
    (b.withCounters (setCounter id c b.counters)).counter id = c := by
  rw [Battery.counter, Battery.withCounters_counters, setCounter, List.getD_eq_getElem?_getD,
    List.getElem?_set_self (by omega)]
  rfl

theorem State.reportAble_of_not_blocked {s : State} {ids : List Nat} (h : s.queue.jobs.any (Job.blockedOn ids) = false) :
    s.reportAble ids = s := if_neg (by simp [h])

/-- A counter that could issue before, or on which no job is held, brings no report. -/
theorem State.reportIfAble_of_same {s : State} {id : Nat} {before : Counter}
    (h : before.canIssue = true ∨ s.queue.jobs.any (Job.blockedOn [id]) = false) : s.reportIfAble id before = s := by
  unfold State.reportIfAble
  split
  · rcases h with h | h
    · simp_all
    · exact State.reportAble_of_not_blocked h
  · rfl

theorem State.reportIfAble_of_able {s : State} {id : Nat} {before : Counter} (hb : before.canIssue = false)
    (ha : (s.battery.counter id).canIssue = true) : s.reportIfAble id before = s.reportAble [id] := by
  rw [State.reportIfAble, hb, ha]
  rfl

/-- A counter request that writes one record, makes its report and answers. -/
theorem exec_putCounter {cmd : Instr} {code id : Nat} {run : List Byte → State → State} {s u : State} {body : List Byte}
    {payload : List Byte} {c after : Counter} {b : Battery} (h : requestRun cmd = some (code, run))
    (hup : isUploadRequest (byte code) = false) (hu : s.settle = u) (ha : u.asks code body)
    (hr : run body (u.headGone code) = State.ok payload (((u.headGone code).putCounter id after).reportIfAble id c))
    (hb : b = u.battery.withCounters (setCounter id after u.battery.counters)) (hlow : 1 ≤ id) (hable : after.canIssue = true) :
    (c.canIssue = true ∨ u.queue.jobs.any (Job.blockedOn [id]) = false →
      exec cmd s = .next (u.answered code (okReply code payload) { u with battery := b }))
    ∧ (c.canIssue = false → id ≤ u.battery.counters.length →
      exec cmd s = .next
        (u.answered code (okReply code payload) (State.reportAble [id] { u.headGone code with battery := b }))) := by
  have hput : (u.headGone code).putCounter id after = { u.headGone code with battery := b } := by rw [hb]; rfl
  rw [hput] at hr
  refine ⟨fun hsame => ?_, fun hc hid => ?_⟩
  · rw [State.reportIfAble_of_same (by exact hsame)] at hr
    exact exec_answered { u.headGone code with battery := b } h hup hu ha hr
  · rw [State.reportIfAble_of_able hc (by rw [hb]; exact (congrArg _ (Battery.counter_setCounter _ hlow hid)).trans hable)] at hr
    exact exec_answered _ h hup hu ha hr (by simp) (by simp) (by simp) (by simp)

/-- Settles O32. -/
theorem counterRequestsRefusedOrTaken : Obligations.CounterRequestsRefusedOrTaken := by
  unfold Obligations.CounterRequestsRefusedOrTaken
  refine ⟨⟨fun s u body hu ha => ⟨fun hnone => ?_, fun id d c b hid hd hc hb => ⟨fun huse => ?_, fun hfree hdef => ?_⟩⟩,
    fun s u body hu ha => ⟨fun hnone => ?_, fun id value c b hid hv hc hb => ⟨fun hstate => ?_, fun hstate =>
      ⟨fun huse => ?_, fun hfree => ⟨fun hrange => ?_, fun hlow hhigh => ?_⟩⟩⟩⟩⟩,
    fun s u body hu => ⟨fun ha => ⟨fun hnone => ?_, fun id c hid hc => ⟨fun hstate => ?_, fun hstate huse => ?_,
        fun hstate hbound hfree => ?_⟩⟩,
      fun ha => ⟨fun hnone => ?_, fun id c hid hc => ⟨fun hstate => ?_, fun hstate => ?_⟩⟩,
      fun ha => ⟨fun hnone => ?_, fun id hid => ?_⟩⟩,
    fun body id d => ⟨idOf_eq_some body id, counterDefOf_eq_some body d⟩⟩
  · refine exec_refused rfl rfl hu ha ?_
    rcases hnone with h | h
    · simp [State.runCounterDefine, h]
    · cases hid : idOf body <;> simp [State.runCounterDefine, hid, h]
  · refine exec_refused rfl rfl hu ha ?_
    rw [State.runCounterDefine, hid, hd]
    subst hc
    by_cases hout : (u.battery.counter id).outstanding = []
    · simp [hout, huse.resolve_left (not_not_intro hout)]
    · simp [hout]
  · have hlow := ((idOf_eq_some body id).mp hid).2.1
    refine exec_putCounter rfl rfl hu ha ?_ (hc ▸ hb) hlow rfl
    rw [State.runCounterDefine, hid, hd]
    subst hc
    have hinUse : ¬ (0 < (u.battery.counter id).bound
        ∧ (d.width ≠ (u.battery.counter id).defn.width ∨ d.alphabet ≠ (u.battery.counter id).defn.alphabet)) := by
      rcases hdef with h | ⟨h1, h2⟩
      · simp [h]
      · simp [h1, h2]
    exact (if_neg (not_not_intro hfree)).trans (if_neg hinUse)
  · exact exec_refused rfl rfl hu ha (by simp [State.runCounterSet, hnone])
  · exact exec_refused rfl rfl hu ha (by simp [State.runCounterSet, hid, ← hc, hstate])
  · exact exec_refused rfl rfl hu ha (by simp [State.runCounterSet, hid, ← hc, hstate, huse])
  · exact exec_refused rfl rfl hu ha (by simp [State.runCounterSet, hid, ← hc, hstate, hfree, ← hv, hrange])
  · have hpos := ((idOf_eq_some body id).mp hid).2.1
    refine exec_putCounter rfl rfl hu ha ?_ hb hpos rfl
    rw [State.runCounterSet, hid]
    simp only [State.headGone_battery, ← hc, ← hv]
    rw [if_neg hstate, if_neg (not_not_intro hfree), if_neg (by omega)]
  · exact exec_refused rfl rfl hu ha (by simp [State.runCounterUndefine, hnone])
  · exact exec_refused rfl rfl hu ha (by simp [State.runCounterUndefine, hid, ← hc, hstate])
  · exact exec_refused rfl rfl hu ha (by simp [State.runCounterUndefine, hid, ← hc, hstate, huse])
  · refine exec_answered ((u.headGone 0x12).putCounter id Counter.undefinedRecord) rfl rfl hu ha ?_
    simp [State.runCounterUndefine, hid, ← hc, hstate, hbound, hfree]
  · exact exec_refused rfl rfl hu ha (by simp [State.runCounterClearReturns, hnone])
  · exact exec_refused rfl rfl hu ha (by simp [State.runCounterClearReturns, hid, ← hc, hstate])
  · refine exec_answered ((u.headGone 0x13).putCounter id { c with returns := [] }) rfl rfl hu ha ?_
    simp [State.runCounterClearReturns, hid, ← hc, hstate]
  · exact exec_refused rfl rfl hu ha (by simp [State.runCounterRead, hnone])
  · exact exec_answered (u.headGone 0x14) rfl rfl hu ha (by simp [State.runCounterRead, hid])

end Sys2Proof.Machine
end


section
/-! SUPPORT. The items of a JOB_SUBMIT, and the job refused or its format read (section 5.2). -/

set_option Elab.async false

namespace Sys2Proof.Machine

/-! ### The slot list (Table 11-8) -/

/-- A slot as it stands in the body: its number, its length and its characters. -/
def Slot.bytes (x : Slot) : List Byte := byte x.number :: byte x.text.length :: x.text

/-- A slot whose number and length a byte holds. -/
def Slot.Fits (x : Slot) : Prop := x.number < 256 ∧ x.text.length < 256

theorem parseSlots_bytes {slots : List Slot} (h : ∀ x ∈ slots, x.Fits) (rest : List Byte) :
    parseSlots slots.length (slots.flatMap Slot.bytes ++ rest) = some (slots, rest) := by
  induction slots with
  | nil => rfl
  | cons x xs ih =>
    obtain ⟨hnumber, hlen⟩ := h x List.mem_cons_self
    have htail := ih fun y hy => h y (List.mem_cons_of_mem _ hy)
    have hnum : (byte x.number).toNat = x.number := byte_toNat hnumber
    have hlength : (byte x.text.length).toNat = x.text.length := byte_toNat hlen
    simp [Slot.bytes, parseSlots, hnum, hlength, htail]

theorem parseSlots_eq_some {n : Nat} {bs rest : List Byte} {slots : List Slot} (h : parseSlots n bs = some (slots, rest)) :
    n = slots.length ∧ bs = slots.flatMap Slot.bytes ++ rest ∧ ∀ x ∈ slots, x.Fits := by
  induction n generalizing bs slots with
  | zero =>
    obtain ⟨rfl, rfl⟩ : slots = [] ∧ rest = bs := by simpa [parseSlots, eq_comm] using h
    simp
  | succ n ih =>
    match bs, h with
    | number :: len :: tail, h =>
      rw [parseSlots] at h
      split at h
      · cases h
      · next hlen =>
        split at h
        · next slots' left hparse =>
          obtain ⟨rfl, rfl⟩ : { number := number.toNat, text := tail.take len.toNat } :: slots' = slots ∧ left = rest := by
            simpa using h
          obtain ⟨hn, hbytes, hfits⟩ := ih hparse
          have hlenText : (tail.take len.toNat).length = len.toNat := by simp; omega
          refine ⟨by simp [hn], ?_, List.forall_mem_cons.mpr ⟨⟨number.isLt, by rw [hlenText]; exact len.isLt⟩, hfits⟩⟩
          have hsplit : tail = tail.take len.toNat ++ tail.drop len.toNat := (List.take_append_drop _ _).symm
          simp only [List.flatMap_cons, Slot.bytes, hlenText, List.cons_append, List.append_assoc, ← hbytes]
          rw [← hsplit]
          simp [byte]
        · cases h

/-! ### The items (R94, R96) -/

theorem jobItemsOf_unlisted {body : List Byte} (h : ∀ slots, parseSlots (num body 14 1) (body.drop 15) ≠ some (slots, [])) :
    jobItemsOf body = .error .badLength := by
  unfold jobItemsOf
  split
  · next slots hparse => exact absurd hparse (h slots)
  · rfl

theorem itemsOk_iff (body : List Byte) (i : JobItems) : itemsOk body i = true ↔
    1 ≤ i.tag ∧ (1 ≤ i.format ∧ i.format ≤ 999) ∧ (1 ≤ i.quantity ∧ i.quantity ≤ 9999)
    ∧ (1 ≤ i.copies ∧ i.copies ≤ 9) ∧ num body 7 1 ≤ 1 ∧ num body 8 1 ≤ 1
    ∧ (-10 ≤ i.darkness ∧ i.darkness ≤ 10) ∧ (-64 ≤ i.shiftX ∧ i.shiftX ≤ 64)
    ∧ (-64 ≤ i.shiftY ∧ i.shiftY ≤ 64) ∧ i.slots.length ≤ 32
    ∧ (∀ x ∈ i.slots, 1 ≤ x.number ∧ x.number ≤ 32) ∧ (i.slots.map Slot.number).Nodup := by
  simp only [itemsOk, numberOk, Bool.and_eq_true, decide_eq_true_eq, List.all_eq_true, and_assoc]

theorem jobItemsOf_listed {body : List Byte} {slots : List Slot} {items : JobItems}
    (h : parseSlots (num body 14 1) (body.drop 15) = some (slots, []))
    (hitems : items = { tag := num body 0 2, format := num body 2 2, quantity := num body 4 2, copies := num body 6 1
                        priority := if num body 7 1 = 0 then .normal else .rush
                        noInterrupt := decide (num body 8 1 = 1)
                        darkness := (body.getD 9 0).toInt
                        speed := if num body 10 2 = 0 then 0 else (min 250 (max 50 (num body 10 2))) / 25 * 25
                        shiftX := (body.getD 12 0).toInt
                        shiftY := (body.getD 13 0).toInt
                        slots := slots }) :
    jobItemsOf body = if ∀ x ∈ slots, x.text.length ≤ 64 then
        (if itemsOk body items = true then .ok items else .error .badValue)
      else .error .badLength := by
  rw [jobItemsOf, h, hitems]
  dsimp only
  by_cases hlong : ∀ x ∈ slots, x.text.length ≤ 64
  · rw [if_pos hlong, if_pos (by simpa using hlong)]
    rfl
  · rw [if_neg hlong, if_neg (by simpa using hlong)]

/-! ### The request (R96, R97) -/

theorem JobQueue.job_eq_none_iff (q : JobQueue) (tag : Nat) : q.job tag = none ↔ ∀ j ∈ q.jobs, j.items.tag ≠ tag := by
  simp [JobQueue.job]

/-- A JOB_SUBMIT with room for its job and a tag of its own comes to its format. -/
theorem runJobSubmit_accepted {x : State} {body : List Byte} {items : JobItems} (hitems : jobItemsOf body = .ok items)
    (hroom : x.queue.jobs.length < 32) (hfresh : ∀ j ∈ x.queue.jobs, j.items.tag ≠ items.tag) :
    x.runJobSubmit body = match x.store.live .format items.format with
      | none => x.refuse .unresolved 0
      | some e =>
        match bodyPages e.firstSector 0 e.bodyLen with
        | p :: rest => x.decoderIssue (.read p) (.submitFormat items rest)
        | [] => x.submitFields items (x.liveFormat items).fields 0 := by
  have hjob : ¬ (x.queue.job items.tag).isSome = true := by
    rw [(x.queue.job_eq_none_iff items.tag).mpr hfresh]
    simp
  rw [State.runJobSubmit, hitems]
  exact (if_neg (Nat.not_le.mpr hroom)).trans (if_neg hjob)

/-- Settles O35. -/
theorem jobSubmitRefusedOrRead : Obligations.JobSubmitRefusedOrRead := by
  unfold Obligations.JobSubmitRefusedOrRead
  refine ⟨fun s u body hu ha => ⟨fun r hr => ?_, fun items hitems => ⟨fun hfull => ?_, fun hroom =>
      ⟨fun hsame => ?_, fun hfresh => ⟨fun hnone => ?_, fun e p rest he hpages => ?_, fun e he hpages => ?_⟩⟩⟩⟩,
    fun body listed hlisted => ⟨fun hno => ?_, fun slots items ok hslots hitems hok => ?_⟩⟩
  · exact exec_refused rfl rfl hu ha (by simp [State.runJobSubmit, hr])
  · refine exec_refused rfl rfl hu ha ?_
    rw [State.runJobSubmit, hitems]
    exact if_pos hfull
  · refine exec_refused rfl rfl hu ha ?_
    have hjob : (u.queue.job items.tag).isSome = true := by
      rw [Option.isSome_iff_ne_none, Ne, JobQueue.job_eq_none_iff]
      exact fun h => let ⟨j, hj, ht⟩ := hsame; h j hj ht
    rw [State.runJobSubmit, hitems]
    exact (if_neg (Nat.not_le.mpr hroom)).trans (if_pos hjob)
  · refine exec_refused rfl rfl hu ha ?_
    rw [runJobSubmit_accepted (x := u.headGone 0x22) hitems hroom hfresh, State.headGone_store, hnone]
  · refine exec_taken (u.headGone 0x22) rfl rfl hu ha ?_
    rw [runJobSubmit_accepted (x := u.headGone 0x22) hitems hroom hfresh, State.headGone_store, he]
    dsimp only
    rw [hpages]
  · rw [exec_request_headGone (run := State.runJobSubmit) rfl rfl hu ha, runJobSubmit_accepted (x := u.headGone 0x22) hitems hroom hfresh,
      State.headGone_store, he]
    dsimp only
    rw [hpages]
    rfl
  · refine jobItemsOf_unlisted fun slots h => hno slots ?_
    obtain ⟨hcount, hbytes, hfits⟩ := parseSlots_eq_some h
    exact (hlisted slots).mpr ⟨hcount, by rwa [List.append_nil] at hbytes, hfits⟩
  · obtain ⟨hcount, hbytes, hfits⟩ := (hlisted slots).mp hslots
    have hparse : parseSlots (num body 14 1) (body.drop 15) = some (slots, []) := by
      rw [hcount, hbytes]
      exact List.append_nil (slots.flatMap Slot.bytes) ▸ parseSlots_bytes hfits []
    have hitemsOk : ok ↔ itemsOk body items = true := by
      rw [hok, itemsOk_iff, show items.slots = slots by rw [hitems]]
    rw [jobItemsOf_listed hparse hitems]
    refine ⟨fun ⟨x, hx, hlong⟩ => if_neg fun h => absurd (h x hx) (Nat.not_le.mpr hlong), fun hshort => ?_⟩
    rw [if_pos hshort]
    exact ⟨fun h => if_pos (hitemsOk.mp h), fun h => if_neg fun h' => h (hitemsOk.mpr h')⟩

end Sys2Proof.Machine
end


section
/-! SUPPORT. JOB_HOLD, JOB_RELEASE, REPRINT and REPRINT_CLEAR (sections 5.3 and 5.10). -/

set_option Elab.async false

namespace Sys2Proof.Machine

/-- Settles O37. -/
theorem jobHeldReleasedAndReprinted : Obligations.JobHeldReleasedAndReprinted := by
  unfold Obligations.JobHeldReleasedAndReprinted
  refine ⟨fun s u body tag hu htag => ⟨fun ha => ⟨fun hnone => ?_, fun j hj => ?_⟩,
      fun ha => ⟨fun hnone => ?_, fun j reply hj hreply => ⟨fun hfree => ?_, fun hheld => ?_⟩⟩⟩,
    fun s u body hu ha => ⟨fun hnone => ?_, fun hlast hbusy => ?_, fun hlast hpending hticket => ?_⟩,
    fun s u body hu ha => ⟨fun hticket => ?_, fun hticket hnone => ?_, fun l hticket hlast => ?_⟩⟩
  · exact exec_refused rfl rfl hu ha (by simp [State.runJobHold, ← htag, hnone])
  · refine exec_answered { u.headGone 0x20 with queue := u.queue.updateJob tag fun k => { k with holdOperator := true } }
      rfl rfl hu ha ?_
    simp [State.runJobHold, ← htag, hj, holdPayload]
  · exact exec_refused rfl rfl hu ha (by simp [State.runJobRelease, ← htag, hnone])
  · rw [hreply]
    refine exec_answered { u.headGone 0x21 with queue := u.queue.updateJob tag fun k => { k with holdOperator := false } }
      rfl rfl hu ha ?_
    simp [State.runJobRelease, ← htag, hj, holdPayload, hfree]
  · rw [hreply]
    refine exec_answered _ rfl rfl hu ha ?_ (by simp) (by simp) (by simp) (by simp)
    simp [State.runJobRelease, ← htag, hj, holdPayload, hheld]
  · exact exec_refused (run := fun _ => State.runReprint) rfl rfl hu ha (if_pos hnone)
  · exact exec_refused (run := fun _ => State.runReprint) rfl rfl hu ha ((if_neg hlast).trans (if_pos (by simpa using hbusy)))
  · refine exec_answered (run := fun _ => State.runReprint) _ rfl rfl hu ha ?_ (by simp) (by simp) (by simp) (by simp)
    exact (if_neg hlast).trans (if_neg (by simp [hpending, hticket]))
  · exact exec_refused (run := fun _ => State.runReprintClear) rfl rfl hu ha (if_pos hticket)
  · refine exec_answered (run := fun _ => State.runReprintClear)
      { u.headGone 0x27 with queue := { u.queue with reprint := false } } rfl rfl hu ha ?_
    simp [State.runReprintClear, hticket, State.clearLast, hnone]
  · refine exec_answered (run := fun _ => State.runReprintClear) { u.headGone 0x27 with
      store := u.store.release l.entries
      queue := { u.queue with reprint := false, last := none } } rfl rfl hu ha ?_
    simp [State.runReprintClear, hticket, State.clearLast, hlast]

end Sys2Proof.Machine
end


section
/-! SUPPORT. What a return keeps, drops and reports (sections 4.2 and 4.5). -/

set_option Elab.async false

namespace Sys2Proof.Machine

theorem Outstanding.ofGroups_iff (groups : List (Nat × Nat)) (o : Outstanding) :
    o.ofGroups groups = true ↔ (o.tag, o.label) ∈ groups := by
  simp [Outstanding.ofGroups]

/-! ### The entries given back, one after another (R76, R84) -/

/-- Entries of other groups have no part in a return. -/
theorem giveBack_filter (policy : VoidPolicy) (groups : List (Nat × Nat)) (os : List Outstanding) (returns : List Nat) :
    giveBack policy groups os returns = giveBack policy groups (os.filter fun o => o.ofGroups groups) returns := by
  induction os generalizing returns with
  | nil => rfl
  | cons o os ih =>
    cases ho : o.ofGroups groups with
    | true =>
      rw [List.filter_cons_of_pos ho, giveBack, giveBack, if_pos ho]
      cases keepReturn policy returns o.value with
      | none => rw [ih, if_pos ho]
      | some kept =>
        rw [if_pos ho]
        exact ih kept
    | false => rw [List.filter_cons_of_neg (by simp [ho]), giveBack, if_neg (by simp [ho]), ih]

theorem giveBack_gap {groups : List (Nat × Nat)} {back : List Outstanding} (h : ∀ o ∈ back, o.ofGroups groups = true)
    (returns : List Nat) : giveBack .gap groups back returns = (returns, back.map fun o => (o.tag, o.label)) := by
  induction back with
  | nil => rfl
  | cons o os ih =>
    obtain ⟨ho, hos⟩ := List.forall_mem_cons.mp h
    simp [giveBack, ho, keepReturn, ih hos]

/-- A value joined to the list under REUSE. -/
theorem giveBack_kept {groups : List (Nat × Nat)} {o : Outstanding} {os : List Outstanding} {returns : List Nat}
    (ho : o.ofGroups groups = true) (h : o.value ∉ returns ∧ returns.length < 8) :
    giveBack .reuse groups (o :: os) returns = giveBack .reuse groups os (returns ++ [o.value]) := by
  have hkeep : keepReturn .reuse returns o.value = some (returns ++ [o.value]) := by simp [keepReturn, h]
  rw [giveBack, if_pos ho, hkeep]

/-- A value dropped under REUSE. -/
theorem giveBack_dropped {groups : List (Nat × Nat)} {o : Outstanding} {os : List Outstanding} {returns : List Nat}
    (ho : o.ofGroups groups = true) (h : ¬ (o.value ∉ returns ∧ returns.length < 8)) :
    giveBack .reuse groups (o :: os) returns
      = ((giveBack .reuse groups os returns).1, (o.tag, o.label) :: (giveBack .reuse groups os returns).2) := by
  have hkeep : keepReturn .reuse returns o.value = none := by
    simp only [keepReturn, ite_eq_right_iff]
    intro hboth
    exact absurd (by simpa using hboth) h
  rw [giveBack, if_pos ho, hkeep]

theorem giveBack_reuse_fold {groups : List (Nat × Nat)} {back : List Outstanding}
    (h : ∀ o ∈ back, o.ofGroups groups = true) (returns : List Nat) (before : List (Nat × Nat)) :
    ((giveBack .reuse groups back returns).1, before ++ (giveBack .reuse groups back returns).2)
      = back.foldl (fun (list, dropped) o =>
          if o.value ∉ list ∧ list.length < 8 then (list ++ [o.value], dropped)
          else (list, dropped ++ [(o.tag, o.label)])) (returns, before) := by
  induction back generalizing returns before with
  | nil => simp [giveBack]
  | cons o os ih =>
    obtain ⟨ho, hos⟩ := List.forall_mem_cons.mp h
    by_cases hk : o.value ∉ returns ∧ returns.length < 8
    · rw [giveBack_kept ho hk, ih hos]
      simp only [List.foldl_cons, if_pos hk]
    · rw [giveBack_dropped ho hk]
      simp only [List.foldl_cons, if_neg hk, ← ih hos, List.append_assoc, List.singleton_append]

/-- Under REUSE a return joins values of its entries, each absent before, in their order. -/
theorem giveBack_reuse_joined {groups : List (Nat × Nat)} {back : List Outstanding}
    (h : ∀ o ∈ back, o.ofGroups groups = true) (returns : List Nat) : ∃ joined : List Nat,
    (giveBack .reuse groups back returns).1 = returns ++ joined
    ∧ joined.Sublist (back.map Outstanding.value)
    ∧ (giveBack .reuse groups back returns).1.length ≤ max 8 returns.length
    ∧ (∀ o ∈ back, o.value ∈ (giveBack .reuse groups back returns).1 ∨ 8 ≤ (giveBack .reuse groups back returns).1.length)
    ∧ joined.length + (giveBack .reuse groups back returns).2.length = back.length
    ∧ joined.Nodup ∧ ∀ v ∈ joined, v ∉ returns := by
  induction back generalizing returns with
  | nil => exact ⟨[], by simp [giveBack]⟩
  | cons o os ih =>
    obtain ⟨ho, hos⟩ := List.forall_mem_cons.mp h
    by_cases hk : o.value ∉ returns ∧ returns.length < 8
    · obtain ⟨joined, heq, hsub, hlen, hstay, hcount, hnodup, hnew⟩ := ih hos (returns ++ [o.value])
      rw [giveBack_kept ho hk]
      refine ⟨o.value :: joined, by rw [heq, List.append_assoc]; rfl, hsub.cons_cons _, ?_, ?_, ?_, ?_, ?_⟩
      · simp only [List.length_append, List.length_singleton] at hlen
        omega
      · exact List.forall_mem_cons.mpr ⟨.inl (by rw [heq]; simp), hstay⟩
      · simp only [List.length_cons]
        omega
      · exact List.nodup_cons.mpr ⟨fun hmem => hnew _ hmem (by simp), hnodup⟩
      · exact List.forall_mem_cons.mpr ⟨hk.1, fun v hv hmem => hnew v hv (List.mem_append_left _ hmem)⟩
    · obtain ⟨joined, heq, hsub, hlen, hstay, hcount, hnodup, hnew⟩ := ih hos returns
      rw [giveBack_dropped ho hk]
      refine ⟨joined, heq, hsub.cons _, hlen, List.forall_mem_cons.mpr ⟨?_, hstay⟩, ?_, hnodup, hnew⟩
      · by_cases hmem : o.value ∈ returns
        · exact .inl (by rw [heq]; exact List.mem_append_left _ hmem)
        · have hfull : 8 ≤ returns.length := Nat.le_of_not_lt fun hroom => hk ⟨hmem, hroom⟩
          exact .inr (by rw [heq, List.length_append]; omega)
      · simp only [List.length_cons]
        omega

/-! ### The counters that have become able to issue (R84) -/

theorem mem_ableIds_map (f : Counter → Counter) (cs : List Counter) (id : Nat) : id ∈ ableIds cs (cs.map f) ↔
    1 ≤ id ∧ ∃ c, cs[id - 1]? = some c ∧ c.canIssue = false ∧ (f c).canIssue = true := by
  have hzip : ∀ (i : Nat) (p : Counter × Counter), (p, i) ∈ (cs.zip (cs.map f)).zipIdx ↔ ∃ c, cs[i]? = some c ∧ p = (c, f c) := by
    intro i p
    rw [List.mk_mem_zipIdx_iff_getElem?, List.getElem?_zip_eq_some]
    cases hc : cs[i]? with
    | none => simp [hc]
    | some c => simp [hc, Prod.ext_iff, eq_comm]
  simp only [ableIds, List.mem_map, List.mem_filter, Bool.and_eq_true, Bool.not_eq_true']
  constructor
  · rintro ⟨⟨p, i⟩, ⟨hmem, hb, ha⟩, rfl⟩
    obtain ⟨c, hc, rfl⟩ := (hzip i p).mp hmem
    exact ⟨by simp, c, hc, hb, ha⟩
  · rintro ⟨hid, c, hc, hb, ha⟩
    exact ⟨((c, f c), id - 1), ⟨(hzip _ _).mpr ⟨c, hc, rfl⟩, hb, ha⟩, Nat.sub_add_cancel hid⟩

/-- Settles O34. -/
theorem returnsKeepOrDropEachValue : Obligations.ReturnsKeepOrDropEachValue := by
  unfold Obligations.ReturnsKeepOrDropEachValue
  refine ⟨fun c groups back hback => ?_, fun tag label cs => ?_, fun groups cs =>
    ⟨fun o => o.ofGroups_iff groups, rfl, rfl, fun id => mem_ableIds_map _ cs id⟩⟩
  · have hall : ∀ o ∈ back, o.ofGroups groups = true := fun o ho => (List.mem_filter.mp (hback ▸ ho)).2
    have hgive : ∀ policy, c.defn.policy = policy →
        (c.returned groups).returns = (giveBack policy groups back c.returns).1
        ∧ c.droppedBy groups = (giveBack policy groups back c.returns).2 := by
      rintro policy rfl
      rw [hback, ← giveBack_filter]
      exact ⟨rfl, rfl⟩
    refine ⟨rfl, rfl, rfl, rfl, rfl, fun hp => ?_, fun hp => ?_, fun hp => ?_⟩
    · rw [(hgive _ hp).1, (hgive _ hp).2, giveBack_gap hall]
      exact ⟨rfl, rfl⟩
    · rw [(hgive _ hp).1, (hgive _ hp).2]
      exact giveBack_reuse_joined hall c.returns
    · rw [(hgive _ hp).1, (hgive _ hp).2]
      exact giveBack_reuse_fold hall c.returns []
  · refine List.map_congr_left fun c _ => ?_
    have hgroup : ∀ o : Outstanding, o.ofGroups [(tag, label)] = decide (o.tag = tag ∧ o.label = label) := by
      intro o
      rw [Bool.eq_iff_iff, Outstanding.ofGroups_iff]
      simp
    simp only [hgroup]

end Sys2Proof.Machine
end


section
/-! SUPPORT. READY and the notices placed whole (sections 9.4, 9.6, 10.5). -/

set_option Elab.async false

namespace Sys2Proof.Machine

/-- A frame placed in the output queue (R184). -/
theorem State.place_eq {frame : List Byte} (h : frame ≠ []) (s : State) : s.place frame = { s with
    line := { s.line with
      output := s.line.output ++ frame
      sending := if s.line.sending = none ∧ s.lines.rts = true then some s.now else s.line.sending } } := by
  rw [State.place, State.beginSending_eq]
  simp [h]

theorem readyNotice_ne_nil (s : State) (damaged duplicates : Nat) : readyNotice s damaged duplicates ≠ [] := by
  unfold readyNotice
  split
  · exact frameBytes_ne_nil _ _
  · exact fun h => frameBytes_ne_nil _ _ (List.append_eq_nil_iff.mp h).1

theorem State.mayNotify_iff (s : State) : s.mayNotify = true ↔ s.mode = .running ∧ s.line.restart = none := by
  simp [State.mayNotify, State.isRunning]

/-- Settles O40. -/
theorem readyAndNoticesArePlaced : Obligations.ReadyAndNoticesArePlaced := by
  unfold Obligations.ReadyAndNoticesArePlaced
  refine ⟨⟨fun s damaged duplicates hmode => ?_, fun s damaged duplicates => ⟨fun h => if_pos h, fun h => if_neg (by omega)⟩⟩,
    fun s tag rest j left hending hj hleft => ⟨fun hrun hrestart hroom => ?_, fun hno => ?_⟩,
    fun s n hn => ⟨fun hrun hrestart hending hroom => ?_, fun hno => ?_⟩⟩
  · refine congrArg Host.Outcome.next ?_
    rw [State.placeReady, hmode]
    exact State.place_eq (readyNotice_ne_nil _ _ _) _
  · refine congrArg Host.Outcome.next ?_
    rw [State.placeJobEnd, hending]
    dsimp only
    rw [hj]
    refine (if_pos ⟨s.mayNotify_iff.mpr ⟨hrun, hrestart⟩, hroom⟩).trans ?_
    rw [State.place_eq (frame := jobEndFrame j) (frameBytes_ne_nil _ _), hleft, State.departJob]
    simp only [hending, List.tail_cons]
    rfl
  · refine congrArg Host.Outcome.next ?_
    rw [State.placeJobEnd, hending]
    dsimp only
    rw [hj]
    refine if_neg ?_
    rw [State.mayNotify_iff]
    rintro ⟨⟨hrun, hrestart⟩, hroom⟩
    rcases hno with h | h | h
    · exact h hrun
    · exact h hrestart
    · omega
  · refine congrArg Host.Outcome.next ?_
    rw [State.placeEngine_of_room hn hrun hrestart hending hroom, State.place_eq (frame := engineFrame n) (frameBytes_ne_nil _ _)]
  · refine congrArg Host.Outcome.next ?_
    rw [State.placeEngine, hn]
    refine if_neg ?_
    rw [State.mayNotify_iff]
    rintro ⟨⟨hrun, hrestart⟩, hending, hroom⟩
    rcases hno with h | h | h | h
    · exact h hrun
    · exact h hrestart
    · exact h hending
    · omega

end Sys2Proof.Machine
end


section
/-! SUPPORT. A geometry request waits for a band drawing only (section 6.4, log entry 51). -/

set_option Elab.async false

namespace Sys2Proof.Machine

/-- A geometry request that waits in a running part waits for a band in hand. -/
def State.GeometryWaits (s : State) : Prop :=
  ∀ items field page left, s.dec.work = .awaitTable items field page left → s.mode = .running → s.render.hand ≠ none

theorem State.GeometryWaits.of_same {s t : State} (h : s.GeometryWaits) (hrender : t.render = s.render) (hmode : t.mode = s.mode)
    (hwork : t.dec.work = s.dec.work ∨ t.dec.work = .none) : t.GeometryWaits := by
  intro items field page left hw hrun
  rw [hrender]
  rcases hwork with hwork | hwork
  · exact h items field page left (hwork ▸ hw) (hmode ▸ hrun)
  · rw [hwork] at hw
    cases hw

theorem State.place_render (frame : List Byte) (s : State) : (s.place frame).render = s.render := by
  simp [State.place, State.beginSending_eq]

theorem State.GeometryWaits.placeJobEnd {s : State} (h : s.GeometryWaits) : s.placeJobEnd.GeometryWaits := by
  refine h.of_same ?_ (by simp) (.inl (by simp))
  unfold State.placeJobEnd
  repeat' split
  · rw [State.departJob_render, State.place_render]
  all_goals rfl

theorem State.GeometryWaits.placeJobEnds {s : State} (h : s.GeometryWaits) (n : Nat) : (placeJobEnds n s).GeometryWaits := by
  induction n generalizing s with
  | zero => exact h
  | succ n ih => exact ih h.placeJobEnd

theorem State.GeometryWaits.placeEngine {s : State} (h : s.GeometryWaits) : s.placeEngine.GeometryWaits := by
  refine h.of_same ?_ (by simp) (.inl (by simp))
  obtain heq | ⟨n, -, heq⟩ := s.placeEngine_cases
  · rw [heq]
  · rw [heq]
    exact State.place_render _ _

theorem State.takeHead_work (item : InItem) (s : State) : (s.takeHead item).dec.work = s.dec.work := by
  cases item <;> simp only [State.takeHead] <;> split <;> simp

theorem State.wakeDecoder_work (s : State) : s.wakeDecoder.dec.work = s.dec.work := by
  unfold State.wakeDecoder
  split <;> rfl

theorem State.reply_work (kind : Byte) (body : List Byte) (s : State) : (s.reply kind body).dec.work = .none := by
  rw [State.reply, State.wakeDecoder_work]
  split <;> simp

theorem State.reply_render (kind : Byte) (body : List Byte) (s : State) : (s.reply kind body).render = s.render := by
  have hwake : ∀ t : State, t.wakeDecoder.render = t.render := by
    intro t
    unfold State.wakeDecoder
    split <;> rfl
  unfold State.reply
  dsimp only
  rw [hwake]
  split
  · exact State.place_render _ _
  · exact State.place_render _ _

theorem State.GeometryWaits.grantHead {s : State} (h : s.GeometryWaits) : s.grantHead.GeometryWaits := by
  unfold State.grantHead State.answerMark
  split
  · exact h.of_same (by simp) (by simp) (.inl (State.takeHead_work _ _))
  · split
    · exact h.of_same (by rw [State.reply_render]; simp) (by simp) (.inr (State.reply_work _ _ _))
    · exact h
  · exact h

theorem State.GeometryWaits.grantRoom {s : State} (h : s.GeometryWaits) : s.grantRoom.GeometryWaits := by
  have hheads : ∀ n {t : State}, t.GeometryWaits → (grantHeads n t).GeometryWaits := by
    intro n
    induction n with
    | zero => exact fun ht => ht
    | succ n ih => exact fun ht => ih ht.grantHead
  exact hheads _ (h.placeJobEnds _).placeEngine

/-- The geometry request is the last of what falls due. -/
theorem State.takeGeometry_geometryWaits (s : State) : s.takeGeometry.GeometryWaits := by
  intro items field page left hw hrun
  obtain heq | ⟨items', field', page', left', -, -, -, heq⟩ := s.takeGeometry_cases
  · rw [heq] at hw hrun ⊢
    intro hnone
    rw [State.takeGeometry, hw] at heq
    dsimp only at heq
    rw [if_pos (by simp [State.isRunning, hrun, hnone])] at heq
    have hwork : (s.readTable items field page left).dec.work = .submitTable items field left := rfl
    rw [heq, hw] at hwork
    cases hwork
  · rw [heq] at hw
    cases hw

theorem State.settle_geometryWaits (s : State) : s.settle.GeometryWaits := by
  unfold State.settle dueEvents
  simp only [List.foldl_cons, List.foldl_nil]
  exact (State.takeGeometry_geometryWaits _).grantRoom

end Sys2Proof.Machine
end


section
/-! SUPPORT. The checks of a submitted job's fields and its binding (sections 4.3, 5.2 and 6.4). -/

set_option Elab.async false

namespace Sys2Proof.Machine

/-! ### Widths assumed (R98, R99) -/

theorem foldl_max_zero_isGreatest {l : List Nat} (h : l ≠ []) : l.foldl max 0 ∈ l ∧ ∀ b ∈ l, b ≤ l.foldl max 0 := by
  cases l with
  | nil => exact absurd rfl h
  | cons v vs =>
    rw [List.foldl_cons, Nat.zero_max]
    exact List.max?_eq_some_iff.mp List.max?_cons'

/-- The widest of some entries is one of them, and none is wider. -/
theorem widest_isGreatest (model m ratio : Nat) {es : List TableEntry} {e : TableEntry} (he : e ∈ es) :
    patternWidth model m ratio e.elements ≤ widest model m ratio es
      ∧ ∃ x ∈ es, widest model m ratio es = patternWidth model m ratio x.elements := by
  have hne : (es.map fun e => patternWidth model m ratio e.elements) ≠ [] := by
    simpa using List.ne_nil_of_mem he
  obtain ⟨hmem, hle⟩ := foldl_max_zero_isGreatest hne
  obtain ⟨x, hx, hwidth⟩ := List.mem_map.mp hmem
  exact ⟨hle _ (List.mem_map_of_mem he), x, hx, hwidth.symm⟩

theorem mem_alphabetChars (c : Nat) (a : Alphabet) :
    c ∈ alphabetChars a ↔ (48 ≤ c ∧ c ≤ 57) ∨ (a = .base36 ∧ 65 ≤ c ∧ c ≤ 90) := by
  have hdigit : ∀ d, digitChar d = if d < 10 then 48 + d else 55 + d := fun _ => rfl
  simp only [alphabetChars, List.mem_map, List.mem_range, hdigit]
  constructor
  · rintro ⟨d, hd, rfl⟩
    cases a <;> simp only [alphabetBase] at hd <;> split <;> simp <;> omega
  · rintro (h | ⟨rfl, h⟩)
    · refine ⟨c - 48, ?_, ?_⟩
      · cases a <;> simp only [alphabetBase] <;> omega
      · rw [if_pos (by omega)]; omega
    · refine ⟨c - 55, ?_, ?_⟩
      · simp only [alphabetBase]; omega
      · rw [if_neg (by omega)]; omega

theorem SymbolTable.assumedWidth_known {t : SymbolTable} {c : Nat} {e : TableEntry} (h : t.byCode c = some e) (m ratio : Nat) :
    t.assumedWidth m ratio (.known c) = patternWidth t.model m ratio e.elements := by
  rw [SymbolTable.assumedWidth, h]

theorem SymbolTable.assumedWidth_any {t : SymbolTable} {c : Nat} {a : Alphabet} {e : TableEntry} (hc : c ∈ alphabetChars a)
    (h : t.byCode c = some e) (m ratio : Nat) :
    patternWidth t.model m ratio e.elements ≤ t.assumedWidth m ratio (.any a)
      ∧ ∃ k x, k ∈ alphabetChars a ∧ t.byCode k = some x
        ∧ t.assumedWidth m ratio (.any a) = patternWidth t.model m ratio x.elements := by
  obtain ⟨hle, x, hx, hwidth⟩ := widest_isGreatest t.model m ratio (List.mem_filterMap.mpr ⟨c, hc, h⟩)
  obtain ⟨k, hk, hkx⟩ := List.mem_filterMap.mp hx
  exact ⟨hle, k, x, hk, hkx, hwidth⟩

/-! ### The data of a source and its checks (R98) -/

theorem SymbolTable.dataOk_iff (t : SymbolTable) (data : List CanProduce) : t.dataOk data = true ↔
    (∀ c, .known c ∈ data → t.byCode c ≠ none) ∧ (∀ a c, .any a ∈ data → c ∈ alphabetChars a → t.byCode c ≠ none)
      ∧ t.minLen ≤ data.length ∧ data.length ≤ t.maxLen := by
  simp only [SymbolTable.dataOk, Bool.and_eq_true, List.all_eq_true, decide_eq_true_eq]
  constructor
  · rintro ⟨hall, hlen⟩
    refine ⟨fun c hc => ?_, fun a c ha hc => ?_, hlen⟩
    · exact Option.isSome_iff_ne_none.mp (hall _ hc)
    · exact Option.isSome_iff_ne_none.mp (List.all_eq_true.mp (hall _ ha) c hc)
  · rintro ⟨hknown, hany, hlen⟩
    refine ⟨fun x hx => ?_, hlen⟩
    cases x with
    | known c => exact Option.isSome_iff_ne_none.mpr (hknown c hx)
    | any a => exact List.all_eq_true.mpr fun c hc => Option.isSome_iff_ne_none.mpr (hany a c hx hc)

theorem fitsLabel_iff (f : Format) (x y : Int) (size : Nat × Nat) :
    fitsLabel f x y size = true ↔ 0 ≤ x ∧ 0 ≤ y ∧ x + size.1 ≤ f.width ∧ y + size.2 ≤ f.length := by
  simp [fitsLabel]

/-- The checks of a BARCODE field, BAD_DATA before NO_FIT (R98, R99). -/
theorem barcodeRefusal_cases {b : Battery} {items : JobItems} {format : Format} {t : SymbolTable} {f : Field}
    {n m barHeight ratio reduction quiet most : Nat} {readable : Bool} {src : List SourcePart} {data : List CanProduce}
    {size : Nat × Nat} {fits : Prop} (hk : f.kind = .barcode n m barHeight ratio reduction quiet readable most src)
    (hdata : data = canProduce b items.slots src) (hsize : size = t.footprint m ratio quiet barHeight readable data)
    (hfits : fits ↔ ¬ (most ≠ 0 ∧ most < size.1)
      ∧ fitsLabel format (f.originX + items.shiftX) (f.originY + items.shiftY) (turned f.rotation size) = true) :
    (t.dataOk data = false → barcodeRefusal b items format t f = some .badData)
    ∧ (t.dataOk data = true → ¬ fits → barcodeRefusal b items format t f = some .noFit)
    ∧ (t.dataOk data = true → fits → barcodeRefusal b items format t f = none) := by
  have hrefusal : barcodeRefusal b items format t f = if (!t.dataOk data) = true then some .badData else
      if most ≠ 0 ∧ most < size.1 then some .noFit
      else if fitsLabel format (f.originX + items.shiftX) (f.originY + items.shiftY) (turned f.rotation size) then none
      else some .noFit := by
    rw [barcodeRefusal, hk, hdata, hsize, hdata]
  rw [hrefusal, hfits]
  refine ⟨fun h => if_pos (by simp [h]), fun h hno => ?_, fun h ⟨hwide, hplace⟩ => ?_⟩
  · rw [if_neg (by simp [h])]
    by_cases hwide : most ≠ 0 ∧ most < size.1
    · exact if_pos hwide
    · rw [if_neg hwide]
      exact if_neg fun hplace => hno ⟨hwide, hplace⟩
  · rw [if_neg (by simp [h]), if_neg hwide, if_pos hplace]

/-! ### Insertion (R95) -/

theorem splitRush_snd {jobs : List Job} {k : Job} (h : k ∈ (splitRush jobs).2) : k.items.priority ≠ .rush := by
  have hmem : k ∈ jobs.reverse.takeWhile fun j => !j.rush := by simpa [splitRush] using h
  simpa [Job.rush] using List.mem_takeWhile_imp hmem

theorem splitRush_getLast {jobs : List Job} {k : Job} (h : (splitRush jobs).1.getLast? = some k) :
    k.items.priority = .rush := by
  rw [splitRush, List.getLast?_reverse] at h
  have hdrop := List.head?_dropWhile_not (fun j : Job => !j.rush) jobs.reverse
  rw [h] at hdrop
  simpa [Job.rush] using hdrop

/-! ### Bindings (R13) -/

theorem nodup_eraseDups {α : Type} [DecidableEq α] (l : List α) : l.eraseDups.Nodup := by
  induction hn : l.length using Nat.strong_induction_on generalizing l with
  | _ n ih =>
    cases l with
    | nil => simp
    | cons a as =>
      rw [List.eraseDups_cons, List.nodup_cons]
      refine ⟨by simp, ih _ ?_ _ rfl⟩
      exact Nat.lt_of_le_of_lt (List.length_filter_le _ _) (by simp [← hn])

theorem RecordStore.pin_nil (st : RecordStore) : st.pin [] = st := by
  simp [RecordStore.pin]

/-- The distinct entries that names bind, in the order of the names. -/
def RecordStore.boundRefs (st : RecordStore) (names : List (RecKind × Nat)) : List RecRef :=
  (names.filterMap fun n => (st.live n.1 n.2).map DirEntry.ref).eraseDups

theorem RecordStore.bind_of_live {st : RecordStore} {names : List (RecKind × Nat)}
    (h : ∀ n ∈ names, st.live n.1 n.2 ≠ none) :
    st.bind names = .ok (st.boundRefs names, st.pin (st.boundRefs names)) := by
  have hfind : (names.find? fun n => (st.live n.1 n.2).isNone) = none := by simpa using h
  rw [RecordStore.bind, hfind]
  rfl

theorem RecordStore.bind_of_missing {st : RecordStore} {names : List (RecKind × Nat)} {name : RecKind × Nat}
    (h : ∀ n ∈ names, st.live n.1 n.2 ≠ none) (hname : st.live name.1 name.2 = none) (more : List (RecKind × Nat)) :
    st.bind (names ++ name :: more) = .error name := by
  have hfind : ((names ++ name :: more).find? fun n => (st.live n.1 n.2).isNone) = some name := by
    rw [List.find?_append, List.find?_eq_none.mpr (by simpa using h)]
    simp [hname]
  rw [RecordStore.bind, hfind]

theorem RecordStore.live_of_bind {st after : RecordStore} {names : List (RecKind × Nat)} {refs : List RecRef}
    (h : st.bind names = .ok (refs, after)) : ∀ n ∈ names, st.live n.1 n.2 ≠ none := by
  unfold RecordStore.bind at h
  split at h
  · cases h
  · next hfind => simpa using hfind

theorem RecordStore.mem_boundRefs (st : RecordStore) (names : List (RecKind × Nat)) (r : RecRef) :
    r ∈ st.boundRefs names ↔ ∃ n ∈ names, ∃ x, st.live n.1 n.2 = some x ∧ x.ref = r := by
  simp [RecordStore.boundRefs]

theorem RecordStore.boundRefs_concat {st : RecordStore} {names : List (RecKind × Nat)} {name : RecKind × Nat} {e : DirEntry}
    (he : st.live name.1 name.2 = some e) : st.boundRefs (names ++ [name])
      = if e.ref ∈ st.boundRefs names then st.boundRefs names else st.boundRefs names ++ [e.ref] := by
  have hconcat : ∀ l : List RecRef, (l ++ [e.ref]).eraseDups
      = if e.ref ∈ l.eraseDups then l.eraseDups else l.eraseDups ++ [e.ref] := by
    intro l
    rw [List.eraseDups_append, List.removeAll]
    by_cases h : e.ref ∈ l <;> simp [h, List.eraseDups_cons]
  rw [RecordStore.boundRefs, List.filterMap_append, List.filterMap_cons, he]
  exact hconcat _

end Sys2Proof.Machine
end


section
/-! SUPPORT. A submitted job checked field by field, bound and placed (sections 4.3 and 5.2). -/

set_option Elab.async false

namespace Sys2Proof.Machine

theorem State.refuse_submit {u : State} (hk : u.dec.kind = byte 0x22) (r : Reason) (detail : Nat) :
    u.refuse r detail = u.replied 0x22 (refusedReply 0x22 r detail) u :=
  State.refuse_eq_answered u u 0x22 r detail rfl hk rfl rfl rfl

/-! ### A BARCODE field (R97 to R99) -/

section barcode
variable {u : State} {items : JobItems} {f : Field} {fs : List Field} {i n a b c d q w : Nat} {r : Bool}
  {src : List SourcePart} {e : DirEntry} (hf : f.kind = .barcode n a b c d q r w src)
include hf

theorem State.fieldRefusal_of_barcode (he : u.store.live .table n = some e) : u.fieldRefusal items f
    = barcodeRefusal u.battery items (u.liveFormat items) (parseTable (u.entryBody e)) f := by
  rw [State.fieldRefusal, hf]
  dsimp only
  rw [State.liveTable, he]

theorem State.submitFields_of_unresolved (hno : u.store.live .table n = none ∨ u.countersDefined src = false) :
    u.submitFields items (f :: fs) i = u.refuse .unresolved f.id := by
  rw [State.submitFields, hf]
  dsimp only
  rcases hno with h | h
  · rw [if_pos (by simp [h])]
  · split
    · rfl
    · rw [if_pos (by simp [h])]

/-- A BARCODE field whose table and counters stand comes to the pages of its table. -/
theorem State.submitFields_of_resolved (he : u.store.live .table n = some e) (hd : u.countersDefined src = true) :
    (∀ p rest, bodyPages e.firstSector 0 e.bodyLen = p :: rest →
      u.submitFields items (f :: fs) i = u.askGeometry items i p rest)
    ∧ (bodyPages e.firstSector 0 e.bodyLen = [] →
      (∀ reason, u.fieldRefusal items f = some reason → u.submitFields items (f :: fs) i = u.refuse reason f.id)
      ∧ (u.fieldRefusal items f = none → u.submitFields items (f :: fs) i = u.submitFields items fs (i + 1))) := by
  have hpages : u.tablePages n = bodyPages e.firstSector 0 e.bodyLen := by rw [State.tablePages, he]
  refine ⟨fun p rest hp => ?_, fun hp => ⟨fun reason hr => ?_, fun hr => ?_⟩⟩
  all_goals
    rw [State.submitFields, hf]
    dsimp only
    rw [if_neg (by simp [he]), if_neg (by simp [hd]), hpages, hp]
  · rw [hr]
  · rw [hr]

end barcode

/-- The last page of a table read: its field's checks (R97, R140). -/
theorem State.submitTableEnd_nil {u : State} {items : JobItems} {i : Nat} {f : Field} {fs : List Field}
    (hdrop : (u.liveFormat items).fields.drop i = f :: fs) :
    (∀ reason, u.fieldRefusal items f = some reason →
      u.submitTableEnd items i [] = State.renderNext ((u.await .none).refuse reason f.id))
    ∧ (u.fieldRefusal items f = none →
      u.submitTableEnd items i [] = State.renderNext ((u.await .none).submitFields items fs (i + 1))) := by
  have hdrop' : ((u.await .none).liveFormat items).fields.drop i = f :: fs := hdrop
  refine ⟨fun reason hr => ?_, fun hr => ?_⟩
  all_goals
    have hr' : (u.await .none).fieldRefusal items f = u.fieldRefusal items f := rfl
    rw [State.submitTableEnd]
    refine congrArg State.renderNext ?_
    rw [State.geometryDone, hdrop']
    dsimp only
    rw [hr', hr]

/-- Settles O36. -/
theorem submittedJobIsCheckedAndBound : Obligations.SubmittedJobIsCheckedAndBound := by
  unfold Obligations.SubmittedJobIsCheckedAndBound
  refine ⟨⟨fun u items format refs store q hk hformat hbind hcount hq => ?_, fun j jobs => ⟨fun hp => ?_, fun hp => ?_⟩⟩,
    fun u items f fs i hk => ⟨rfl, fun n k hf => ⟨fun hl => ?_, fun hl => ?_⟩,
      fun a b c d src hf => ⟨fun hd => ?_, fun hd => ?_⟩,
      fun n a b c d q r w src hf => ⟨fun hno => ?_, fun e p rest he hd hpages => ⟨fun hhand => ?_, fun hhand => ?_,
        fun format hformat hdrop => ⟨fun reason hr => ?_, fun hr => ?_⟩⟩⟩,
      fun n a b c d q r w src e format hf he hd hpages hformat => ⟨fun reason hr => ?_, fun hr => ?_⟩, fun hf => ?_⟩,
    fun b items format t f n m barHeight ratio reduction quiet most w h readable src data widths size ok fits hk hdata hwidths
      hw hh hsize hok hfits => ?_,
    fun u items field page left hwork => ⟨fun hrun hhand => ?_, fun hno => ?_, fun s hs hrun => ?_⟩,
    fun st names name => ⟨?_, fun hlive hname more => RecordStore.bind_of_missing hlive hname more,
      fun refs after e hbind => ⟨?_, ?_, fun r => ?_, fun he hmem => ?_, fun he hmem => ?_⟩⟩,
    fun t m ratio c a e => ⟨mem_alphabetChars c a, fun h => SymbolTable.assumedWidth_known h m ratio,
      fun hc h => SymbolTable.assumedWidth_any hc h m ratio, fun he => widest_isGreatest _ _ _ he⟩⟩
  · rw [State.bindJob, ← hformat, hbind]
    dsimp only
    rw [hcount]
    dsimp only
    rw [hq]
    exact State.ok_eq_answered u _ 0x22 _ (by simp) (by simpa using hk) (by simp) (by simp) rfl
  · rw [insertJob, if_neg (by simp [Job.rush, hp])]
  · refine ⟨(splitRush jobs).1, (splitRush jobs).2, (splitRush_append jobs).symm, ?_, fun k hk => splitRush_snd hk,
      fun k hk => splitRush_getLast hk⟩
    rw [insertJob, if_pos (by simp [Job.rush, hp])]
  · rw [State.submitFields, hf, ← State.refuse_submit hk]
    exact if_pos (by simp [hl])
  · rw [State.submitFields, hf]
    exact if_neg (by simpa using hl)
  · rw [State.submitFields, hf, ← State.refuse_submit hk]
    exact if_neg (by simp [hd])
  · rw [State.submitFields, hf]
    exact if_pos hd
  · rw [State.submitFields_of_unresolved hf hno, State.refuse_submit hk]
  · rw [(State.submitFields_of_resolved hf he hd).1 p rest hpages, State.askGeometry, if_neg (by simp [hhand])]
    rfl
  · rw [(State.submitFields_of_resolved hf he hd).1 p rest hpages, State.askGeometry,
      if_pos (Option.isSome_iff_ne_none.mpr hhand)]
    rfl
  · rw [(State.submitTableEnd_nil (hformat ▸ hdrop)).1 reason (by rw [State.fieldRefusal_of_barcode hf he, ← hformat, hr]),
      State.refuse_submit (by exact hk)]
    rfl
  · rw [(State.submitTableEnd_nil (hformat ▸ hdrop)).2 (by rw [State.fieldRefusal_of_barcode hf he, ← hformat, hr])]
    rfl
  · rw [((State.submitFields_of_resolved hf he hd).2 hpages).1 reason
      (by rw [State.fieldRefusal_of_barcode hf he, ← hformat, hr]), State.refuse_submit hk]
  · rw [((State.submitFields_of_resolved hf he hd).2 hpages).2
      (by rw [State.fieldRefusal_of_barcode hf he, ← hformat, hr])]
  · rw [State.submitFields]
    rcases hf with ⟨w, h, t, hf⟩ | ⟨length, t, hf⟩ <;> rw [hf]
  · have hcan : data = canProduce b items.slots src := by
      rw [hdata]
      refine congrArg (fun g => (src.flatMap g).take 64) (funext fun p => ?_)
      cases p with
      | fixed text => rfl
      | slot k => rfl
      | counter id =>
        simp only [counterShape]
        cases b.counters[id - 1]? <;> rfl
    have hfoot : t.footprint m ratio quiet barHeight readable data = (w, h) := by
      rw [hw, hh, hwidths]
      rfl
    have hturned : turned f.rotation (w, h) = size := by rw [hsize]; rfl
    obtain ⟨hbad, hnofit, hpass⟩ := barcodeRefusal_cases (b := b) (format := format) (t := t) (fits := fits) hk hcan
      hfoot.symm (by rw [hfits, fitsLabel_iff, hturned, not_and_or, not_not, not_lt])
    rw [hok, ← t.dataOk_iff data]
    exact ⟨fun h => hbad (by simpa using h), hnofit, hpass⟩
  · rw [State.takeGeometry, hwork]
    exact if_pos (by simp [State.isRunning, hrun, hhand])
  · rw [State.takeGeometry, hwork]
    refine if_neg ?_
    rintro ⟨hrun, hhand⟩
    rcases hno with h | h
    · exact h (by simpa [State.isRunning] using hrun)
    · exact h (by simpa using hhand)
  · exact hs ▸ s.settle_geometryWaits items field page left (hs ▸ hwork) (hs ▸ hrun)
  · rw [RecordStore.bind_of_live (by simp)]
    exact congrArg (fun x => Except.ok ([], x)) st.pin_nil
  all_goals
    have hlive := RecordStore.live_of_bind hbind
    rw [RecordStore.bind_of_live hlive, Except.ok.injEq, Prod.mk.injEq] at hbind
    obtain ⟨rfl, rfl⟩ := hbind
  · rfl
  · exact nodup_eraseDups _
  · exact st.mem_boundRefs names r
  all_goals
    have hall : ∀ n ∈ names ++ [name], st.live n.1 n.2 ≠ none := by
      intro n hn
      rcases List.mem_append.mp hn with h | h
      · exact hlive n h
      · rw [List.mem_singleton.mp h, he]
        simp
    rw [RecordStore.bind_of_live hall, RecordStore.boundRefs_concat he]
  · rw [if_pos hmem]
  · rw [if_neg hmem]

end Sys2Proof.Machine
end


section
/-! SUPPORT. A job cancelled: its tickets, its buffers, its groups and its counters (sections 4.5, 5.8 and 6.2). -/

set_option Elab.async false

namespace Sys2Proof.Machine

/-! ### Buffers freed (R121, R125) -/

theorem Buffer.ofTickets_iff (keys : List TicketKey) (b : Buffer) :
    b.ofTickets keys = true ↔ ∃ key ∈ keys, b.ticket = some key := by
  unfold Buffer.ofTickets
  split <;> simp [*]

theorem State.freeTickets_eq (keys : List TicketKey) (s : State) : s.freeTickets keys = { s with
    array := (s.freeTickets keys).array, render := (s.freeTickets keys).render } := by
  unfold State.freeTickets State.abandonDrawing
  repeat' split
  all_goals rfl

theorem State.freeTickets_buffers (keys : List TicketKey) (s : State) : (s.freeTickets keys).render.buffers
    = s.render.buffers.map fun (b : Buffer) => if (∃ key ∈ keys, b.ticket = some key) then Buffer.empty else b := by
  have hmap : (s.freeTickets keys).render.buffers
      = s.render.buffers.map fun b => if b.ofTickets keys then Buffer.empty else b := by
    unfold State.freeTickets State.abandonDrawing
    repeat' split
    all_goals rfl
  rw [hmap]
  exact List.map_congr_left fun b _ => if_congr (b.ofTickets_iff keys) rfl rfl

theorem State.freeTickets_hand (keys : List TicketKey) (s : State) :
    (∀ h, s.render.hand = some h → h.ticket ∈ keys →
      (s.freeTickets keys).render.hand = none ∧ (s.freeTickets keys).array = s.array.orphanRenderer)
    ∧ ((∀ h, s.render.hand = some h → h.ticket ∉ keys) →
      (s.freeTickets keys).render.hand = s.render.hand ∧ (s.freeTickets keys).array = s.array) := by
  unfold State.freeTickets State.abandonDrawing
  cases hh : s.render.hand with
  | none => simp [hh]
  | some h =>
    by_cases hmem : h.ticket ∈ keys <;> simp [hmem, hh]

/-! ### The groups of a job (R112) -/

theorem mem_unsettled (tag l : Nat) (cs : List Counter) :
    l ∈ unsettled tag cs ↔ ∃ c ∈ cs, ∃ o ∈ c.outstanding, o.tag = tag ∧ o.label = l := by
  simp only [unsettled, List.mem_eraseDups, List.mem_filterMap, List.mem_flatMap, Option.ite_none_right_eq_some,
    Option.some.injEq]
  constructor
  · rintro ⟨o, ⟨c, hc, ho⟩, h⟩
    exact ⟨c, hc, o, ho, h⟩
  · rintro ⟨c, hc, o, ho, h⟩
    exact ⟨o, ⟨c, hc, ho⟩, h⟩

theorem JobQueue.groupBurned_iff (q : JobQueue) (tag l : Nat) : q.groupBurned tag l = true ↔
    (∃ t ∈ q.tickets, t.key.source = some tag ∧ t.key.label = l ∧ t.burned = true)
    ∨ ∀ t ∈ q.tickets, t.key.source = some tag → t.key.label = l → t.key.copy ≠ 1 := by
  simp [JobQueue.groupBurned, and_assoc]

theorem JobQueue.groupPrinting_iff (q : JobQueue) (tag l : Nat) : q.groupPrinting tag l = true ↔
    ∃ t ∈ q.tickets, t.key.source = some tag ∧ t.key.label = l ∧ t.state = .printing := by
  simp [JobQueue.groupPrinting]

theorem JobQueue.mem_discards (q : JobQueue) (tag : Nat) (key : TicketKey) :
    key ∈ q.discards tag ↔ ∃ t ∈ q.tickets, t.key = key ∧ t.key.source = some tag ∧ t.state ≠ .printing := by
  simp only [JobQueue.discards, List.mem_map, List.mem_filter, decide_eq_true_eq]
  constructor
  · rintro ⟨t, ⟨ht, hs⟩, rfl⟩
    exact ⟨t, ht, rfl, hs⟩
  · rintro ⟨t, ht, rfl, hs⟩
    exact ⟨t, ⟨ht, hs⟩, rfl⟩

/-- Several groups of a job confirmed: their entries gone from the outstanding lists, nothing else changed (R83). -/
theorem confirmGroups_eq (tag : Nat) (labels : List Nat) (cs : List Counter) :
    labels.foldl (fun acc l => confirmGroup tag l acc) cs = cs.map fun c =>
      { c with outstanding := c.outstanding.filter fun o => !decide (o.tag = tag ∧ o.label ∈ labels) } := by
  induction labels generalizing cs with
  | nil => simp
  | cons l ls ih =>
    rw [List.foldl_cons, ih, confirmGroup, List.map_map]
    refine List.map_congr_left fun c _ => ?_
    simp only [Function.comp_apply, List.filter_filter]
    congr 2
    funext o
    rw [Bool.eq_iff_iff]
    simp [Outstanding.ofGroups]
    tauto

end Sys2Proof.Machine
end


section
/-! SUPPORT. JOB_CANCEL, and what follows it (sections 4.5, 5.8 and 6.2). -/

set_option Elab.async false

namespace Sys2Proof.Machine

/-- What a cancel leaves of a counter: the job's groups returned or confirmed, but for the one printed in part that has
the PRINTING ticket (R83, R84, R112). -/
theorem cancelled_outstanding {q : JobQueue} {tag : Nat} {labels back now : List Nat} {c : Counter}
    (hlabels : ∀ o ∈ c.outstanding, o.tag = tag → o.label ∈ labels)
    (hback : back = labels.filter fun l => !q.groupBurned tag l)
    (hnow : now = labels.filter fun l => q.groupBurned tag l && !q.groupPrinting tag l) :
    ((c.returned (back.map fun l => (tag, l))).outstanding.filter fun o => !decide (o.tag = tag ∧ o.label ∈ now))
      = c.outstanding.filter fun o =>
          decide (o.tag ≠ tag ∨ (q.groupBurned tag o.label && q.groupPrinting tag o.label) = true) := by
  simp only [Counter.returned, List.filter_filter]
  refine List.filter_congr fun o ho => ?_
  by_cases htag : o.tag = tag
  · have hl := hlabels o ho htag
    rw [Bool.eq_iff_iff]
    simp only [Outstanding.ofGroups, hback, hnow, htag, hl]
    cases hb : q.groupBurned tag o.label <;> cases hp : q.groupPrinting tag o.label <;> simp [hl, hb, hp]
  · rw [Bool.eq_iff_iff]
    simp [Outstanding.ofGroups, htag]
    grind

theorem JobQueue.job_updateJob_of {q : JobQueue} {tag : Nat} {j : Job} (f : Job → Job)
    (hf : ∀ j, (f j).items.tag = j.items.tag) (hj : q.job tag = some j) : (q.updateJob tag f).job tag = some (f j) := by
  rw [JobQueue.job_updateJob hf, hj]
  rfl

/-- The job a cancel has taken, its gaps counted (R112). -/
def Job.cancelledWith (dropped : Nat) (j : Job) : Job :=
  { j with cancelled := true, openGroup := none, gaps := sat16 (j.gaps + dropped) }

/-- The state a cancel leaves before the job may end: the counters settled, the tickets discarded, their buffers freed
(R112). -/
def State.discarded (tag dropped : Nat) (counters : List Counter) (s : State) : State :=
  State.freeTickets (s.queue.discards tag)
    { s.withCounters counters with
      queue := { s.queue.updateJob tag (Job.cancelledWith dropped) with
        tickets := s.queue.tickets.filter fun t => !(s.queue.discards tag).contains t.key } }

theorem State.discarded_hand (s : State) (tag dropped : Nat) (counters : List Counter) :
    (∀ h, s.render.hand = some h → h.ticket ∈ s.queue.discards tag →
      (s.discarded tag dropped counters).render.hand = none
        ∧ (s.discarded tag dropped counters).array = s.array.orphanRenderer)
    ∧ ((∀ h, s.render.hand = some h → h.ticket ∉ s.queue.discards tag) →
      (s.discarded tag dropped counters).render.hand = s.render.hand
        ∧ (s.discarded tag dropped counters).array = s.array) :=
  State.freeTickets_hand (s.queue.discards tag)
    { s.withCounters counters with
      queue := { s.queue.updateJob tag (Job.cancelledWith dropped) with
        tickets := s.queue.tickets.filter fun t => !(s.queue.discards tag).contains t.key } }

theorem State.cancelJob_eq {s v : State} {tag : Nat} {a : CancelAnswer} {labels back now : List Nat} {r : ReturnAnswer}
    (h : s.cancelJob tag = (v, a)) (hlabels : labels = unsettled tag s.battery.counters)
    (hback : back = labels.filter fun l => !s.queue.groupBurned tag l)
    (hnow : now = labels.filter fun l => s.queue.groupBurned tag l && !s.queue.groupPrinting tag l)
    (hr : r = returnGroups (back.map fun l => (tag, l)) s.battery.counters) (x : State)
    (hx : x = s.discarded tag r.dropped.length (now.foldl (fun cs l => confirmGroup tag l cs) r.counters)) :
    v = (if x.queue.hasTicket tag = true then x else x.endJob tag .cancelled)
    ∧ a = { discarded := (s.queue.discards tag).length, returned := back.length, dropped := r.dropped.length, able := r.able } := by
  subst hlabels hback hnow hr hx
  exact ⟨(congrArg Prod.fst h).symm, (congrArg Prod.snd h).symm⟩

/-- Settles O39. -/
theorem jobCancelDiscardsAndEnds : Obligations.JobCancelDiscardsAndEnds := by
  unfold Obligations.JobCancelDiscardsAndEnds
  refine ⟨fun s u body scope tag hu ha hscope htag => ⟨fun hbad => ?_, fun h0 hne => ⟨fun hnone => ?_, fun j hj =>
      ⟨fun hlate => ?_, fun hstate hcancel v a hv => ?_⟩⟩, fun h1 tags v n able htags hv => ?_⟩,
    fun s v tag a j keys labels back now r hv hj hkeys hlabels hback hnow hr => ?_,
    fun s => ⟨rfl, fun tag tags v w a n able hv hw => ?_⟩,
    fun s v discarded able held hheld hvs => ?_⟩
  · refine exec_refused rfl rfl hu ha ?_
    rw [State.runJobCancel, ← hscope, ← htag]
    exact (if_neg (by omega)).trans (if_pos (by omega))
  · refine exec_refused rfl rfl hu ha ?_
    rw [State.runJobCancel, ← hscope, ← htag]
    refine ((if_neg (by omega)).trans (if_neg (by omega))).trans ?_
    rw [State.headGone_queue, hnone]
  · refine exec_refused rfl rfl hu ha ?_
    rw [State.runJobCancel, ← hscope, ← htag]
    refine ((if_neg (by omega)).trans (if_neg (by omega))).trans ?_
    rw [State.headGone_queue, hj]
    exact if_neg (by rcases hlate with h | h <;> simp [Job.cancellable, h])
  · have hrun : State.runJobCancel body (u.headGone 0x23) = (u.headGone 0x23).cancelOne tag := by
      rw [State.runJobCancel, ← hscope, ← htag]
      refine ((if_neg (by omega)).trans (if_neg (by omega))).trans ?_
      rw [State.headGone_queue, hj]
      exact if_pos (by simp [Job.cancellable, hstate, hcancel])
    have hfst : v = ((u.headGone 0x23).cancelJob tag).1 := by rw [hv]
    refine exec_answered (v.afterCancel a.discarded a.able) rfl rfl hu ha ?_ (by simp [hfst]) (by simp [hfst]) (by simp [hfst])
      (by simp [hfst])
    rw [hrun, State.cancelOne, hv]
  · have hrun : State.runJobCancel body (u.headGone 0x23) = (u.headGone 0x23).cancelAll := by
      rw [State.runJobCancel, ← hscope]
      exact if_pos h1
    have hfst : v = (cancelTags tags (u.headGone 0x23)).1 := by rw [hv]
    refine exec_answered (v.afterCancel n able) rfl rfl hu ha ?_ (by simp [hfst]) (by simp [hfst]) (by simp [hfst])
      (by simp [hfst])
    rw [hrun, State.cancelAll, State.headGone_queue, ← htags, hv]
  · obtain ⟨x, hx⟩ : ∃ x : State,
        x = s.discarded tag r.dropped.length (now.foldl (fun cs l => confirmGroup tag l cs) r.counters) := ⟨_, rfl⟩
    obtain ⟨hend, ha⟩ := State.cancelJob_eq hv hlabels hback hnow hr x hx
    have hframe : x = { s.withCounters (now.foldl (fun cs l => confirmGroup tag l cs) r.counters) with
        array := x.array, render := x.render
        queue := { s.queue.updateJob tag (Job.cancelledWith r.dropped.length) with
          tickets := s.queue.tickets.filter fun t => !(s.queue.discards tag).contains t.key } } := by
      rw [hx, State.discarded]
      exact State.freeTickets_eq _ _
    have hsame : ∀ {α : Type} (g : State → α), g (x.endJob tag .cancelled) = g x → g v = g x := by
      intro α g hg
      rw [hend]
      split
      · rfl
      · exact hg
    have hticket : v.queue.hasTicket tag = x.queue.hasTicket tag := hsame (fun y => y.queue.hasTicket tag) rfl
    have hcounters : v.battery.counters = s.battery.counters.map fun c =>
        { c.returned (back.map fun l => (tag, l)) with
          outstanding := (c.returned (back.map fun l => (tag, l))).outstanding.filter fun o =>
            !decide (o.tag = tag ∧ o.label ∈ now) } := by
      rw [hsame (fun y => y.battery) rfl, hframe]
      refine (Battery.withCounters_counters _ _).trans ?_
      rw [confirmGroups_eq, hr]
      exact List.map_map ..
    have hlabel : ∀ c ∈ s.battery.counters, ∀ o ∈ c.outstanding, o.tag = tag → o.label ∈ labels := by
      intro c hc o ho htag
      rw [hlabels, mem_unsettled]
      exact ⟨c, hc, o, ho, htag, rfl⟩
    have hafter : ∀ (i : Nat) (c : Counter), s.battery.counters[i]? = some c → v.battery.counters[i]? = some
        { c.returned (back.map fun l => (tag, l)) with
          outstanding := c.outstanding.filter fun o =>
            decide (o.tag ≠ tag ∨ (s.queue.groupBurned tag o.label && s.queue.groupPrinting tag o.label) = true) } := by
      intro i c hc
      rw [hcounters, List.getElem?_map, hc, ← cancelled_outstanding (hlabel c (List.mem_of_getElem? hc)) hback hnow]
      rfl
    refine ⟨⟨?_, ?_, ?_, ?_, fun l => ?_, fun l => s.queue.groupBurned_iff tag l, fun l => s.queue.groupPrinting_iff tag l,
        fun i c hc => ⟨_, hafter i c hc, rfl, rfl, rfl, rfl, rfl, rfl⟩, fun id => ?_⟩,
      ⟨fun key => ?_, ?_, ?_, ?_⟩, ?_, ?_, ?_, ?_, ?_, ?_, ?_, ?_, ?_, ?_, ?_, ?_, ?_⟩
    · rw [hsame (fun y => y.battery) rfl, hframe]
      rfl
    · rw [ha]
    · rw [ha]
    · rw [ha]
    · rw [hlabels, mem_unsettled]
    · rw [ha, hr]
      refine (mem_ableIds_map _ _ id).trans ⟨fun ⟨hid, c, hc, hb, hk⟩ => ?_, fun ⟨hid, c, k, hc, hk, hb, hissue⟩ => ?_⟩
      · exact ⟨hid, c, _, hc, hafter _ c hc, hb, hk⟩
      · refine ⟨hid, c, hc, hb, ?_⟩
        rw [hafter _ c hc, Option.some.injEq] at hk
        subst hk
        exact hissue
    · rw [hkeys, JobQueue.mem_discards]
    · rw [hsame (fun y => y.render.buffers) rfl, hx, hkeys]
      exact State.freeTickets_buffers _ _
    · rw [hsame (fun y => y.render.hand) rfl, hsame (fun y => y.array) rfl, hx, hkeys]
      exact (s.discarded_hand _ _ _).1
    · rw [hsame (fun y => y.render.hand) rfl, hsame (fun y => y.array) rfl, hx, hkeys]
      exact (s.discarded_hand _ _ _).2
    · rw [hsame (fun y => y.queue.tickets) rfl, hframe]
    · rw [ha]
      exact List.length_map _
    · have hjob : x.queue.job tag = some (j.cancelledWith r.dropped.length) := by
        rw [hframe]
        exact JobQueue.job_updateJob_of (Job.cancelledWith r.dropped.length) (fun _ => rfl) hj
      have hdropped : a.dropped = r.dropped.length := by rw [ha]
      rw [hticket, hdropped]
      cases hstays : x.queue.hasTicket tag with
      | true =>
        rw [hend, if_pos hstays]
        exact ⟨_, hjob, rfl, rfl, rfl, rfl, by simp, fun _ => ⟨rfl, rfl⟩⟩
      | false =>
        rw [hend, if_neg (by simp [hstays])]
        refine ⟨_, JobQueue.job_updateJob_of (fun j => { j with state := .ending, outcome := some .cancelled }) (fun _ => rfl) hjob,
          rfl, rfl, rfl, rfl, fun _ => ⟨rfl, rfl⟩, by simp⟩
    · have hending : x.queue.ending = s.queue.ending := by rw [hframe]; rfl
      rw [hticket, hend, ← hending]
      split <;> rfl
    · rw [hsame (fun y => y.flash) rfl, hframe]; rfl
    · rw [hsame (fun y => y.store) rfl, hframe]; rfl
    · rw [hsame (fun y => y.burn) rfl, hframe]; rfl
    · rw [hsame (fun y => y.media) rfl, hframe]; rfl
    · rw [hsame (fun y => y.sticky) rfl, hframe]; rfl
    · rw [hsame (fun y => y.line) rfl, hframe]; rfl
    · rw [hsame (fun y => y.dec) rfl, hframe]; rfl
    · rw [hsame (fun y => y.now) rfl, hframe]; rfl
    · rw [hsame (fun y => y.queue.last) rfl, hframe]; rfl
  · rw [cancelTags, hv]
    dsimp only
    rw [hw]
  · have hblocked : ∀ j : Job, j.blockedOn able = true ↔ ∃ id ∈ able, j.blocking = some id := by
      intro j
      unfold Job.blockedOn
      split <;> simp [*]
    have hclear : s.clearBlocked able = v := by
      rw [hvs _ rfl]
      unfold State.clearBlocked State.syncCounterHold State.followAttention
      simp only [hblocked]
    have hheld' : s.queue.jobs.any (Job.blockedOn able) = true ↔ held := by
      rw [hheld, List.any_eq_true]
      simp only [hblocked]
    have hcancel : s.afterCancel discarded able = if discarded ≠ 0 ∨ s.queue.jobs.any (Job.blockedOn able) = true then
        v.renderNext.boundary else v.renderNext := by
      rw [← hclear]
      rfl
    rw [hcancel]
    exact ⟨fun h => if_pos (h.imp_right hheld'.mpr), fun h0 hno => if_neg (not_or.mpr ⟨not_not_intro h0, fun h => hno (hheld'.mp h)⟩)⟩

end Sys2Proof.Machine
end


section
/-! SUPPORT. What a label boundary leaves alone, and the source it chooses (sections 5.4 to 5.6). -/

set_option Elab.async false

namespace Sys2Proof.Machine

/-! ### What a boundary leaves alone (R104) -/

@[simp] theorem Battery.withCounters_settings (cs : List Counter) (b : Battery) :
    (b.withCounters cs).settings = b.settings := by
  unfold Battery.withCounters
  split <;> rfl

/-- The blocks that a label boundary leaves alone, and the items of the jobs. -/
structure State.BoundaryFrame (s t : State) : Prop where
  store : t.store = s.store
  burn : t.burn = s.burn
  sticky : t.sticky = s.sticky
  engine : t.media.engine = s.media.engine
  motion : t.media.motion = s.media.motion
  notice : t.media.notice = s.media.notice
  settings : t.battery.settings = s.battery.settings
  items : (t.queue.jobs.map fun j => j.items) = s.queue.jobs.map fun j => j.items

theorem State.BoundaryFrame.refl (s : State) : s.BoundaryFrame s := ⟨rfl, rfl, rfl, rfl, rfl, rfl, rfl, rfl⟩

theorem State.BoundaryFrame.trans {s t u : State} (h : s.BoundaryFrame t) (k : t.BoundaryFrame u) : s.BoundaryFrame u :=
  ⟨k.store.trans h.store, k.burn.trans h.burn, k.sticky.trans h.sticky, k.engine.trans h.engine, k.motion.trans h.motion,
    k.notice.trans h.notice, k.settings.trans h.settings, k.items.trans h.items⟩

theorem items_map {jobs : List Job} {f : Job → Job} (hf : ∀ j, (f j).items = j.items) :
    ((jobs.map f).map fun j => j.items) = jobs.map fun j => j.items := by
  rw [List.map_map]
  exact List.map_congr_left fun j _ => hf j

theorem State.BoundaryFrame.renderNext {s t : State} (h : s.BoundaryFrame t) : s.BoundaryFrame t.renderNext := by
  have hr := (State.RendererFrame.refl t).renderNext
  exact h.trans ⟨hr.store, hr.burn, hr.sticky, congrArg Media.engine hr.media, congrArg Media.motion hr.media,
    congrArg Media.notice hr.media, congrArg Battery.settings hr.battery, congrArg _ t.renderNext_queue.1⟩

theorem State.BoundaryFrame.suspendRunning {s t : State} (h : s.BoundaryFrame t) : s.BoundaryFrame t.suspendRunning :=
  h.trans ⟨rfl, rfl, rfl, rfl, rfl, rfl, rfl, items_map fun j => by split <;> rfl⟩

theorem State.BoundaryFrame.appendTicket {s t : State} (k : Ticket) (h : s.BoundaryFrame t) :
    s.BoundaryFrame (t.appendTicket k) :=
  .renderNext (h.trans ⟨rfl, rfl, rfl, rfl, rfl, rfl, rfl, rfl⟩)

theorem State.BoundaryFrame.createCopy {s t : State} (tag label copy copies : Nat) (values : List Drawn)
    (h : s.BoundaryFrame t) : s.BoundaryFrame (t.createCopy tag label copy copies values) :=
  .appendTicket _ (h.trans ⟨rfl, rfl, rfl, rfl, rfl, rfl, rfl, items_map fun j => by split <;> rfl⟩)

theorem State.BoundaryFrame.createReprint {s t : State} (l : LastLabel) (h : s.BoundaryFrame t) :
    s.BoundaryFrame (t.createReprint l) :=
  .appendTicket _ (h.trans ⟨rfl, rfl, rfl, rfl, rfl, rfl, rfl, rfl⟩)

theorem Job.afterChoice_items (tag : Nat) (j : Job) : (j.afterChoice tag).items = j.items := by
  unfold Job.afterChoice
  repeat' split
  all_goals rfl

theorem State.BoundaryFrame.createGroup {s t : State} (j : Job) (values : List Drawn) (cs : List Counter)
    (h : s.BoundaryFrame t) : s.BoundaryFrame (t.createGroup j values cs) :=
  .appendTicket _ (h.trans ⟨rfl, rfl, rfl, rfl, rfl, rfl, Battery.withCounters_settings _ _,
    items_map (Job.afterChoice_items _)⟩)

/-- A failed draw: the jobs after it, the table, and the counter hold that follows (R80, R101, R106). -/
theorem State.drawFailed_eq (s : State) (tag counter : Nat) (a : ReturnAnswer) :
    s.drawFailed tag counter a = State.syncCounterHold { s with
      battery := s.battery.withCounters a.counters
      queue := { s.queue with
        jobs := (s.queue.jobs.map fun (k : Job) =>
            if k.blockedOn a.able = true then { k with holdCounter := false, blocking := none } else k).map
          fun (k : Job) =>
            if k.items.tag = tag then
              { k with
                gaps := min 65535 (k.gaps + a.dropped.length), holdCounter := true, blocking := some counter }
            else k } } := rfl

theorem State.BoundaryFrame.drawFailed {s t : State} (tag counter : Nat) (a : ReturnAnswer) (h : s.BoundaryFrame t) :
    s.BoundaryFrame (t.drawFailed tag counter a) := by
  rw [State.drawFailed_eq]
  refine h.trans ⟨rfl, rfl, rfl, rfl, rfl, rfl, Battery.withCounters_settings _ _, ?_⟩
  exact (items_map fun k => by split <;> rfl).trans (items_map fun k => by split <;> rfl)

theorem State.BoundaryFrame.choose {s t : State} (fuel : Nat) (h : s.BoundaryFrame t) :
    s.BoundaryFrame (t.choose fuel) := by
  induction fuel generalizing t with
  | zero => exact h.suspendRunning
  | succ fuel ih =>
    unfold State.choose
    split
    · exact h.createCopy ..
    · exact h.createReprint _
    · exact h.suspendRunning
    · split
      · exact h.createGroup ..
      · exact ih (h.drawFailed ..)

theorem State.boundary_frame (s : State) : s.BoundaryFrame s.boundary := by
  unfold State.boundary
  split
  · exact (State.BoundaryFrame.refl s).choose _
  · exact .refl s

/-! ### The ticket list (R106, R107) -/

/-- The keys of the ticket list. -/
def State.keys (s : State) : List TicketKey := s.queue.tickets.map Ticket.key

@[simp] theorem State.renderNext_keys (s : State) : s.renderNext.keys = s.keys := by
  have hfix : ∀ t : Ticket, (s.fixLength t).key = t.key := by
    intro t
    unfold State.fixLength
    split <;> rfl
  unfold State.renderNext
  repeat' split
  · rfl
  · rename_i _ t _ _ _ _
    simp only [State.takeBuffer, State.keys, State.readHand_queue, JobQueue.updateTicket, List.map_map]
    refine List.map_congr_left fun k _ => ?_
    by_cases hk : k.key = t.key <;> simp [hk, hfix]
  · rfl
  · rfl

theorem State.appendTicket_keys (t : Ticket) (s : State) : (s.appendTicket t).keys = s.keys ++ [t.key] := by
  rw [State.appendTicket, State.renderNext_keys]
  simp [State.keys]

/-- A choice adds at most one ticket, at the tail. -/
theorem State.choose_keys (fuel : Nat) (s : State) :
    (s.choose fuel).keys = s.keys ∨ ∃ key, (s.choose fuel).keys = s.keys ++ [key] := by
  induction fuel generalizing s with
  | zero => exact .inl rfl
  | succ fuel ih =>
    unfold State.choose
    split
    · exact .inr ⟨_, State.appendTicket_keys _ _⟩
    · exact .inr ⟨_, State.appendTicket_keys _ _⟩
    · exact .inl rfl
    · split
      · exact .inr ⟨_, State.appendTicket_keys _ _⟩
      · exact ih _

theorem State.boundary_keys (s : State) : s.boundary.keys = s.keys ∨ ∃ key, s.boundary.keys = s.keys ++ [key] := by
  unfold State.boundary
  split
  · exact s.choose_keys _
  · exact .inl rfl

/-! ### The source chosen (R105) -/

theorem Job.supplies_iff (j : Job) : j.supplies ↔ (j.unheld && j.hasLabelsLeft) = true := by
  simp [Job.supplies, Job.unheld, Job.hasLabelsLeft, and_assoc]

section choice
variable {q : JobQueue}

theorem JobQueue.choose_of_open {before after : List Job} {j : Job} {g : OpenGroup} (hq : q.jobs = before ++ j :: after)
    (hb : ∀ k ∈ before, k.openGroup = none) (hj : j.openGroup = some g) :
    q.choose = .copy j.items.tag g.label g.nextCopy j.items.copies (q.groupValues j.items.tag g.label) := by
  have hfind : (q.jobs.find? fun k => k.openGroup.isSome) = some j := by
    rw [hq, List.find?_append, List.find?_eq_none.mpr (by simpa using hb)]
    simp [hj]
  rw [JobQueue.choose, JobQueue.openCopy, hfind]
  simp [hj]

theorem JobQueue.openCopy_of_none (h : ∀ j ∈ q.jobs, j.openGroup = none) : q.openCopy = none := by
  rw [JobQueue.openCopy, List.find?_eq_none.mpr (by simpa using h)]
  rfl

/-- The job of a new group, where no group is open and no reprint is pending. -/
theorem JobQueue.choose_of_next (h : ∀ j ∈ q.jobs, j.openGroup = none) (hr : q.reprint = false) :
    (∀ j, q.nextJob = some j → q.choose = .group j) ∧ (q.nextJob = none → q.choose = .nothing) := by
  refine ⟨fun j hj => ?_, fun hnone => ?_⟩
  · rw [JobQueue.choose, JobQueue.openCopy_of_none h]
    exact (if_neg (by simp [hr])).trans (by rw [hj])
  · rw [JobQueue.choose, JobQueue.openCopy_of_none h]
    exact (if_neg (by simp [hr])).trans (by rw [hnone])

theorem JobQueue.nextJob_of_running {before after : List Job} {j : Job} (hq : q.jobs = before ++ j :: after)
    (hj : j.supplies) (hrun : j.state = .running) (hno : j.items.noInterrupt = true)
    (hb : ∀ k ∈ before, k.state ≠ .running) : q.nextJob = some j := by
  obtain ⟨hunheld, hleft⟩ := Bool.and_eq_true_iff.mp (j.supplies_iff.mp hj)
  have hfind : (q.jobs.find? fun j => decide (j.state = .running) && j.items.noInterrupt && j.unheld && j.hasLabelsLeft)
      = some j := by
    rw [hq, List.find?_append, List.find?_eq_none.mpr (by simp +contextual [hb])]
    simp [hrun, hno, hunheld, hleft]
  rw [JobQueue.nextJob, hfind]

theorem JobQueue.nextJob_of_interruptible
    (hrun : ∀ k ∈ q.jobs, k.state = .running → k.items.noInterrupt = false ∨ ¬ k.supplies) :
    q.nextJob = q.jobs.find? fun j => j.unheld && j.hasLabelsLeft := by
  have hfind : (q.jobs.find? fun j => decide (j.state = .running) && j.items.noInterrupt && j.unheld && j.hasLabelsLeft)
      = none := by
    rw [List.find?_eq_none]
    intro k hk h
    simp only [Bool.and_eq_true, decide_eq_true_eq] at h
    obtain ⟨⟨⟨hr, hn⟩, hu⟩, hl⟩ := h
    rcases hrun k hk hr with h | h
    · simp [hn] at h
    · exact h (k.supplies_iff.mpr (by simp [hu, hl]))
  rw [JobQueue.nextJob, hfind]

theorem JobQueue.find_supplying {before after : List Job} {j : Job} (hq : q.jobs = before ++ j :: after) (hj : j.supplies)
    (hb : ∀ k ∈ before, ¬ k.supplies) : (q.jobs.find? fun j => j.unheld && j.hasLabelsLeft) = some j := by
  have hbefore : (before.find? fun j => j.unheld && j.hasLabelsLeft) = none :=
    List.find?_eq_none.mpr fun k hk h => hb k hk (k.supplies_iff.mpr h)
  rw [hq, List.find?_append, hbefore, Option.none_or]
  exact List.find?_cons_of_pos (j.supplies_iff.mp hj)

end choice

end Sys2Proof.Machine
end


section
/-! SUPPORT. A draw for a label group, counter by counter (section 4.4). -/

set_option Elab.async false

namespace Sys2Proof.Machine

/-! ### One counter of the draw (R81) -/

theorem Counter.issue_outstanding {c next : Counter} {v : Nat} (h : c.issue = some (v, next)) :
    next.outstanding = c.outstanding := by
  unfold Counter.issue at h
  split at h
  · obtain ⟨-, rfl⟩ := by simpa using h
    rfl
  · obtain ⟨-, -, rfl⟩ := by simpa using h
    exact c.advance_frame.2.2

/-- Only a counter of the table issues. -/
theorem issue_getD {cs : List Counter} {i : Nat} {x : Nat × Counter}
    (h : (cs.getD i Counter.undefinedRecord).issue = some x) : ∃ c, cs[i]? = some c ∧ c.issue = some x := by
  rw [List.getD_eq_getElem?_getD] at h
  cases hc : cs[i]? with
  | none => rw [hc] at h; cases h
  | some c => exact ⟨c, rfl, by rwa [hc] at h⟩

/-- The value drawn from a counter, as the ticket keeps it. -/
def Counter.drawn (id v : Nat) (c : Counter) : Drawn :=
  { counter := id, value := v, width := c.defn.width, alphabet := c.defn.alphabet }

theorem drawGroup_issued {tag label id v : Nat} {ids : List Nat} {vals : List Drawn} {cs : List Counter} {c next : Counter}
    (hc : cs[id - 1]? = some c) (h : c.issue = some (v, next)) :
    drawGroup tag label (id :: ids) vals cs
      = drawGroup tag label ids (vals ++ [c.drawn id v]) (setCounter id (next.joinOutstanding tag label v) cs) := by
  have hget : cs.getD (id - 1) Counter.undefinedRecord = c := by rw [List.getD_eq_getElem?_getD, hc]; rfl
  rw [drawGroup, hget, h]
  rfl

theorem drawGroup_failed {tag label id : Nat} {ids : List Nat} {vals : List Drawn} {cs : List Counter}
    (h : (cs.getD (id - 1) Counter.undefinedRecord).issue = none) :
    drawGroup tag label (id :: ids) vals cs = .failed id (returnGroups [(tag, label)] cs) := by
  rw [drawGroup, h]

theorem setCounter_getElem? {id : Nat} {k : Counter} {cs : List Counter} {i : Nat} (h : id - 1 ≠ i) :
    (setCounter id k cs)[i]? = cs[i]? := by
  rw [setCounter, List.getElem?_set_ne h]

theorem setCounter_getElem?_self {id : Nat} {c k : Counter} {cs : List Counter} (h : cs[id - 1]? = some c) :
    (setCounter id k cs)[id - 1]? = some k :=
  List.getElem?_set_self (List.getElem?_eq_some_iff.mp h).1

/-! ### A draw that succeeds (R80, R81) -/

/-- A draw keeps the outstanding entries, and joins one for each value it gives. -/
theorem drawGroup_outstanding {tag label : Nat} {ids : List Nat} {vals values : List Drawn} {cs after : List Counter}
    (h : drawGroup tag label ids vals cs = .issued values after) :
    (∀ (i : Nat) (c : Counter), cs[i]? = some c → ∃ k, after[i]? = some k ∧ ∀ o ∈ c.outstanding, o ∈ k.outstanding)
    ∧ ∃ new, values = vals ++ new ∧ new.map Drawn.counter = ids
      ∧ ∀ d ∈ new, ∃ c, after[d.counter - 1]? = some c
        ∧ { value := d.value, tag := tag, label := label } ∈ c.outstanding := by
  induction ids generalizing vals cs with
  | nil =>
    obtain ⟨rfl, rfl⟩ : vals = values ∧ cs = after := by simpa [drawGroup] using h
    exact ⟨fun i c hc => ⟨c, hc, fun o ho => ho⟩, [], by simp⟩
  | cons id ids ih =>
    cases hissue : (cs.getD (id - 1) Counter.undefinedRecord).issue with
    | none => rw [drawGroup_failed hissue] at h; cases h
    | some x =>
      obtain ⟨v, next⟩ := x
      obtain ⟨c, hc, hv⟩ := issue_getD hissue
      rw [drawGroup_issued hc hv] at h
      obtain ⟨hkeep, new, hvalues, hcounters, hnew⟩ := ih h
      refine ⟨fun i k hk => ?_, c.drawn id v :: new, by rw [hvalues, List.append_assoc]; rfl,
        by rw [List.map_cons, hcounters]; rfl, List.forall_mem_cons.mpr ⟨?_, hnew⟩⟩
      · by_cases hi : id - 1 = i
        · subst hi
          obtain rfl : k = c := by simpa using hk.symm.trans hc
          obtain ⟨k', hk', hall⟩ := hkeep _ _ (setCounter_getElem?_self hc)
          refine ⟨k', hk', fun o ho => hall o ?_⟩
          exact List.mem_append_left _ (Counter.issue_outstanding hv ▸ ho)
        · exact hkeep i k ((setCounter_getElem? hi).trans hk)
      · obtain ⟨k', hk', hall⟩ := hkeep _ _ (setCounter_getElem?_self (k := next.joinOutstanding tag label v) hc)
        exact ⟨k', hk', hall _ (List.mem_append_right _ List.mem_cons_self)⟩

/-- A draw from counters named once: each issues, with its entry at the tail, and the others are left alone. -/
theorem drawGroup_of_distinct {tag label : Nat} {ids : List Nat} {vals values : List Drawn} {cs after : List Counter}
    (hnodup : ids.Nodup) (hpos : ∀ id ∈ ids, 1 ≤ id) (h : drawGroup tag label ids vals cs = .issued values after) :
    after.length = cs.length ∧ (∀ d ∈ vals, d ∈ values)
    ∧ (∀ id ∈ ids, ∃ c v next, cs[id - 1]? = some c ∧ c.issue = some (v, next) ∧ c.drawn id v ∈ values
      ∧ after[id - 1]? = some (next.joinOutstanding tag label v))
    ∧ ∀ id, 1 ≤ id → id ∉ ids → after[id - 1]? = cs[id - 1]? := by
  induction ids generalizing vals cs with
  | nil =>
    obtain ⟨rfl, rfl⟩ : vals = values ∧ cs = after := by simpa [drawGroup] using h
    simp
  | cons id ids ih =>
    obtain ⟨hid, hids⟩ := List.nodup_cons.mp hnodup
    obtain ⟨hidpos, hidspos⟩ := List.forall_mem_cons.mp hpos
    cases hissue : (cs.getD (id - 1) Counter.undefinedRecord).issue with
    | none => rw [drawGroup_failed hissue] at h; cases h
    | some x =>
      obtain ⟨v, next⟩ := x
      obtain ⟨c, hc, hv⟩ := issue_getD hissue
      rw [drawGroup_issued hc hv] at h
      obtain ⟨hlen, hvals, hdrawn, hother⟩ := ih hids hidspos h
      refine ⟨by rw [hlen, setCounter, List.length_set], fun d hd => hvals d (List.mem_append_left _ hd),
        List.forall_mem_cons.mpr ⟨⟨c, v, next, hc, hv, hvals _ (by simp), ?_⟩, fun k hk => ?_⟩, fun k hk hkid => ?_⟩
      · rw [hother id hidpos hid, setCounter_getElem?_self hc]
      · have hne : id - 1 ≠ k - 1 := fun heq => hid (by
          rwa [show id = k by have := hidspos k hk; omega])
        obtain ⟨c', v', next', hc', hrest⟩ := hdrawn k hk
        exact ⟨c', v', next', (setCounter_getElem? hne).symm.trans hc', hrest⟩
      · obtain ⟨hne, hkids⟩ := not_or.mp fun h => hkid (List.mem_cons.mpr h)
        rw [hother k hk hkids, setCounter_getElem? (by omega)]

/-! ### A draw that fails (R80) -/

theorem drawGroup_failed_at {tag label counter : Nat} {ids : List Nat} {vals : List Drawn} {cs : List Counter}
    {a : ReturnAnswer} (h : drawGroup tag label ids vals cs = .failed counter a) :
    ∃ before rest values table, ids = before ++ counter :: rest
      ∧ drawGroup tag label before vals cs = .issued values table
      ∧ (table.getD (counter - 1) Counter.undefinedRecord).issue = none ∧ a = returnGroups [(tag, label)] table := by
  induction ids generalizing vals cs with
  | nil => cases h
  | cons id ids ih =>
    cases hissue : (cs.getD (id - 1) Counter.undefinedRecord).issue with
    | none =>
      rw [drawGroup_failed hissue] at h
      obtain ⟨rfl, rfl⟩ : id = counter ∧ returnGroups [(tag, label)] cs = a := by simpa using h
      exact ⟨[], ids, vals, cs, rfl, rfl, hissue, rfl⟩
    | some x =>
      obtain ⟨v, next⟩ := x
      obtain ⟨c, hc, hv⟩ := issue_getD hissue
      rw [drawGroup_issued hc hv] at h
      obtain ⟨before, rest, values, table, rfl, hbefore, hfail, ha⟩ := ih h
      exact ⟨id :: before, rest, values, table, rfl, by rw [drawGroup_issued hc hv, hbefore], hfail, ha⟩

/-- A return leaves no entry of its group. -/
theorem returnGroups_outstanding {tag label : Nat} {cs : List Counter} {c : Counter} {o : Outstanding}
    (hc : c ∈ (returnGroups [(tag, label)] cs).counters) (ho : o ∈ c.outstanding) : ¬ (o.tag = tag ∧ o.label = label) := by
  obtain ⟨k, -, rfl⟩ := List.mem_map.mp hc
  have hout : o.ofGroups [(tag, label)] = false := by simpa [Counter.returned] using (List.mem_filter.mp ho).2
  rintro ⟨h1, h2⟩
  simp [Outstanding.ofGroups, h1, h2] at hout

/-! ### The boundary (R104 to R106) -/

theorem State.boundaryDue_iff (s : State) :
    s.boundaryDue = true ↔ s.queue.tickets.length < 4 ∧ ∀ k ∈ s.queue.tickets, k.whole = true := by
  rw [State.boundaryDue, Bool.and_eq_true, decide_eq_true_eq, List.all_eq_true]
  exact Iff.rfl

/-- Settles O38. -/
theorem labelBoundaryChoosesAndCreates : Obligations.LabelBoundaryChoosesAndCreates := by
  unfold Obligations.LabelBoundaryChoosesAndCreates
  refine ⟨fun s t ht => ?_, fun s hroom hwhole => if_pos (s.boundaryDue_iff.mpr ⟨hroom, hwhole⟩),
    fun q => ⟨fun before after j g hq hb hj => JobQueue.choose_of_open hq hb hj, fun hclosed =>
      ⟨fun l hr htickets hlast => ?_, fun hr hno => ?_, fun hr before after j hq hj => ⟨fun hrun hno hb => ?_, fun hrun hb => ?_⟩,
        fun hr hnone => ?_⟩⟩,
    fun s fuel => ⟨fun tag label copy copies values hc => ?_, fun l hc => ?_, fun hc => ?_, fun j hc =>
      ⟨fun values cs hd => ?_, fun counter a hd => ?_⟩⟩,
    fun tag label ids cs => ⟨fun values after hd => ?_, fun counter a hd => ?_⟩,
    fun tag label ids cs hnodup hids => ⟨fun values after hd => ?_, fun counter a hd => ?_⟩,
    fun ids j => ?_⟩
  · subst ht
    have hf := s.boundary_frame
    refine ⟨fun hno => if_neg fun hdue => ?_, s.boundary_keys, hf.items, by simp, hf.store, hf.burn, hf.sticky, by simp, by simp,
      by simp, by simp, by simp, hf.engine, hf.motion, hf.notice, hf.settings⟩
    obtain ⟨hroom, hwhole⟩ := s.boundaryDue_iff.mp hdue
    rcases hno with h | ⟨k, hk, h⟩
    · omega
    · rw [hwhole k hk] at h
      cases h
  · rw [JobQueue.choose, JobQueue.openCopy_of_none hclosed, htickets, hlast]
    exact if_pos hr
  · rw [JobQueue.choose, JobQueue.openCopy_of_none hclosed]
    refine (if_pos hr).trans ?_
    rcases hno with h | h
    · cases htickets : q.tickets with
      | nil => exact absurd htickets h
      | cons k ks => rfl
    · rw [h]
      cases q.tickets <;> rfl
  · exact (JobQueue.choose_of_next hclosed hr).1 j (JobQueue.nextJob_of_running hq hj hrun hno hb)
  · exact (JobQueue.choose_of_next hclosed hr).1 j
      ((JobQueue.nextJob_of_interruptible hrun).trans (JobQueue.find_supplying hq hj hb))
  · refine (JobQueue.choose_of_next hclosed hr).2
      ((JobQueue.nextJob_of_interruptible fun k hk _ => .inr (hnone k hk)).trans ?_)
    exact List.find?_eq_none.mpr fun k hk h => hnone k hk (k.supplies_iff.mpr h)
  · rw [State.choose, hc]
    rfl
  · rw [State.choose, hc]
    rfl
  · rw [State.choose, hc]
    rfl
  · rw [State.choose, hc]
    dsimp only
    rw [hd]
    rfl
  · rw [State.choose, hc]
    dsimp only
    rw [hd]
    dsimp only
    rw [State.drawFailed_eq]
  · obtain ⟨-, new, rfl, hcounters, hnew⟩ := drawGroup_outstanding hd
    exact ⟨hcounters, hnew⟩
  · obtain ⟨before, rest, values, table, rfl, -, -, rfl⟩ := drawGroup_failed_at hd
    exact ⟨by simp, fun c hc o ho => returnGroups_outstanding hc ho⟩
  · obtain ⟨hlen, -, hdrawn, hother⟩ := drawGroup_of_distinct hnodup (fun id hid => (hids id hid).1) hd
    exact ⟨hlen, hdrawn, hother⟩
  · obtain ⟨before, rest, values, table, rfl, hbefore, hfail, ha⟩ := drawGroup_failed_at hd
    obtain ⟨hbnodup, -, hdisjoint⟩ := List.nodup_append.mp hnodup
    obtain ⟨-, -, hdrawn, hother⟩ := drawGroup_of_distinct hbnodup
      (fun id hid => (hids id (List.mem_append_left _ hid)).1) hbefore
    obtain ⟨hpos, hle⟩ := hids counter (by simp)
    have hnot : counter ∉ before := fun hmem => hdisjoint counter hmem counter List.mem_cons_self rfl
    refine ⟨before, rest, values, table, rfl, fun id hid => ?_, ?_, hbefore, ha⟩
    · obtain ⟨c, v, next, hc, hv, -⟩ := hdrawn id hid
      exact ⟨c, hc, by simp [hv]⟩
    · obtain ⟨c, hc⟩ : ∃ c, cs[counter - 1]? = some c := ⟨_, List.getElem?_eq_getElem (by omega)⟩
      refine ⟨c, hc, ?_⟩
      rwa [List.getD_eq_getElem?_getD, hother counter hpos hnot, hc] at hfail
  · unfold Job.blockedOn
    split <;> simp [*]

end Sys2Proof.Machine
end


section
/-! SUPPORT. The renderer's next band, its pages, and the dots of a band (sections 6.1 to 6.4). -/

set_option Elab.async false

namespace Sys2Proof.Machine

/-! ### The next band (R123, R124) -/

theorem State.geometryAsked_iff (s : State) : s.geometryAsked = true ↔
    (∃ items field page left, s.dec.work = .awaitTable items field page left)
      ∨ ∃ items field left, s.dec.work = .submitTable items field left := by
  unfold State.geometryAsked
  split <;> simp_all

theorem Renderer.freeBuffer_eq_none {r : Renderer} (h : ∀ b ∈ r.buffers, b.state ≠ .free) : r.freeBuffer = none := by
  refine List.find?_eq_none.mpr fun i hi => ?_
  have hlt := List.mem_range.mp hi
  rw [List.getD_eq_getElem _ _ hlt]
  simpa using h _ (List.getElem_mem hlt)

theorem Renderer.freeBuffer_eq_some {r : Renderer} {i : Nat} (hi : i < r.buffers.length)
    (hfree : (r.buffers.getD i Buffer.empty).state = .free)
    (hlow : ∀ k < i, (r.buffers.getD k Buffer.empty).state ≠ .free) : r.freeBuffer = some i := by
  rw [Renderer.freeBuffer, List.find?_range_eq_some]
  exact ⟨by simpa using hfree, by simpa using hi, fun k hk => by simpa using hlow k hk⟩

theorem State.effectiveLength_eq (s : State) (t : Ticket) : s.effectiveLength t
    = if s.battery.settings.mediaType = .continuous ∨ s.battery.settings.pitch = 0 then (s.ticketFormat t).length
      else min (s.ticketFormat t).length (s.battery.settings.pitch - s.battery.settings.gapLength) := by
  rw [State.effectiveLength, Settings.printable]
  by_cases h : s.battery.settings.mediaType = .continuous ∨ s.battery.settings.pitch = 0
  · rw [if_pos h, if_neg (by rcases h with h | h <;> simp [h])]
  · obtain ⟨h1, h2⟩ := not_or.mp h
    rw [if_neg h, if_pos ⟨h1, Nat.pos_of_ne_zero h2⟩]

/-- A buffer taken, and the first page of its band asked for. -/
theorem State.takeBuffer_eq {s : State} {t fixed : Ticket} {i : Nat} {pages : List Nat} (hfixed : fixed = s.fixLength t) :
    pages = s.bandPages (s.ticketData t) (fixed.length.getD 0) t.rendered → s.takeBuffer i t = { s with
      queue := { s.queue with
        tickets := s.queue.tickets.map fun (k : Ticket) => if k.key = t.key then fixed else k }
      render :=
        { buffers := s.render.buffers.set i
            { state := .filling, ticket := some t.key, band := t.rendered
              lines := min 64 (fixed.length.getD 0 - 64 * t.rendered), dots := [] }
          hand := some { ticket := t.key, band := t.rendered, buffer := i, pagesLeft := pages.tail
                         reading := decide (pages ≠ []) } }
      array := match pages with
        | p :: _ => s.array.arrive s.now { client := .renderer, op := .read p }
        | [] => s.array } := by
  intro hpages
  rw [State.takeBuffer, ← hfixed]
  dsimp only
  rw [← hpages]
  cases pages <;> rfl

theorem State.renderNext_of_waiting {s : State} (h : s.render.hand ≠ none ∨ s.geometryAsked = true
    ∨ (∀ k ∈ s.queue.tickets, k.whole = true) ∨ (∀ b ∈ s.render.buffers, b.state ≠ .free)) : s.renderNext = s := by
  unfold State.renderNext
  split
  · rfl
  · next hfree =>
    obtain ⟨hhand, hasked⟩ : s.render.hand = none ∧ s.geometryAsked = false := by simpa using hfree
    rcases h with h | h | h | h
    · exact absurd hhand h
    · exact absurd h (by simp [hasked])
    · rw [List.find?_eq_none.mpr (by simpa using h)]
    · rw [Renderer.freeBuffer_eq_none h]
      split <;> rfl

theorem State.renderNext_of_free {s : State} {t : Ticket} {before after : List Ticket} {i : Nat}
    (hhand : s.render.hand = none) (hasked : s.geometryAsked = false) (hq : s.queue.tickets = before ++ t :: after)
    (hb : ∀ k ∈ before, k.whole = true) (ht : t.whole = false) (hi : s.render.freeBuffer = some i) :
    s.renderNext = s.takeBuffer i t := by
  have hfind : (s.queue.tickets.find? fun t => !t.whole) = some t := by
    rw [hq, List.find?_append, List.find?_eq_none.mpr (by simpa using hb)]
    simp [ht]
  rw [State.renderNext, hfind, hi]
  exact if_neg (by simp [hhand, hasked])

/-! ### The pages of a band (R44, R128, R133) -/

theorem Placed.inBand_iff (p : Placed) (labelWidth length band : Nat) : p.inBand labelWidth length band = true ↔
    ∃ j x, j < min 64 (length - 64 * band) ∧ x < labelWidth ∧ p.dot x (64 * band + j) = true := by
  simp only [Placed.inBand, List.any_eq_true, List.mem_range, bandLineCount, Config.bandLines]
  constructor
  · rintro ⟨j, hj, x, hx, h⟩
    exact ⟨j, x, hj, hx, h⟩
  · rintro ⟨j, x, hj, hx, h⟩
    exact ⟨j, hj, x, hx, h⟩

theorem State.mem_imagePages (s : State) (r : RecRef) (i : Image) (rows : List Nat) (page : Nat) :
    page ∈ s.imagePages r i rows ↔ ∃ e row, s.store.entry r = some e ∧ row ∈ rows
      ∧ page ∈ bodyPages e.firstSector (4 + row * ((i.width + 7) / 8)) ((i.width + 7) / 8) := by
  unfold State.imagePages
  cases s.store.entry r with
  | none => simp
  | some e => simp

theorem mem_imageRows (p : Placed) (i : Image) (k length band row : Nat) : row ∈ imageRows p i k length band ↔
    row < i.height ∧ ∃ y : Nat, 64 * band ≤ y ∧ y < 64 * band + 64 ∧ y < length
      ∧ (p.rotation = 0 → ∃ j < k, (y : Int) = p.y + (row * k + j : Nat))
      ∧ (p.rotation ≠ 0 → p.rotation % 2 = 0 → ∃ j < k, (y : Int) = p.y + (i.height * k : Nat) - 1 - (row * k + j : Nat))
      ∧ (p.rotation % 2 = 1 → p.y ≤ y ∧ y < p.y + (i.width * k : Nat)) := by
  have hline : ∀ y : Int, y ∈ ((List.range (bandLineCount length band)).map
      fun j => ((Config.bandLines * band + j : Nat) : Int)) ↔
      ∃ n : Nat, 64 * band ≤ n ∧ n < 64 * band + 64 ∧ n < length ∧ (n : Int) = y := by
    intro y
    simp only [List.mem_map, List.mem_range, bandLineCount, Config.bandLines]
    constructor
    · rintro ⟨j, hj, rfl⟩
      exact ⟨64 * band + j, by omega, by omega, by omega, rfl⟩
    · rintro ⟨n, h1, h2, h3, rfl⟩
      exact ⟨n - 64 * band, by omega, by rw [Nat.add_sub_cancel' h1]⟩
  rw [imageRows]
  dsimp only
  rw [List.mem_filter, List.mem_range]
  refine and_congr_right fun _ => ?_
  by_cases heven : p.rotation % 2 = 0
  · rw [if_pos heven, List.any_eq_true]
    simp only [List.mem_range, List.contains_iff_mem, hline]
    constructor
    · rintro ⟨j, hj, y, h1, h2, h3, hy⟩
      refine ⟨y, h1, h2, h3, fun h0 => ⟨j, hj, ?_⟩, fun h0 _ => ⟨j, hj, ?_⟩, fun h => by omega⟩
      · rw [if_pos h0] at hy
        rw [hy]; push_cast; rfl
      · rw [if_neg h0] at hy
        rw [hy]; push_cast; rfl
    · rintro ⟨y, h1, h2, h3, hzero, hturned, -⟩
      by_cases h0 : p.rotation = 0
      · obtain ⟨j, hj, hy⟩ := hzero h0
        exact ⟨j, hj, y, h1, h2, h3, by rw [if_pos h0, hy]; push_cast; rfl⟩
      · obtain ⟨j, hj, hy⟩ := hturned h0 heven
        exact ⟨j, hj, y, h1, h2, h3, by rw [if_neg h0, hy]; push_cast; rfl⟩
  · rw [if_neg heven, List.any_eq_true]
    simp only [hline, decide_eq_true_eq]
    constructor
    · rintro ⟨-, ⟨y, h1, h2, h3, rfl⟩, hy⟩
      exact ⟨y, h1, h2, h3, fun h => by omega, fun _ h => absurd h heven, fun _ => hy⟩
    · rintro ⟨y, h1, h2, h3, -, -, hodd⟩
      exact ⟨y, ⟨y, h1, h2, h3, rfl⟩, hodd (by omega)⟩

/-! ### The dots of a band (R120, R129) -/

theorem bandDots_getD {fields : List Placed} {width length band j : Nat} (hj : j < min 64 (length - 64 * band)) :
    (bandDots fields width length band).getD j []
      = (List.range 832).map fun x => decide (x < width) && labelDot fields x (64 * band + j) := by
  have hlt : j < bandLineCount length band := hj
  rw [bandDots, List.getD_eq_getElem _ _ (by simpa using hlt)]
  simp [Config.headDots, Config.bandLines]

end Sys2Proof.Machine
end


section
/-! SUPPORT. Band buffers taken, read for and completed (sections 6.1 to 6.4). -/

set_option Elab.async false

namespace Sys2Proof.Machine

/-! ### The pages of a band (R44, R128, R133) -/

theorem State.mem_bandPages (s : State) (d : LabelData) (length band page : Nat) : page ∈ s.bandPages d length band ↔
    (∃ r, (d.refs.find? fun r => decide (r.kind = .format)) = some r ∧ page ∈ s.refPages r)
    ∨ (∃ f ∈ (s.boundFormat d.refs).fields, ∃ n a b c q w v x src r, f.kind = .barcode n a b c q w v x src
      ∧ boundRef d.refs .table n = some r ∧ page ∈ s.refPages r
      ∧ ∃ j x, j < min 64 (length - 64 * band) ∧ x < (s.boundFormat d.refs).width
        ∧ (s.placeField d f).dot x (64 * band + j) = true)
    ∨ ∃ f ∈ (s.boundFormat d.refs).fields, ∃ n k r e row, f.kind = .image n k ∧ boundRef d.refs .image n = some r
      ∧ s.store.entry r = some e
      ∧ row ∈ imageRows (s.placeField d f) (parseImage (s.refBody r)) k length band
      ∧ page ∈ bodyPages e.firstSector (4 + row * (((parseImage (s.refBody r)).width + 7) / 8))
          (((parseImage (s.refBody r)).width + 7) / 8) := by
  rw [State.bandPages]
  dsimp only
  rw [List.mem_append, List.mem_append, or_assoc]
  refine or_congr ?_ (or_congr ?_ ?_)
  · cases d.refs.find? fun r => decide (r.kind = .format) with
    | none => simp
    | some r => simp
  · simp only [List.mem_flatMap, List.mem_eraseDups, List.mem_filterMap]
    constructor
    · rintro ⟨r, ⟨f, hf, hr⟩, hpage⟩
      split at hr
      · next hk =>
        obtain ⟨hband, href⟩ := Option.ite_none_right_eq_some.mp hr
        exact ⟨f, hf, _, _, _, _, _, _, _, _, _, r, hk, href, hpage, (Placed.inBand_iff ..).mp hband⟩
      · cases hr
    · rintro ⟨f, hf, n, a, b, c, q, w, v, x, src, r, hk, href, hpage, hband⟩
      refine ⟨r, ⟨f, hf, ?_⟩, hpage⟩
      rw [hk]
      exact (if_pos ((Placed.inBand_iff ..).mpr hband)).trans href
  · simp only [List.mem_flatMap]
    refine exists_congr fun f => and_congr_right fun _ => ?_
    constructor
    · intro h
      split at h
      · next n k hk =>
        split at h
        · next r href =>
          obtain ⟨e, row, he, hrow, hpage⟩ := (State.mem_imagePages ..).mp h
          exact ⟨n, k, r, e, row, hk, href, he, hrow, hpage⟩
        · cases h
      · cases h
    · rintro ⟨n, k, r, e, row, hk, href, he, hrow, hpage⟩
      rw [hk]
      dsimp only
      rw [href]
      exact (State.mem_imagePages ..).mpr ⟨e, row, he, hrow, hpage⟩

/-! ### A band drawn (R107, R124, R162) -/

section drawn
variable {u w : State} {h : Hand} {t after : Ticket}

theorem State.bandReport_of_not_printing (ht : t.state ≠ .printing) (band : Nat) (s : State) : s.bandReport t band = s := by
  unfold State.bandReport
  split
  · exact if_neg fun h => ht h.1
  · rfl

theorem State.finishBand_of_read (hh : u.render.hand = some h) (hleft : h.pagesLeft = []) (hread : h.reading = false)
    (ht : u.queue.ticket h.ticket = some t)
    (hafter : after = { t with
      rendered := t.rendered + 1
      state := if t.state = .rendering ∧ t.rendered + 1 = startingBands (t.length.getD 0) then .ready else t.state })
    (hw : w = { u with
      render :=
        { buffers := u.render.buffers.set h.buffer
            { u.render.buffers.getD h.buffer Buffer.empty with state := .complete, dots := u.drawBand t h.band }
          hand := none }
      queue := u.queue.updateTicket t.key fun _ => after }) :
    u.finishBand = State.renderNext (if after.whole = true then
        (if after.state = .ready ∧ t.state = .rendering then (w.bandReport t h.band).tryStart
          else w.bandReport t h.band).boundary
      else if after.state = .ready ∧ t.state = .rendering then (w.bandReport t h.band).tryStart
        else w.bandReport t h.band) := by
  have hone : t.oneMoreBand = after := by rw [hafter]; rfl
  rw [State.finishBand, hh]
  dsimp only
  rw [ht]
  dsimp only
  rw [if_neg (by simp [hleft, hread]), hone, ← hw]

theorem State.finishBand_of_waiting
    (h : u.render.hand = none ∨ (∃ h, u.render.hand = some h ∧ (h.pagesLeft ≠ [] ∨ h.reading = true))) :
    u.finishBand = u := by
  unfold State.finishBand
  rcases h with h | ⟨k, hk, h⟩
  · rw [h]
  · rw [hk]
    dsimp only
    split
    · exact if_pos h
    · rfl

theorem exec_bandDrawn {s t : State} (hu : s.settle = u) (hrun : u.mode = .running) (hf : u.finishBand = t) :
    exec .bandDrawn s = .next t :=
  exec_event_running (f := State.finishBand) rfl hu hf (by rw [← hf]; simpa using hrun)

end drawn

/-- A page read that ends in a running part. -/
theorem exec_pageReadEnd_running {s u w v : State} {client : Client} {page began : Nat} (hu : s.settle = u)
    (hrun : u.mode = .running)
    (hbusy : u.array.busy = some { access := { client := client, op := .read page }, started := began })
    (hpage : page < 32768) (hw : w = { u with now := max u.now (began + 40) })
    (hv : v = { w with array := u.array.passOn w.now }) : exec .pageReadEnd s = .next (v.afterRead client) := by
  have hsame : (u.atLeast (began + 40)).passOn = v := by
    subst hv hw
    rfl
  have hmode : (v.afterRead client).mode = .running := by
    have hvrun : v.mode = .running := by rw [hv, hw]; exact hrun
    cases client <;> simp [State.afterRead, hvrun]
  rw [exec_pageReadEnd hu hbusy hpage, hsame]
  exact congrArg Host.Outcome.next (State.checkEngineStep_running hmode)

/-- Settles O42. -/
theorem bandBuffersAreTakenAndCompleted : Obligations.BandBuffersAreTakenAndCompleted := by
  unfold Obligations.BandBuffersAreTakenAndCompleted
  refine ⟨fun s asked hasked => ⟨fun hwait => ?_, fun t fixed before after i length pages hhand hnot hq hb ht hi hfree hlow
      hlength hfixed hpages => ?_⟩,
    fun s d length band page => s.mem_bandPages d length band page,
    fun p i k length band row => mem_imageRows p i k length band row,
    fun s u w v page began hu hpage hrun hw hv => ⟨fun hbusy => ⟨fun h p rest hh hleft => ?_, fun h hh hleft => ?_⟩,
      fun hbusy => ?_⟩,
    fun s u w h t after hu hrun hh hleft hread ht hafter hw => ⟨fun hsame hnot => ?_, fun hready => ?_, fun hprint => ?_⟩,
    fun s u hu hwait => ?_,
    fun fields width length band j x hj hx => ?_⟩
  · refine State.renderNext_of_waiting ?_
    rw [State.geometryAsked_iff, ← hasked]
    exact hwait
  · have hask : s.geometryAsked = false := by
      rw [← Bool.not_eq_true, State.geometryAsked_iff, ← hasked]
      exact hnot
    have hfix : fixed = s.fixLength t := by
      rw [hfixed, hlength, ← State.effectiveLength_eq]
      rfl
    exact (State.renderNext_of_free hhand hask hq hb ht (Renderer.freeBuffer_eq_some hi hfree hlow)).trans
      (State.takeBuffer_eq hfix hpages)
  · rw [exec_pageReadEnd_running hu hrun hbusy hpage hw hv]
    refine congrArg Host.Outcome.next ?_
    have hhand : v.render = u.render := by rw [hv, hw]
    rw [State.afterRead, hhand, hh, State.readHand]
    dsimp only [Option.map_some]
    rw [hleft]
    rfl
  · rw [exec_pageReadEnd_running hu hrun hbusy hpage hw hv]
    refine congrArg Host.Outcome.next ?_
    have hhand : v.render = u.render := by rw [hv, hw]
    rw [State.afterRead, hhand, hh, State.readHand]
    dsimp only [Option.map_some]
    rw [hleft]
  · exact exec_pageReadEnd_running hu hrun hbusy hpage hw hv
  · have hno : ¬ (after.state = .ready ∧ t.state = .rendering) := fun ⟨h1, h2⟩ => by
      rw [hsame, h2] at h1
      cases h1
    rw [exec_bandDrawn hu hrun (State.finishBand_of_read hh hleft hread ht hafter hw), if_neg hno,
      State.bandReport_of_not_printing hnot]
  · have hstate : after.state = if t.state = .rendering ∧ t.rendered + 1 = startingBands (t.length.getD 0) then .ready
        else t.state := by rw [hafter]
    have hrendering : t.state = .rendering ∧ t.rendered + 1 = startingBands (t.length.getD 0) := by
      by_contra hno
      exact hready (hstate.trans (if_neg hno))
    have hyes : after.state = .ready ∧ t.state = .rendering := ⟨hstate.trans (if_pos hrendering), hrendering.1⟩
    rw [exec_bandDrawn hu hrun (State.finishBand_of_read hh hleft hread ht hafter hw), if_pos hyes,
      State.bandReport_of_not_printing (by rw [hrendering.1]; simp)]
  · have hno : ¬ (after.state = .ready ∧ t.state = .rendering) := fun ⟨_, h2⟩ => by
      rw [hprint] at h2
      cases h2
    rw [exec_bandDrawn hu hrun (State.finishBand_of_read hh hleft hread ht hafter hw), if_neg hno]
  · exact exec_event_same (f := State.finishBand) rfl hu (State.finishBand_of_waiting hwait)
  · rw [bandDots_getD hj]
    refine ⟨by simp, ?_⟩
    rw [List.getD_eq_getElem _ _ (by simpa using hx)]
    simp

end Sys2Proof.Machine
end


section
/-! SUPPORT. The pass over a record body: one item after another, each of at least one byte (sections 2.6 and 11.5). -/

set_option Elab.async false

namespace Sys2Proof.Machine

theorem within_iff (lo hi v : Nat) : within lo hi v = true ↔ lo ≤ v ∧ v ≤ hi := decide_eq_true_iff

/-! ### One item judged (R46) -/

section step
variable {p : Pass}

theorem Pass.judges_of_number {n : Nat} {g : Nat → Bool} {good : Nat → Prop} {next next' : Nat → Pass}
    (hstep : ∀ bodyLen avail, p.step bodyLen avail = p.number bodyLen avail n g next')
    (hgood : ∀ v, g v = true ↔ good v) (hnext : ∀ v, good v → next' v = next v) : p.judges n good next := by
  intro bodyLen v avail hv
  rw [hstep, Pass.number, Pass.need, Pass.judge, ← hv]
  refine ⟨fun h => if_pos h, fun h1 h2 => (if_neg (Nat.not_lt.mpr h1)).trans (if_pos h2), fun h1 h2 => ?_⟩
  rw [if_neg (Nat.not_lt.mpr h1), if_neg (Nat.not_lt.mpr h2)]
  exact ⟨fun h => if_neg fun hg => h ((hgood v).mp hg), fun h => (if_pos ((hgood v).mpr h)).trans (congrArg _ (hnext v h))⟩

theorem Pass.judgesList_of_step {g : Nat → Bool} {e : Byte → Bool} {good : Nat → Prop} {each : Byte → Prop}
    {next next' : Nat → Pass}
    (hstep : ∀ bodyLen avail, p.step bodyLen avail = p.need bodyLen avail 1
      (if g (num avail 0 1) = true then p.need bodyLen avail (1 + num avail 0 1)
          (p.judge (((avail.drop 1).take (num avail 0 1)).all e) (next' (num avail 0 1)))
        else .fault p.offset))
    (hgood : ∀ v, g v = true ↔ good v) (heach : ∀ b, e b = true ↔ each b) (hnext : ∀ v, next' v = next v) :
    p.judgesList good each next := by
  intro bodyLen v avail hv
  rw [hstep, ← hv, hnext]
  simp only [Pass.need, Pass.judge]
  refine ⟨fun h => if_pos h, fun h1 h2 => (if_neg (Nat.not_lt.mpr h1)).trans (if_pos (by simp [h2])), fun h1 h2 => ?_⟩
  rw [if_neg (Nat.not_lt.mpr h1), if_neg (Nat.not_lt.mpr h2)]
  refine ⟨fun h => if_neg fun hg => h ((hgood v).mp hg), fun h h3 => (if_pos ((hgood v).mpr h)).trans (if_pos h3),
    fun h h3 h4 => (if_pos ((hgood v).mpr h)).trans ((if_neg (Nat.not_lt.mpr h3)).trans (if_pos h4)), fun h h3 h4 => ?_⟩
  rw [if_pos ((hgood v).mpr h), if_neg (Nat.not_lt.mpr h3), if_neg (Nat.not_lt.mpr h4)]
  refine ⟨fun ⟨b, hb, hbad⟩ => if_neg fun hall => hbad ((heach b).mp (List.all_eq_true.mp hall b hb)), fun hall => if_pos ?_⟩
  exact List.all_eq_true.mpr fun b hb => (heach b).mpr (hall b hb)

end step

/-! ### The pass comes to its end (R46) -/

/-- An item whose bytes the count of elements per character can decide: those of a symbol table from its gap on. -/
def Item.counted : Item → Bool
  | .gap | .minLength | .maxLength | .rule | .modulus | .weightA | .weightB | .startConstant | .checkShown
  | .startPattern | .stopPattern | .entryCount | .entryCode | .entryValue | .entryElements => true
  | _ => false

/-- What earlier items have fixed makes the item of a pass one byte long at least. -/
structure Pass.Sized (p : Pass) : Prop where
  width : p.item = .imageHeight → 1 ≤ p.width
  rows : p.item = .rows → 1 ≤ p.height * ((p.width + 7) / 8)
  perChar : p.item.counted = true → 1 ≤ p.perCharCount

theorem Pass.Sized.begin (k : RecKind) : (Pass.begin k).Sized := by
  cases k <;> exact ⟨nofun, nofun, nofun⟩

/-- A step over a whole body that ends the pass, or takes it on over at least one byte. -/
def PassStep.Ends (offset bodyLen : Nat) : PassStep → Prop
  | .more => False
  | .go q => q.Sized ∧ offset < q.offset ∧ q.offset ≤ bodyLen
  | .fault _ => True
  | .passed => True

section ends
variable {p q : Pass} {body : List Byte} {n : Nat} {k : PassStep}

theorem Pass.need_ends (h : p.offset + n ≤ body.length → k.Ends p.offset body.length) :
    (p.need body.length (body.drop p.offset) n k).Ends p.offset body.length := by
  unfold Pass.need
  split
  · trivial
  · rw [if_neg (by rw [List.length_drop]; omega)]
    exact h (by omega)

theorem Pass.judge_ends {good : Bool} (h : good = true → q.Sized ∧ p.offset < q.offset ∧ q.offset ≤ body.length) :
    (p.judge good q).Ends p.offset body.length := by
  unfold Pass.judge
  split
  · next hgood => exact h hgood
  · trivial

theorem Pass.number_ends {good : Nat → Bool} {next : Nat → Pass} (hn : 1 ≤ n)
    (h : ∀ v, good v = true → (next v).offset = p.offset + n ∧ (next v).Sized) :
    (p.number body.length (body.drop p.offset) n good next).Ends p.offset body.length := by
  refine Pass.need_ends fun hlen => Pass.judge_ends fun hgood => ?_
  obtain ⟨hoffset, hsized⟩ := h _ hgood
  exact ⟨hsized, by omega, by omega⟩

theorem Pass.pattern_ends {parity : Bool} {next : Item} (hs : ∀ v, (p.advance (1 + v) next).Sized) :
    (p.pattern body.length (body.drop p.offset) parity next).Ends p.offset body.length := by
  unfold Pass.pattern
  refine Pass.need_ends fun _ => ?_
  dsimp only
  split
  · refine Pass.need_ends fun hlen => Pass.judge_ends fun _ => ⟨hs _, ?_, hlen⟩
    simp only [Pass.advance]
    omega
  · trivial

theorem Pass.Sized.endField (p : Pass) : p.endField.Sized := by
  refine ⟨fun h => ?_, fun h => ?_, fun h => ?_⟩ <;> simp only [Pass.endField] at h <;> split at h <;> cases h

theorem Pass.Sized.endPart (p : Pass) : p.endPart.Sized := by
  unfold Pass.endPart
  split
  · exact ⟨nofun, nofun, nofun⟩
  · exact .endField _

theorem Pass.endPart_offset (p : Pass) : p.endPart.offset = p.offset := by
  unfold Pass.endPart
  split <;> rfl

theorem Pass.Sized.endParam (h : p.item = .param) : p.endParam.Sized := by
  unfold Pass.endParam
  repeat' split
  · exact ⟨nofun, nofun, nofun⟩
  · exact ⟨nofun, nofun, nofun⟩
  · exact .endField _

theorem Pass.endParam_offset (p : Pass) : p.endParam.offset = p.offset := by
  unfold Pass.endParam
  repeat' split
  all_goals rfl

theorem fieldParams_size (kindCode i : Nat) : 1 ≤ ((fieldParams kindCode).getD i (1, 0, 255)).1 := by
  have hall : ∀ row ∈ fieldParams kindCode, 1 ≤ row.1 := by
    unfold fieldParams
    repeat' split
    all_goals decide
  rw [List.getD_eq_getElem?_getD]
  cases h : (fieldParams kindCode)[i]? with
  | none => exact Nat.le_refl 1
  | some row => exact hall row (List.mem_of_getElem? h)

theorem Pass.step_ends (hs : p.Sized) : (p.step body.length (body.drop p.offset)).Ends p.offset body.length := by
  rw [Pass.step]
  cases hi : p.item
  case finish =>
    dsimp only
    split <;> trivial
  case part =>
    refine Pass.need_ends fun hlen => ?_
    dsimp only
    split
    · split
      · refine Pass.need_ends fun hlen => Pass.judge_ends fun _ => ⟨.endPart _, ?_, ?_⟩
        all_goals
          rw [Pass.endPart_offset]
          dsimp only
          omega
      · trivial
    · refine Pass.judge_ends fun _ => ⟨.endPart _, ?_, ?_⟩
      all_goals
        rw [Pass.endPart_offset]
        dsimp only
        omega
  case param =>
    refine Pass.number_ends (fieldParams_size _ _) fun v _ => ⟨?_, .endParam rfl⟩
    rw [Pass.endParam_offset]
    rfl
  case imageWidth =>
    exact Pass.number_ends (by decide) fun v hv => ⟨rfl, fun _ => ((within_iff ..).mp hv).1, nofun, nofun⟩
  case imageHeight =>
    refine Pass.number_ends (by decide) fun v hv => ⟨rfl, nofun, fun _ => ?_, nofun⟩
    have hw : 1 ≤ p.width := hs.width hi
    exact Nat.mul_pos ((within_iff ..).mp hv).1 (Nat.div_pos (Nat.add_le_add_right hw 7) (by decide))
  case rows =>
    have hrows := hs.rows hi
    refine Pass.need_ends fun hlen => ⟨⟨nofun, nofun, nofun⟩, ?_, hlen⟩
    simp only [Pass.advance]
    omega
  case perChar =>
    refine Pass.number_ends (by decide) fun v hv => ⟨rfl, nofun, nofun, fun _ => ?_⟩
    exact Nat.le_trans (by decide) ((within_iff ..).mp hv).1
  case gap =>
    have hcount : 1 ≤ p.perCharCount := hs.perChar (by rw [hi]; rfl)
    refine Pass.need_ends fun hlen => ?_
    dsimp only
    split
    · trivial
    · exact Pass.judge_ends fun _ => ⟨⟨nofun, nofun, fun _ => hcount⟩, Nat.lt_succ_self _, hlen⟩
  case startPattern => exact Pass.pattern_ends fun v => ⟨nofun, nofun, fun _ => hs.perChar (by rw [hi]; rfl)⟩
  case stopPattern => exact Pass.pattern_ends fun v => ⟨nofun, nofun, fun _ => hs.perChar (by rw [hi]; rfl)⟩
  case entryElements =>
    have hcount : 1 ≤ p.perCharCount := hs.perChar (by rw [hi]; rfl)
    refine Pass.need_ends fun hlen => Pass.judge_ends fun _ => ⟨⟨?_, ?_, fun _ => hcount⟩, ?_, hlen⟩
    · dsimp only [Pass.advance]
      split <;> exact nofun
    · dsimp only [Pass.advance]
      split <;> exact nofun
    · simp only [Pass.advance]
      omega
  -- every other item is one number, and the next stands in the same part of the body
  all_goals
    exact Pass.number_ends (by decide) fun v _ => ⟨rfl, nofun, nofun, fun h => hs.perChar (by rw [hi]; exact h)⟩

/-- A pass over a whole body goes from item to item up to its end. -/
theorem Pass.run_ends {fuel : Nat} (hs : p.Sized) (hp : p.offset ≤ body.length) (hf : body.length < p.offset + fuel) :
    ∃ ps : List Pass, ps.head? = some p ∧ ps.IsChain (fun p q => p.step body.length (body.drop p.offset) = .go q)
      ∧ ∃ l, ps.getLast? = some l
        ∧ ((l.step body.length (body.drop l.offset) = .passed ∧ Pass.run body.length body fuel p = .passed)
          ∨ ∃ at_, l.step body.length (body.drop l.offset) = .fault at_ ∧ Pass.run body.length body fuel p = .fault at_) := by
  induction fuel generalizing p with
  | zero => omega
  | succ fuel ih =>
    have hends := Pass.step_ends (body := body) hs
    rw [Pass.run]
    cases hstep : p.step body.length (body.drop p.offset) with
    | more => rw [hstep] at hends; exact hends.elim
    | passed => exact ⟨[p], rfl, .singleton p, p, rfl, .inl ⟨hstep, rfl⟩⟩
    | fault o => exact ⟨[p], rfl, .singleton p, p, rfl, .inr ⟨o, hstep, rfl⟩⟩
    | go q =>
      rw [hstep] at hends
      obtain ⟨hq, hlt, hle⟩ := hends
      obtain ⟨ps, hhead, hchain, l, hlast, hresult⟩ := ih hq hle (by omega)
      refine ⟨p :: ps, rfl, ?_, l, ?_, hresult⟩
      · cases ps with
        | nil => cases hhead
        | cons r rs =>
          obtain rfl : r = q := by simpa using hhead
          exact .cons_cons hstep hchain
      · cases ps with
        | nil => cases hhead
        | cons r rs => exact hlast

end ends

end Sys2Proof.Machine
end


section
/-! SUPPORT. The items of a format, an image and a symbol table, and the first fault of a body (section 2.6). -/

set_option Elab.async false

namespace Sys2Proof.Machine

/-! ### The elements of a pattern (R41, R49) -/

theorem elementOk_iff (modelCode : Nat) (b : Byte) :
    elementOk modelCode b = true ↔ 1 ≤ b.toNat ∧ b.toNat ≤ if modelCode = 1 then 2 else 4 := by
  unfold elementOk
  split <;> exact within_iff ..

theorem parityOk_iff (gap count : Nat) : parityOk gap count = true ↔ if gap = 0 then count % 2 = 0 else count % 2 = 1 := by
  unfold parityOk
  split <;> simp

/-! ### An image (R39, R48) -/

theorem Pass.run_go {bodyLen fuel : Nat} {read : List Byte} {p q : Pass} (h : p.step bodyLen (read.drop p.offset) = .go q) :
    Pass.run bodyLen read (fuel + 1) p = Pass.run bodyLen read fuel q := by
  rw [Pass.run, h]

theorem Pass.run_fault {bodyLen fuel o : Nat} {read : List Byte} {p : Pass}
    (h : p.step bodyLen (read.drop p.offset) = .fault o) : Pass.run bodyLen read (fuel + 1) p = .fault o := by
  rw [Pass.run, h]

theorem Pass.run_passed {bodyLen fuel : Nat} {read : List Byte} {p : Pass}
    (h : p.step bodyLen (read.drop p.offset) = .passed) : Pass.run bodyLen read (fuel + 1) p = .passed := by
  rw [Pass.run, h]

theorem validateBody_of_fault {k : RecKind} {body : List Byte} {o : Nat}
    (h : Pass.run body.length body (body.length + 2) (Pass.begin k) = .fault o) : validateBody k body = some o := by
  rw [validateBody, h]

theorem validateBody_of_passed {k : RecKind} {body : List Byte}
    (h : Pass.run body.length body (body.length + 2) (Pass.begin k) = .passed) : validateBody k body = none := by
  rw [validateBody, h]

theorem num_drop (body : List Byte) (a n : Nat) : num (body.drop a) 0 n = num body a n := by
  simp [num]

theorem imageBody_validated (body : List Byte) (width height rows : Nat) (hwidth : width = num body 0 2)
    (hheight : height = num body 2 2) (hrows : rows = height * ((width + 7) / 8)) :
    validateBody .image body =
      if body.length < 2 then some body.length
      else if width = 0 ∨ 832 < width then some 0
      else if body.length < 4 then some body.length
      else if height = 0 ∨ 4000 < height then some 2
      else if body.length < 4 + rows then some body.length
      else if 4 + rows < body.length then some (4 + rows)
      else none := by
  obtain ⟨p, hp⟩ : ∃ p : Pass, p = Pass.begin .image := ⟨_, rfl⟩
  obtain ⟨q, hq⟩ : ∃ q : Pass, q = { p.advance 2 .imageHeight with width := width } := ⟨_, rfl⟩
  obtain ⟨r, hr⟩ : ∃ r : Pass, r = { q.advance 2 .rows with height := height } := ⟨_, rfl⟩
  obtain ⟨e, he⟩ : ∃ e : Pass, e = r.advance rows .finish := ⟨_, rfl⟩
  have hpo : p.offset = 0 := by rw [hp]; rfl
  have hqo : q.offset = 2 := by rw [hq, hp]; rfl
  have hro : r.offset = 4 := by rw [hr, hq, hp]; rfl
  have heo : e.offset = 4 + rows := by rw [he, Pass.advance, hro]
  have hpjudge : p.judges 2 (fun v => 1 ≤ v ∧ v ≤ 832) fun v => { p.advance 2 .imageHeight with width := v } :=
    Pass.judges_of_number (fun _ _ => by rw [Pass.step, show p.item = .imageWidth by rw [hp]; rfl])
      (fun v => within_iff ..) fun _ _ => rfl
  have hqjudge : q.judges 2 (fun v => 1 ≤ v ∧ v ≤ 4000) fun v => { q.advance 2 .rows with height := v } :=
    Pass.judges_of_number (fun _ _ => by rw [Pass.step, show q.item = .imageHeight by rw [hq]; rfl])
      (fun v => within_iff ..) fun _ _ => rfl
  obtain ⟨hpshort, -, hpread⟩ := hpjudge body.length width (body.drop p.offset) (by rw [hpo, num_drop, hwidth])
  obtain ⟨hqshort, -, hqread⟩ := hqjudge body.length height (body.drop q.offset) (by rw [hqo, num_drop, hheight])
  have hrstep : r.step body.length (body.drop r.offset)
      = if body.length < 4 + rows then .fault body.length else .go e := by
    have hn : r.height * ((r.width + 7) / 8) = rows := by
      rw [hrows, hr, hq]
      rfl
    rw [Pass.step, show r.item = .rows by rw [hr]; rfl]
    dsimp only
    rw [hn, Pass.need, hro, ← he]
    split
    · rfl
    · exact if_neg (by rw [List.length_drop]; omega)
  have hestep : e.step body.length (body.drop e.offset) = if 4 + rows = body.length then .passed else .fault (4 + rows) := by
    rw [Pass.step, show e.item = .finish by rw [he]; rfl, heo]
  have hfuel : body.length + 2 = body.length + 1 + 1 := rfl
  by_cases h1 : body.length < 2
  · rw [if_pos h1]
    exact validateBody_of_fault (hp ▸ hfuel ▸ Pass.run_fault (hpshort (by omega)))
  rw [if_neg h1]
  obtain ⟨hpbad, hpgood⟩ := hpread (by omega) (by rw [List.length_drop]; omega)
  by_cases h2 : width = 0 ∨ 832 < width
  · rw [if_pos h2, ← hpo]
    exact validateBody_of_fault (hp ▸ hfuel ▸ Pass.run_fault (hpbad (by omega)))
  rw [if_neg h2]
  obtain ⟨f, hf⟩ : ∃ f, body.length + 2 = f + 4 := ⟨body.length - 2, by omega⟩
  have hrun2 : Pass.run body.length body (body.length + 2) (Pass.begin .image) = Pass.run body.length body (f + 3) q := by
    rw [hf, ← hp, hq]
    exact Pass.run_go (hpgood (by omega))
  by_cases h3 : body.length < 4
  · rw [if_pos h3]
    exact validateBody_of_fault (hrun2.trans (Pass.run_fault (hqshort (by omega))))
  rw [if_neg h3]
  obtain ⟨hqbad, hqgood⟩ := hqread (by omega) (by rw [List.length_drop]; omega)
  by_cases h4 : height = 0 ∨ 4000 < height
  · rw [if_pos h4, ← hqo]
    exact validateBody_of_fault (hrun2.trans (Pass.run_fault (hqbad (by omega))))
  rw [if_neg h4]
  have hrun3 : Pass.run body.length body (body.length + 2) (Pass.begin .image) = Pass.run body.length body (f + 2) r := by
    rw [hrun2, hr]
    exact Pass.run_go (hqgood (by omega))
  by_cases h5 : body.length < 4 + rows
  · rw [if_pos h5]
    exact validateBody_of_fault (hrun3.trans (Pass.run_fault (hrstep.trans (if_pos h5))))
  rw [if_neg h5]
  have hrun4 : Pass.run body.length body (body.length + 2) (Pass.begin .image) = Pass.run body.length body (f + 1) e :=
    hrun3.trans (Pass.run_go (hrstep.trans (if_neg h5)))
  by_cases h6 : 4 + rows < body.length
  · rw [if_pos h6]
    exact validateBody_of_fault (hrun4.trans (Pass.run_fault (hestep.trans (if_neg (by omega)))))
  · rw [if_neg h6]
    exact validateBody_of_passed (hrun4.trans (Pass.run_passed (hestep.trans (if_pos (by omega)))))

/-- Settles O41. -/
theorem recordBodiesAreValidated : Obligations.RecordBodiesAreValidated := by
  unfold Obligations.RecordBodiesAreValidated
  refine ⟨fun body width height rows hw hh hr => imageBody_validated body width height rows hw hh hr, fun k body => ?_,
    ⟨rfl, rfl, fun k => ⟨rfl, rfl, rfl, rfl⟩⟩, fun p bodyLen avail hi => by rw [Pass.step, hi],
    fun p pastPart pastField past hpast hfield hpart => ?_, fun p past element even hpast helement heven => ?_⟩
  · obtain ⟨ps, hhead, hchain, l, hlast, hresult⟩ :=
      Pass.run_ends (body := body) (fuel := body.length + 2) (.begin k) (Nat.zero_le _) (by omega)
    refine ⟨ps, hhead, hchain, l, hlast, ?_⟩
    rcases hresult with ⟨hstep, hrun⟩ | ⟨o, hstep, hrun⟩
    · exact .inl ⟨hstep, validateBody_of_passed hrun⟩
    · exact .inr ⟨o, hstep, validateBody_of_fault hrun⟩
  · obtain rfl : past = p.advance := funext fun n => funext fun item => hpast n item
    refine ⟨fun h => ?_, fun h => ?_, fun h => ?_, fun h => ?_, fun h => ?_, fun h => ?_, fun h => ?_, fun h => ?_,
      fun h => ?_, fun h => ?_, fun h => ?_, fun rows n low high h h1 h2 h3 h4 h5 hlow hhigh hrow => ?_,
      fun h => ?_, fun h => ?_, fun h hc => ?_, fun h hc => ?_, fun h hc => ?_⟩
    · exact Pass.judges_of_number (fun _ _ => by rw [Pass.step, h]) (fun v => within_iff ..) fun _ _ => rfl
    · exact Pass.judges_of_number (fun _ _ => by rw [Pass.step, h]) (fun v => within_iff ..) fun _ _ => rfl
    · exact Pass.judges_of_number (fun _ _ => by rw [Pass.step, h]) (fun v => by simp [within_iff]) fun _ _ => rfl
    · exact Pass.judges_of_number (fun _ _ => by rw [Pass.step, h]) (fun v => by simp [within_iff, and_assoc]) fun _ _ => rfl
    · exact Pass.judges_of_number (fun _ _ => by rw [Pass.step, h]) (fun v => within_iff ..) fun _ _ => rfl
    · exact Pass.judges_of_number (fun _ _ => by rw [Pass.step, h]) (fun v => by simp [within_iff, and_assoc]) fun _ _ => rfl
    · exact Pass.judges_of_number (fun _ _ => by rw [Pass.step, h]) (fun v => within_iff ..) fun _ _ => rfl
    · exact Pass.judges_of_number (fun _ _ => by rw [Pass.step, h]) (fun v => by simp [within_iff]) fun _ _ => rfl
    · exact Pass.judges_of_number (fun _ _ => by rw [Pass.step, h]) (fun v => by simp [within_iff]) fun _ _ => rfl
    · exact Pass.judges_of_number (fun _ _ => by rw [Pass.step, h]) (fun v => by simp [within_iff]) fun _ _ => rfl
    · exact Pass.judges_of_number (fun _ _ => by rw [Pass.step, h]) (fun v => by simp [within_iff]) fun _ _ => rfl
    · have hrows : fieldParams p.kindCode = rows := by
        obtain hc | hc | hc | hc | hc : p.kindCode = 1 ∨ p.kindCode = 2 ∨ p.kindCode = 3 ∨ p.kindCode = 4 ∨ p.kindCode = 5 := by
          omega
        · rw [h1 hc, hc]; rfl
        · rw [h2 hc, hc]; rfl
        · rw [h3 hc, hc]; rfl
        · rw [h4 hc, hc]; rfl
        · rw [h5 hc, hc]; rfl
      have hget : (fieldParams p.kindCode).getD p.paramIndex (1, 0, 255) = (n, low, high) := by
        rw [hrows, List.getD_eq_getElem?_getD, hrow]
        rfl
      refine Pass.judges_of_number (g := within low high) (next' := fun _ => (p.advance n .param).endParam)
        (fun _ _ => by rw [Pass.step, h]; dsimp only; rw [hget]) (fun v => within_iff ..) fun _ _ => ?_
      rw [Pass.endParam, hfield, ← hrows]
      rfl
    · exact Pass.judges_of_number (fun _ _ => by rw [Pass.step, h]) (fun v => within_iff ..) fun _ _ => rfl
    · exact Pass.judges_of_number (fun _ _ => by rw [Pass.step, h]) (fun v => within_iff ..) fun _ _ => rfl
    · have hstep : ∀ bodyLen avail, p.step bodyLen avail = p.sourcePart bodyLen avail := fun _ _ => by rw [Pass.step, h]
      refine Pass.judgesList_of_step (g := fun v => within 1 64 v && decide (p.fixedTotal + v ≤ 64)) (e := textCode)
        (next' := fun v => Pass.endPart { p with offset := p.offset + 1 + v, fixedTotal := p.fixedTotal + v })
        (fun bodyLen avail => ?_) (fun v => by simp [within_iff, and_assoc]) (fun b => within_iff ..) fun v => ?_
      · rw [hstep, Pass.sourcePart]
        exact congrArg _ (if_pos hc)
      · rw [hpart, hfield, Pass.endPart]
        dsimp only
        split <;> rfl
    · have hstep : ∀ bodyLen avail, p.step bodyLen avail = p.sourcePart bodyLen avail := fun _ _ => by rw [Pass.step, h]
      refine Pass.judges_of_number (g := within 1 32) (next' := fun _ => Pass.endPart { p with offset := p.offset + 1 })
        (fun bodyLen avail => ?_) (fun v => within_iff ..) fun _ _ => ?_
      · rw [hstep, Pass.sourcePart]
        dsimp only
        rw [if_neg (by simp [hc]), if_pos hc]
        rfl
      · rw [hpart, hfield, Pass.endPart]
        dsimp only
        split <;> rfl
    · have hstep : ∀ bodyLen avail, p.step bodyLen avail = p.sourcePart bodyLen avail := fun _ _ => by rw [Pass.step, h]
      refine Pass.judges_of_number (g := within 1 64) (next' := fun _ => Pass.endPart { p with offset := p.offset + 1 })
        (fun bodyLen avail => ?_) (fun v => within_iff ..) fun _ _ => ?_
      · rw [hstep, Pass.sourcePart]
        dsimp only
        rw [if_neg (by simp [hc]), if_neg (by simp [hc])]
        rfl
      · rw [hpart, hfield, Pass.endPart]
        dsimp only
        split <;> rfl
  · obtain rfl : past = p.advance := funext fun n => funext fun item => hpast n item
    refine ⟨fun h => ?_, fun h => ?_, fun bodyLen v avail h hv => ?_, fun h => ?_, fun h => ?_, fun h => ?_, fun h => ?_, fun h => ?_,
      fun h => ?_, fun h => ?_, fun h => ?_, fun h => ?_, fun h => ?_, fun h => ?_, fun h => ?_, fun h => ?_,
      fun bodyLen avail h => ?_⟩
    · exact Pass.judges_of_number (fun _ _ => by rw [Pass.step, h]) (fun v => (within_iff ..).trans (by omega)) fun _ _ => rfl
    · exact Pass.judges_of_number (fun _ _ => by rw [Pass.step, h]) (fun v => within_iff ..) fun _ _ => rfl
    · have hstep : p.step bodyLen avail = p.need bodyLen avail 1
          (if (within 0 3 v && !parityOk v p.perCharCount) = true then .fault (p.offset - 1)
            else p.judge (within 0 3 v && (p.modelCode == 1 || v == 0)) { p.advance 1 .minLength with gapCount := v }) := by
        rw [Pass.step, h, hv]
      have hparity : even v p.perCharCount ↔ parityOk v p.perCharCount = true := by rw [heven, parityOk_iff]
      have hrange : within 0 3 v = true ↔ v ≤ 3 := by simp [within_iff]
      rw [hstep, hparity]
      simp only [Pass.need, Pass.judge]
      refine ⟨fun h1 => if_pos h1, fun h1 h2 => (if_neg (Nat.not_lt.mpr h1)).trans (if_pos (by simp [h2])), fun h1 h2 => ?_⟩
      have hlen : 1 ≤ avail.length := List.length_pos_iff.mpr h2
      rw [if_neg (Nat.not_lt.mpr h1), if_neg (Nat.not_lt.mpr hlen)]
      refine ⟨fun h3 h4 => if_pos (by simp [hrange.mpr h3, h4]), fun h3 => ?_, fun h3 h4 => ⟨fun h5 h6 => ?_, fun h5 => ?_⟩⟩
      · have hno : within 0 3 v = false := by rw [← Bool.not_eq_true, hrange]; omega
        rw [hno]
        rfl
      · rw [if_neg (by simp [h4])]
        exact if_neg (by simp [h5, h6])
      · rw [if_neg (by simp [h4])]
        exact if_pos (by simpa [hrange.mpr h3] using h5)
    · exact Pass.judges_of_number (fun _ _ => by rw [Pass.step, h]) (fun v => within_iff ..) fun _ _ => rfl
    · exact Pass.judges_of_number (fun _ _ => by rw [Pass.step, h]) (fun v => within_iff ..) fun _ _ => rfl
    · refine Pass.judges_of_number (g := within 0 2) (next' := fun v => { p.advance 1 .modulus with rule := checkRuleOf v })
        (fun _ _ => by rw [Pass.step, h]) (fun v => by simp [within_iff]) fun v hv => ?_
      have hrule : checkRuleOf v = if v = 0 then .none else if v = 1 then .rightWeighted else .leftPositional := by
        obtain rfl | rfl | rfl : v = 0 ∨ v = 1 ∨ v = 2 := by omega
        · rfl
        · rfl
        · rfl
      simp only [hrule]
    · exact Pass.judges_of_number (fun _ _ => by rw [Pass.step, h]) (fun v => by simp [within_iff]) fun _ _ => rfl
    · exact Pass.judges_of_number (fun _ _ => by rw [Pass.step, h]) (fun v => by simp [within_iff, imp_iff_not_or]) fun _ _ => rfl
    · exact Pass.judges_of_number (fun _ _ => by rw [Pass.step, h]) (fun v => by simp [within_iff, imp_iff_not_or]) fun _ _ => rfl
    · exact Pass.judges_of_number (fun _ _ => by rw [Pass.step, h]) (fun v => by simp [imp_iff_not_or]) fun _ _ => rfl
    · exact Pass.judges_of_number (fun _ _ => by rw [Pass.step, h]) (fun v => by simp [within_iff]) fun _ _ => rfl
    · refine Pass.judgesList_of_step (g := fun v => within 1 16 v && (!true || parityOk p.gapCount v))
        (e := elementOk p.modelCode) (next' := fun v => p.advance (1 + v) .stopPattern)
        (fun bodyLen avail => by rw [Pass.step, h]; rfl) (fun v => ?_) (fun b => (elementOk_iff ..).trans (helement b).symm)
        fun _ => rfl
      rw [heven, ← parityOk_iff]
      simp [within_iff, and_assoc]
    · refine Pass.judgesList_of_step (g := fun v => within 1 16 v && (!false || parityOk p.gapCount v))
        (e := elementOk p.modelCode) (next' := fun v => p.advance (1 + v) .entryCount)
        (fun bodyLen avail => by rw [Pass.step, h]; rfl) (fun v => ?_) (fun b => (elementOk_iff ..).trans (helement b).symm)
        fun _ => rfl
      simp [within_iff]
    · exact Pass.judges_of_number (fun _ _ => by rw [Pass.step, h]) (fun v => by simp [within_iff, and_assoc]) fun _ _ => rfl
    · exact Pass.judges_of_number (fun _ _ => by rw [Pass.step, h]) (fun v => by simp [within_iff, and_assoc]) fun _ _ => rfl
    · refine Pass.judges_of_number (fun _ _ => by rw [Pass.step, h]) (fun v => ?_) fun _ _ => rfl
      by_cases hrule : p.rule = .none <;> simp [hrule]
    · have hstep : p.step bodyLen avail = p.need bodyLen avail p.perCharCount
          (p.judge ((avail.take p.perCharCount).all (elementOk p.modelCode))
            { p.advance p.perCharCount (if p.entriesLeft ≤ 1 then .finish else .entryCode) with
              entriesLeft := p.entriesLeft - 1 }) := by rw [Pass.step, h]
      have hall : (avail.take p.perCharCount).all (elementOk p.modelCode) = true
          ↔ ∀ b ∈ avail.take p.perCharCount, element b := by
        rw [List.all_eq_true]
        exact forall₂_congr fun b _ => (elementOk_iff ..).trans (helement b).symm
      rw [hstep]
      simp only [Pass.need, Pass.judge]
      refine ⟨fun h1 => if_pos h1, fun h1 h2 => (if_neg (Nat.not_lt.mpr h1)).trans (if_pos h2), fun h1 h2 => ?_⟩
      rw [if_neg (Nat.not_lt.mpr h1), if_neg (Nat.not_lt.mpr h2)]
      exact ⟨fun ⟨b, hb, hbad⟩ => if_neg fun hgood => hbad (hall.mp hgood b hb), fun hgood => if_pos (hall.mpr hgood)⟩

end Sys2Proof.Machine
end


section
/-! SUPPORT. The dots of a label: fields turned, placed and combined, frames, characters and glyphs (section 6.3). -/

set_option Elab.async false

namespace Sys2Proof.Machine

/-! ### Fields in list order (R129) -/

theorem labelDot_append_singleton (fields : List Placed) (p : Placed) (x y : Nat) :
    labelDot (fields ++ [p]) x y = if p.dot x y then (match p.mode with
      | .set => true
      | .invert => !labelDot fields x y) else labelDot fields x y := by
  unfold labelDot
  rw [List.foldl_append]
  rfl

/-! ### Turning and placing (Table 6-2) -/

/-- The frame column and row that a label column and line show, of a frame of a width and a height. -/
def Placed.unturned (p : Placed) (w h x y : Int) : Int × Int :=
  if p.rotation = 0 then (x - p.x, y - p.y)
  else if p.rotation = 1 then (y - p.y, h - 1 - (x - p.x))
  else if p.rotation = 2 then (w - 1 - (x - p.x), h - 1 - (y - p.y))
  else (w - 1 - (y - p.y), x - p.x)

theorem Placed.frameDot_eq_some {p : Placed} {w h : Nat} (hsize : p.frame.size = (w, h)) (x y : Int) (u v : Nat) :
    p.frameDot x y = some (u, v) ↔ u < w ∧ v < h ∧ p.unturned w h x y = ((u : Int), (v : Int)) := by
  have hdef : p.frameDot x y = if 0 ≤ (p.unturned w h x y).1 ∧ (p.unturned w h x y).1 < w
      ∧ 0 ≤ (p.unturned w h x y).2 ∧ (p.unturned w h x y).2 < h then
        some ((p.unturned w h x y).1.toNat, (p.unturned w h x y).2.toNat) else none := by
    unfold Placed.frameDot Placed.unturned
    rw [hsize]
  rw [hdef]
  obtain ⟨a, b⟩ := p.unturned w h x y
  by_cases hin : 0 ≤ a ∧ a < w ∧ 0 ≤ b ∧ b < h
  · rw [if_pos hin]
    simp only [Option.some.injEq, Prod.mk.injEq]
    omega
  · rw [if_neg hin]
    simp only [reduceCtorEq, Prod.mk.injEq, false_iff]
    omega

theorem Placed.dot_iff (p : Placed) (x y : Nat) :
    p.dot x y = true ↔ ∃ u v : Nat, p.frameDot x y = some (u, v) ∧ p.frame.dot u v = true := by
  unfold Placed.dot
  cases p.frameDot x y with
  | none => simp
  | some uv => simp [Prod.ext_iff]

theorem Placed.unturned_eq_iff {p : Placed} (hrot : p.rotation ≤ 3) (w h x y u v : Int) :
    p.unturned w h x y = (u, v) ↔ (x, y) =
      match p.rotation with
      | 0 => (p.x + u, p.y + v)
      | 1 => (p.x + (h - 1 - v), p.y + u)
      | 2 => (p.x + (w - 1 - u), p.y + (h - 1 - v))
      | _ => (p.x + v, p.y + (w - 1 - u)) := by
  unfold Placed.unturned
  obtain h0 | h1 | h2 | h3 : p.rotation = 0 ∨ p.rotation = 1 ∨ p.rotation = 2 ∨ p.rotation = 3 := by omega
  · simp only [h0, if_true, Prod.mk.injEq]
    omega
  · simp only [h1, if_true, Prod.mk.injEq, one_ne_zero, if_false]
    omega
  · simp only [h2, if_true, Prod.mk.injEq, OfNat.ofNat_ne_zero, OfNat.ofNat_ne_one, if_false]
    omega
  · simp only [h3, Prod.mk.injEq, OfNat.ofNat_ne_zero, OfNat.ofNat_ne_one, if_false,
      show ¬ (3 : Nat) = 2 by decide]
    omega

/-! ### Characters and their cells (R31, R38, R75) -/

theorem shownCode_of_shown {code : Nat} (h : 32 ≤ code ∧ code ≤ 126) : shownCode code = code :=
  if_pos ((within_iff _ _ _).mpr h)

theorem shownCode_of_not {code : Nat} (h : code < 32 ∨ 126 < code) : shownCode code = 63 :=
  if_neg fun hw => by have := (within_iff _ _ _).mp hw; omega

/-- A character's cell shows nothing but the code it is shown as. -/
theorem cellDot_congr {font code code' : Nat} (h : shownCode code = shownCode code') (col row : Nat) :
    cellDot font code col row = cellDot font code' col row := by
  unfold cellDot
  rw [h]

theorem cellDot_space (font col row : Nat) : cellDot font 32 col row = false := by
  have hshown : shownCode 32 = 32 := shownCode_of_shown ⟨le_rfl, by decide⟩
  unfold cellDot
  exact if_pos hshown

theorem cellDot_margin {font code col row : Nat} (h : col < (fontSize font).offsetX
      ∨ (fontSize font).offsetX + (fontSize font).glyphX ≤ col ∨ row < (fontSize font).offsetY
      ∨ (fontSize font).offsetY + (fontSize font).glyphY ≤ row) : cellDot font code col row = false := by
  unfold cellDot
  dsimp only
  rw [if_neg (c := (fontSize font).offsetX ≤ col ∧ _) (by omega), ite_self]

theorem cellDot_glyph {font code col row : Nat} (hcode : 32 < code) (hcode' : code ≤ 126)
    (hcol : (fontSize font).offsetX ≤ col) (hcol' : col < (fontSize font).offsetX + (fontSize font).glyphX)
    (hrow : (fontSize font).offsetY ≤ row) (hrow' : row < (fontSize font).offsetY + (fontSize font).glyphY) :
    cellDot font code col row
      = Config.glyphDot font code (col - (fontSize font).offsetX) (row - (fontSize font).offsetY) := by
  have hshown : shownCode code = code := shownCode_of_shown ⟨hcode.le, hcode'⟩
  unfold cellDot
  dsimp only
  rw [hshown, if_neg hcode.ne', if_pos ⟨hcol, hcol', hrow, hrow'⟩]

theorem counterText_succ (value width : Nat) (a : Alphabet) :
    counterText value (width + 1) a
      = counterText (value / alphabetBase a) width a ++ [digitChar (value % alphabetBase a)] := by
  unfold counterText
  rw [List.range_succ, List.map_append, List.map_singleton]
  congr 1
  · refine List.map_congr_left fun i hi => ?_
    have hlt : i < width := List.mem_range.mp hi
    have hpow : width + 1 - 1 - i = width - 1 - i + 1 := by omega
    rw [hpow, Nat.pow_succ', Nat.div_div_eq_div_mul]
  · simp

theorem digitChar_eq (digit : Nat) : digitChar digit = if digit < 10 then 48 + digit else 65 + (digit - 10) := by
  unfold digitChar
  split
  · rfl
  · omega

/-! ### The frames (R131 to R133, R135) -/

theorem Frame.box_dot_iff (w h t u v : Nat) : (Frame.box w h t).dot u v = true ↔
    u < t ∨ v < t ∨ (w : Int) - t ≤ u ∨ (h : Int) - t ≤ v := by
  unfold Frame.dot
  rw [decide_eq_true_iff]
  omega

theorem textFrame_size (font hMag vMag most : Nat) (chars : List Nat) :
    (textFrame font hMag vMag most chars).size
      = (if most = 0 then chars.length * (fontSize font).cellX * hMag
          else min (chars.length * (fontSize font).cellX * hMag) most, (fontSize font).cellY * vMag) := rfl

theorem Frame.barcode_dot_bars {bars : List (Nat × Nat)} {barHeight left right w h u v : Nat} {chars : List Nat}
    (hv : v < barHeight) : (Frame.barcode bars barHeight left right chars w h).dot u v = true ↔
      ∃ bar ∈ bars, bar.1 ≤ u ∧ u < bar.1 + bar.2 := by
  rw [Frame.dot, if_pos hv, List.any_eq_true]
  simp only [decide_eq_true_eq]

theorem Frame.barcode_dot_text {bars : List (Nat × Nat)} {barHeight left right w h u v : Nat} {chars : List Nat}
    (hv : barHeight ≤ v) : (Frame.barcode bars barHeight left right chars w h).dot u v
      = (decide (left ≤ u ∧ u < right) && textDot 1 1 1 chars (u - left) (v - barHeight)) := by
  rw [Frame.dot, if_neg (by omega)]

theorem textDot_small (chars : List Nat) (u v : Nat) : textDot 1 1 1 chars u v =
    match chars[u / 6]? with
    | some c => cellDot 1 c (u % 6) v
    | none => false := by
  have hwide : (fontSize 1).cellX * 1 = 6 := rfl
  unfold textDot
  simp only [hwide, Nat.div_one] <;> rfl

/-! ### A band of a ticket (R128, R129) -/

theorem State.ticketData_eq {s : State} {t : Ticket} {d : LabelData}
    (h : (∃ tag job, t.key.source = some tag ∧ s.queue.job tag = some job
        ∧ d = { refs := job.entries, slots := job.items.slots, shiftX := job.items.shiftX, shiftY := job.items.shiftY
                values := t.values })
      ∨ (∃ l, t.key.source = none ∧ s.queue.last = some l
        ∧ d = { refs := l.entries, slots := l.slots, shiftX := l.shiftX, shiftY := l.shiftY, values := t.values })) :
    s.ticketData t = d := by
  unfold State.ticketData
  obtain ⟨tag, job, hsource, hjob, rfl⟩ | ⟨l, hsource, hlast, rfl⟩ := h
  · simp only [hsource, hjob]
  · simp only [hsource, hlast]

theorem State.drawBand_getD {s : State} {t : Ticket} {d : LabelData} (hd : s.ticketData t = d) {band j : Nat}
    (hj : j < min 64 (t.length.getD 0 - 64 * band)) :
    (s.drawBand t band).getD j [] = (List.range 832).map fun x =>
      decide (x < (s.boundFormat d.refs).width)
        && labelDot ((s.boundFormat d.refs).fields.map (s.placeField d)) x (64 * band + j) := by
  unfold State.drawBand
  rw [hd]
  exact bandDots_getD hj

/-- Settles O43. -/
theorem fieldsAreDrawnInListOrder : Obligations.FieldsAreDrawnInListOrder := by
  unfold Obligations.FieldsAreDrawnInListOrder
  refine ⟨?band, ?combine, ?turn, ?frames, ?source, ?counter, ?image, ?glyph, ?barcode⟩
  case band =>
    rintro s t d band j x width fields hd rfl rfl hj hx
    rw [State.drawBand_getD (State.ticketData_eq hd) hj]
    refine ⟨by simp, ?_⟩
    rw [List.getD_eq_getElem _ _ (by simpa using hx)]
    simp
  case combine =>
    intro fields p x y
    rw [labelDot_append_singleton]
    refine ⟨rfl, fun hoff => by simp [hoff], fun hon hset => by simp [hon, hset], fun hon hinv => by simp [hon, hinv]⟩
  case turn =>
    intro p x y w h hsize hrot
    rw [Placed.dot_iff]
    refine exists_congr fun u => exists_congr fun v => ?_
    rw [Placed.frameDot_eq_some hsize, Placed.unturned_eq_iff hrot, and_assoc, and_assoc]
    exact and_congr_right fun _ => and_congr_right fun _ => and_comm
  case frames =>
    rintro s d f p rfl
    refine ⟨rfl, rfl, rfl, rfl, ?_, ?_, ?_, ?_⟩
    · rintro font across along most src chars cells hkind rfl rfl
      have hframe : (s.placeField d f).frame = textFrame font across along most (sourceText d.slots d.values src) := by
        simp only [State.placeField, State.fieldFrame, hkind]
      rw [hframe]
      exact ⟨textFrame_size _ _ _ _ _, fun u v => rfl⟩
    · intro w h t hkind
      have hframe : (s.placeField d f).frame = .box w h t := by simp only [State.placeField, State.fieldFrame, hkind]
      rw [hframe]
      exact ⟨rfl, fun u v => Frame.box_dot_iff w h t u v⟩
    · intro length t hkind
      have hframe : (s.placeField d f).frame = .line length t := by simp only [State.placeField, State.fieldFrame, hkind]
      rw [hframe]
      exact ⟨rfl, fun u v => rfl⟩
    · rintro n k i hkind rfl
      have hframe : (s.placeField d f).frame = .image (parseImage (s.boundBody d.refs .image n)) k := by
        simp only [State.placeField, State.fieldFrame, hkind]
      rw [hframe]
      exact ⟨rfl, fun u v => rfl⟩
  case source =>
    intro slots values src
    unfold sourceText
    refine congrArg (List.take 64) (List.flatMap_congr fun p _ => ?_)
    cases p with
    | fixed text => rfl
    | slot n => rfl
    | counter id => rfl
  case counter =>
    rintro value width digit a base rfl rfl
    have hbase : alphabetBase a = if a = .decimal then 10 else 36 := by cases a <;> rfl
    rw [counterText_succ, digitChar_eq, hbase]
    exact ⟨rfl, rfl⟩
  case image =>
    rintro i col row b rfl
    rfl
  case glyph =>
    rintro font code col row f rfl hfont
    refine ⟨?_, cellDot_margin, cellDot_space font col row,
      fun hcode => cellDot_congr ((shownCode_of_not hcode).trans (shownCode_of_shown (by decide)).symm) col row,
      cellDot_glyph⟩
    obtain rfl | rfl | rfl | rfl := hfont <;> rfl
  case barcode =>
    rintro bars barHeight left right w h u v chars frame rfl
    refine ⟨rfl, Frame.barcode_dot_bars, fun hv hout => ?_, fun hv hleft hright => ?_⟩
    · rw [Frame.barcode_dot_text hv, decide_eq_false (by omega), Bool.false_and]
    · rw [Frame.barcode_dot_text hv, decide_eq_true ⟨hleft, hright⟩, Bool.true_and]
      exact textDot_small _ _ _

end Sys2Proof.Machine
end


section
/-! SUPPORT. A barcode laid out from its symbol table: check value, patterns, bars and frame (section 6.4). -/

set_option Elab.async false

namespace Sys2Proof.Machine

/-! ### The check value (R137) -/

theorem SymbolTable.dataValues_getElem? {t : SymbolTable} {data : List Nat} {i c : Nat} {e : TableEntry}
    (hc : data[i]? = some c) (he : t.byCode c = some e) : (t.dataValues data)[i]? = some e.value := by
  rw [SymbolTable.dataValues, List.getElem?_map, hc, Option.map_some, he]

/-- Weights change places where the counting begins one position further on. -/
theorem sum_weights_zipIdx_succ (wA wB : Nat) (l : List Nat) (n : Nat) :
    ((l.zipIdx (n + 1)).map fun (v, i) => v * (if i % 2 = 0 then wA else wB)).sum
      = ((l.zipIdx n).map fun (v, i) => v * (if i % 2 = 0 then wB else wA)).sum := by
  induction l generalizing n with
  | nil => rfl
  | cons v vs ih =>
    simp only [List.zipIdx_cons, List.map_cons, List.sum_cons, ih]
    congr 2
    by_cases heven : n % 2 = 0
    · rw [if_pos heven, if_neg (by omega)]
    · rw [if_neg heven, if_pos (by omega)]

theorem rightWeighted_append_singleton (wA wB : Nat) (values : List Nat) (v : Nat) :
    rightWeighted wA wB (values ++ [v]) = v * wA + rightWeighted wB wA values := by
  unfold rightWeighted
  rw [List.reverse_append, List.reverse_singleton, List.singleton_append, List.zipIdx_cons, List.map_cons,
    List.sum_cons, sum_weights_zipIdx_succ]
  rfl

theorem leftPositional_append_singleton (k0 : Nat) (values : List Nat) (v : Nat) :
    leftPositional k0 (values ++ [v]) = leftPositional k0 values + v * (values.length + 1) := by
  unfold leftPositional
  rw [List.zipIdx_append, List.map_append, List.sum_append, Nat.add_assoc]
  simp

/-- What is added to bring a sum to a multiple of the modulus. -/
theorem complement_mod {modulus : Nat} (h : 0 < modulus) (sum : Nat) :
    (modulus - sum % modulus) % modulus < modulus ∧ ((modulus - sum % modulus) % modulus + sum) % modulus = 0 := by
  refine ⟨Nat.mod_lt _ h, ?_⟩
  have hle : sum % modulus ≤ modulus := (Nat.mod_lt sum h).le
  rw [Nat.mod_add_mod, ← Nat.add_mod_mod, Nat.sub_add_cancel hle, Nat.mod_self]

theorem SymbolTable.checkEntry_of_checkValue {t : SymbolTable} {data : List Nat} {v : Nat} {e : TableEntry}
    (hv : t.checkValue data = some v) (he : t.byValue v = some e) : t.checkEntry data = some e := by
  rw [SymbolTable.checkEntry, hv]
  exact he

theorem SymbolTable.checkEntry_of_none {t : SymbolTable} (h : t.rule = .none) (data : List Nat) :
    t.checkEntry data = none := by
  rw [SymbolTable.checkEntry, SymbolTable.checkValue, h]

/-! ### The patterns of a symbol (R135) -/

theorem SymbolTable.patterns_eq (t : SymbolTable) (data : List Nat) : t.patterns data =
    t.start :: (data.map (fun c => ((t.byCode c).map TableEntry.elements).getD [])
      ++ ((t.checkEntry data).map TableEntry.elements).toList ++ [t.stop]) := by
  have hcodes : data.map (fun c => match t.byCode c with
      | some e => e.elements
      | none => []) = data.map (fun c => ((t.byCode c).map TableEntry.elements).getD []) :=
    List.map_congr_left fun c _ => by cases t.byCode c <;> rfl
  have hcheck : (match t.checkEntry data with
      | some e => [e.elements]
      | none => []) = ((t.checkEntry data).map TableEntry.elements).toList := by cases t.checkEntry data <;> rfl
  exact congrArg₂ (fun codes check => t.start :: (codes ++ check ++ [t.stop])) hcodes hcheck

theorem SymbolTable.patterns_getElem?_data {t : SymbolTable} {data : List Nat} {i c : Nat} {e : TableEntry}
    (hc : data[i]? = some c) (he : t.byCode c = some e) : (t.patterns data)[i + 1]? = some e.elements := by
  have hi : i < data.length := (List.getElem?_eq_some_iff.mp hc).1
  rw [SymbolTable.patterns_eq, List.getElem?_cons_succ, List.append_assoc, List.getElem?_append_left (by simpa using hi),
    List.getElem?_map, hc, Option.map_some, he]
  rfl

/-! ### The bars of a symbol (R135, R136) -/

theorem patternWidth_cons (model m ratio e : Nat) (es : List Nat) :
    patternWidth model m ratio (e :: es) = elementWidth model m ratio e + patternWidth model m ratio es := by
  rw [patternWidth, List.map_cons, List.sum_cons]
  rfl

theorem patternBars_cons (model m ratio reduction : Nat) (bar : Bool) (left e : Nat) (es : List Nat) :
    patternBars model m ratio reduction bar left (e :: es)
      = (if bar then [(left, elementWidth model m ratio e - reduction)] else [])
        ++ patternBars model m ratio reduction (!bar) (left + elementWidth model m ratio e) es := by
  rw [patternBars]
  cases bar <;> rfl

/-- An element added at the end of a pattern is a bar where it stands at an even place after a bar, at an odd one
after a space. -/
theorem patternBars_append_singleton (model m ratio reduction : Nat) (bar : Bool) (left element : Nat)
    (elements : List Nat) :
    patternBars model m ratio reduction bar left (elements ++ [element])
      = patternBars model m ratio reduction bar left elements
        ++ (if decide (elements.length % 2 = 0) = bar then
              [(left + patternWidth model m ratio elements, elementWidth model m ratio element - reduction)]
            else []) := by
  induction elements generalizing bar left with
  | nil => cases bar <;> rfl
  | cons e es ih =>
    have hplace : (decide (es.length % 2 = 0) = !bar) ↔ decide ((e :: es).length % 2 = 0) = bar := by
      rw [List.length_cons]
      cases bar <;> simp <;> omega
    rw [List.cons_append, patternBars_cons, patternBars_cons, ih, List.append_assoc, patternWidth_cons, ← Nat.add_assoc,
      if_congr hplace rfl rfl]

theorem symbolBars_append_singleton (model m ratio reduction gap left : Nat) (pattern : List Nat)
    (patterns : List (List Nat)) :
    symbolBars model m ratio reduction gap left (patterns ++ [pattern])
      = symbolBars model m ratio reduction gap left patterns
        ++ patternBars model m ratio reduction true
            (left + (patterns.map (patternWidth model m ratio)).sum + patterns.length * gap) pattern := by
  induction patterns generalizing left with
  | nil => simp [symbolBars]
  | cons p ps ih =>
    have hleft : left + patternWidth model m ratio p + gap + (ps.map (patternWidth model m ratio)).sum + ps.length * gap
        = left + ((p :: ps).map (patternWidth model m ratio)).sum + (p :: ps).length * gap := by
      simp only [List.map_cons, List.sum_cons, List.length_cons]
      ring
    rw [List.cons_append, symbolBars, symbolBars, ih, hleft, List.append_assoc]

theorem le_elementWidth {m e : Nat} (he : 1 ≤ e) (model ratio : Nat) : m ≤ elementWidth model m ratio e := by
  unfold elementWidth
  split
  · split <;> omega
  · exact Nat.le_mul_of_pos_left m he

/-- A bar narrowed by less than the narrow width keeps a dot and stays where its element stood. -/
theorem patternBars_bounds {model m ratio reduction : Nat} (hred : reduction < m) {bar : Bool} {left : Nat}
    {elements : List Nat} (hpos : ∀ e ∈ elements, 1 ≤ e) :
    ∀ b ∈ patternBars model m ratio reduction bar left elements,
      1 ≤ b.2 ∧ left ≤ b.1 ∧ b.1 + b.2 ≤ left + patternWidth model m ratio elements := by
  induction elements generalizing bar left with
  | nil => exact fun b hb => absurd hb (List.not_mem_nil)
  | cons e es ih =>
    intro b hb
    have hwide : m ≤ elementWidth model m ratio e := le_elementWidth (hpos e List.mem_cons_self) model ratio
    rw [patternBars_cons, List.mem_append] at hb
    rw [patternWidth_cons]
    obtain hfirst | hrest := hb
    · have hb : b = (left, elementWidth model m ratio e - reduction) := by
        cases bar
        · exact absurd hfirst List.not_mem_nil
        · exact List.mem_singleton.mp hfirst
      subst hb
      dsimp only
      omega
    · obtain ⟨hdot, hleft, hright⟩ := ih (fun e he => hpos e (List.mem_cons_of_mem _ he)) b hrest
      omega

theorem symbolWidth_cons_cons (gap w w' : Nat) (ws : List Nat) :
    symbolWidth gap (w :: w' :: ws) = w + gap + symbolWidth gap (w' :: ws) := by
  simp only [symbolWidth, List.sum_cons, List.length_cons, Nat.add_sub_cancel]
  ring

theorem symbolBars_bounds {model m ratio reduction gap left : Nat} (hred : reduction < m) {patterns : List (List Nat)}
    (hpos : ∀ p ∈ patterns, ∀ e ∈ p, 1 ≤ e) :
    ∀ b ∈ symbolBars model m ratio reduction gap left patterns,
      1 ≤ b.2 ∧ left ≤ b.1 ∧ b.1 + b.2 ≤ left + symbolWidth gap (patterns.map (patternWidth model m ratio)) := by
  induction patterns generalizing left with
  | nil => exact fun b hb => absurd hb (List.not_mem_nil)
  | cons p ps ih =>
    intro b hb
    rw [symbolBars, List.mem_append] at hb
    obtain hfirst | hrest := hb
    · obtain ⟨hdot, hleft, hright⟩ := patternBars_bounds hred (hpos p List.mem_cons_self) b hfirst
      have hsum : patternWidth model m ratio p ≤ symbolWidth gap ((p :: ps).map (patternWidth model m ratio)) := by
        simp only [symbolWidth, List.map_cons, List.sum_cons]
        omega
      omega
    · obtain ⟨hdot, hleft, hright⟩ := ih (fun q hq => hpos q (List.mem_cons_of_mem _ hq)) b hrest
      cases ps with
      | nil => exact absurd hrest List.not_mem_nil
      | cons q qs =>
        rw [List.map_cons, List.map_cons, symbolWidth_cons_cons]
        rw [List.map_cons] at hright
        omega

/-! ### The symbol drawn and the one checked at binding (R99) -/

theorem symbolWidth_mono {gap : Nat} {ws ws' : List Nat} (hsum : ws.sum ≤ ws'.sum) (hlen : ws.length ≤ ws'.length) :
    symbolWidth gap ws ≤ symbolWidth gap ws' :=
  Nat.add_le_add hsum (Nat.mul_le_mul_right gap (Nat.sub_le_sub_right hlen 1))

/-- A character drawn is no wider than the width assumed for its position. -/
theorem SymbolTable.width_le_assumedWidth (t : SymbolTable) (m ratio : Nat) {c : Nat} {p : CanProduce}
    (h : p = .known c ∨ ∃ a, p = .any a ∧ c ∈ alphabetChars a) :
    patternWidth t.model m ratio (((t.byCode c).map TableEntry.elements).getD []) ≤ t.assumedWidth m ratio p := by
  cases he : t.byCode c with
  | none => exact Nat.zero_le _
  | some e =>
    obtain rfl | ⟨a, rfl, hc⟩ := h
    · exact (SymbolTable.assumedWidth_known he m ratio).ge
    · exact (SymbolTable.assumedWidth_any hc he m ratio).1

theorem SymbolTable.checkWidths_le (t : SymbolTable) (m ratio : Nat) (data : List Nat) :
    ((((t.checkEntry data).map TableEntry.elements).toList.map (patternWidth t.model m ratio)).sum
        ≤ (if t.rule = .none then [] else [widest t.model m ratio t.entries]).sum)
      ∧ ((t.checkEntry data).map TableEntry.elements).toList.length
        ≤ (if t.rule = .none then [] else [widest t.model m ratio t.entries]).length := by
  by_cases hrule : t.rule = .none
  · rw [if_pos hrule, SymbolTable.checkEntry_of_none hrule]
    exact ⟨le_rfl, le_rfl⟩
  · rw [if_neg hrule]
    cases he : t.checkEntry data with
    | none => exact ⟨Nat.zero_le _, Nat.zero_le _⟩
    | some e =>
      have hmem : e ∈ t.entries := by
        unfold SymbolTable.checkEntry at he
        split at he
        · exact List.mem_of_find?_eq_some he
        · cases he
      have hle := (widest_isGreatest t.model m ratio hmem).1
      simpa using hle

/-- A text wider than its symbol begins where the symbol does. -/
theorem centred_eq (left symbol text : Nat) :
    (if text ≤ symbol then left + (symbol - text) / 2 else left) = left + (symbol - text) / 2 := by
  split
  · rfl
  · omega

/-- Settles O44. -/
theorem barcodeIsLaidOutFromItsTable : Obligations.BarcodeIsLaidOutFromItsTable := by
  unfold Obligations.BarcodeIsLaidOutFromItsTable
  refine ⟨?elements, ?check, ?weights, ?patterns, ?bars, ?bounds, ?width, ?frame, ?text⟩
  case elements =>
    intro m ratio element
    refine ⟨fun h => ?_, ?_, fun model h => ?_⟩
    · rw [elementWidth, if_pos rfl, if_neg h]
    · rw [elementWidth, if_pos rfl, if_pos rfl]
    · rw [elementWidth, if_neg h]
  case check =>
    rintro t data values rfl
    refine ⟨fun i c e hc he => SymbolTable.dataValues_getElem? hc he, fun h => ?_, fun h hpos => ?_, fun h => ?_⟩
    · rw [SymbolTable.checkValue, h]
    · obtain ⟨hlt, hmod⟩ := complement_mod hpos (rightWeighted t.weightA t.weightB (t.dataValues data))
      exact ⟨_, by rw [SymbolTable.checkValue, h], hlt, hmod⟩
    · rw [SymbolTable.checkValue, h]
  case weights =>
    intro wA wB k0 v values
    exact ⟨rfl, rfl, rightWeighted_append_singleton wA wB values v, leftPositional_append_singleton k0 values v⟩
  case patterns =>
    intro t data
    refine ⟨rfl, ?_, fun i c e hc he => SymbolTable.patterns_getElem?_data hc he, fun h => ?_, fun v e hv he => ?_⟩
    · rw [SymbolTable.patterns_eq, ← List.cons_append, List.getLast?_append, List.getLast?_singleton]
      rfl
    · rw [SymbolTable.patterns_eq, SymbolTable.checkEntry_of_none h]
      simp
    · rw [SymbolTable.patterns_eq, SymbolTable.checkEntry_of_checkValue hv he]
      refine ⟨by simp, ?_⟩
      rw [List.getElem?_cons_succ, List.append_assoc, List.getElem?_append_right (by simp)]
      simp
  case bars =>
    intro model m ratio reduction gap left element elements pattern patterns
    refine ⟨rfl, rfl, ?_, symbolBars_append_singleton ..⟩
    rw [patternBars_append_singleton, if_congr decide_eq_true_iff rfl rfl]
    rfl
  case bounds =>
    intro model m ratio reduction gap left patterns hm hpos
    exact symbolBars_bounds (by unfold clampReduction; omega) hpos
  case width =>
    intro t m ratio data can hcan
    obtain ⟨hsum, hlen⟩ := SymbolTable.checkWidths_le t m ratio data
    have hdata : ((data.map fun c => ((t.byCode c).map TableEntry.elements).getD []).map
        (patternWidth t.model m ratio)).sum ≤ (can.map (t.assumedWidth m ratio)).sum := by
      rw [List.map_map]
      refine List.Forall₂.sum_le_sum ?_
      rw [List.forall₂_map_left_iff, List.forall₂_map_right_iff]
      exact hcan.imp fun _ _ h => t.width_le_assumedWidth m ratio h
    have hcount : data.length = can.length := hcan.length_eq
    rw [SymbolTable.patterns_eq, SymbolTable.assumedWidths]
    apply symbolWidth_mono
    · simp only [List.map_cons, List.map_append, List.map_nil, List.sum_append, List.sum_cons, List.sum_nil]
      omega
    · simp only [List.length_cons, List.length_append, List.length_map, List.length_nil]
      omega
  case frame =>
    rintro s d f n m barHeight ratio reduction quiet most symbol readable src t data chars hkind rfl rfl rfl rfl
    rw [State.fieldFrame, hkind]
    unfold barcodeFrame
    dsimp only
    rw [centred_eq]
    rfl
  case text =>
    intro t data v e
    refine ⟨fun h => ?_, fun hshown hv he => ?_⟩
    · unfold SymbolTable.readableText
      obtain hrule | hshown := h
      · rw [SymbolTable.checkEntry_of_none hrule]
      · split
        · rw [if_neg (by simp [hshown])]
        · rfl
    · rw [SymbolTable.readableText, SymbolTable.checkEntry_of_checkValue hv he]
      exact if_pos hshown

end Sys2Proof.Machine
end


section
/-! SUPPORT. The store scan of start-up: its resolution, its verification and the store built from it (chapter 10). -/

set_option Elab.async false

namespace Sys2Proof.Machine

/-! ### The resolution (R196) -/

/-- Where a candidate stands among those of its kind and number: by revision, then the lower first sector. -/
def Extent.rank (e : Extent) : ℕ ×ₗ ℕᵒᵈ := toLex (e.revision, OrderDual.toDual e.firstSector)

theorem Extent.rank_lt_iff (e f : Extent) : e.rank < f.rank ↔
    e.revision < f.revision ∨ (e.revision = f.revision ∧ f.firstSector < e.firstSector) := by
  rw [Extent.rank, Extent.rank, Prod.Lex.toLex_lt_toLex, OrderDual.toDual_lt_toDual]

theorem Extent.beats_iff (e f : Extent) : e.beats f = true ↔ f.rank < e.rank := by
  rw [Extent.rank_lt_iff, Extent.beats, decide_eq_true_iff, eq_comm]

theorem Extent.loses_iff (cs : List Extent) (e : Extent) : e.loses cs = true ↔
    ∃ f ∈ cs, f.kind = e.kind ∧ f.number = e.number ∧ e.rank < f.rank := by
  simp only [Extent.loses, List.any_eq_true, Bool.and_eq_true, decide_eq_true_eq, Extent.beats_iff, and_assoc]

theorem Extent.firstSector_eq_of_rank_eq {e f : Extent} (h : e.rank = f.rank) : e.firstSector = f.firstSector :=
  OrderDual.toDual.injective (congrArg (fun r => (ofLex r).2) h)

/-- Of the candidates of a kind and number exactly one loses to no other. -/
theorem existsUnique_winner {cs : List Extent} (hdistinct : cs.Pairwise fun f g => f.firstSector ≠ g.firstSector)
    {e : Extent} (he : e ∈ cs) : ∃! f, f ∈ cs ∧ f.kind = e.kind ∧ f.number = e.number ∧ f.loses cs = false := by
  have hrivals : e ∈ (cs.filter fun f => decide (f.kind = e.kind ∧ f.number = e.number)).toFinset := by simp [he]
  obtain ⟨f, hf, hmax⟩ := Finset.exists_max_image _ Extent.rank ⟨e, hrivals⟩
  simp only [List.mem_toFinset, List.mem_filter, decide_eq_true_eq] at hf hmax
  obtain ⟨hmem, hkind, hnumber⟩ := hf
  refine ⟨f, ⟨hmem, hkind, hnumber, ?_⟩, ?_⟩
  · rw [Bool.eq_false_iff, Ne, Extent.loses_iff]
    rintro ⟨g, hg, hgk, hgn, hlt⟩
    exact absurd (hmax g ⟨hg, hgk.trans hkind, hgn.trans hnumber⟩) (not_le.mpr hlt)
  · rintro g ⟨hg, hgk, hgn, hwins⟩
    have hnot : ¬ g.rank < f.rank := fun hlt => by
      have hloses := (Extent.loses_iff cs g).mpr ⟨f, hmem, hkind.trans hgk.symm, hnumber.trans hgn.symm, hlt⟩
      rw [hwins] at hloses
      cases hloses
    have hrank : g.rank = f.rank := le_antisymm (hmax g ⟨hg, hgk, hgn⟩) (not_lt.mp hnot)
    have hnodup : (cs.map Extent.firstSector).Nodup := List.pairwise_map.mpr hdistinct
    exact List.inj_on_of_nodup_map hnodup hg hmem (Extent.firstSector_eq_of_rank_eq hrank)

/-! ### A sector erased (R197) -/

theorem inSector_iff (n a : Nat) : inSector n a = true ↔ n * 4096 ≤ a ∧ a < n * 4096 + 4096 := decide_eq_true_iff

theorem flashRead_of_sectorErased {m : Memory} {n a : Nat} (h : sectorErased m n = true) (ha : inSector n a = true) :
    flashRead m a = 0xFF := by
  induction m with
  | nil => rfl
  | cons c rest ih =>
    obtain ⟨k, v⟩ := c
    rw [sectorErased, List.all_cons, Bool.and_eq_true] at h
    obtain ⟨hfirst, hrest⟩ := h
    rw [flashRead]
    split
    case isTrue hk =>
      subst hk
      simp only [ha, Bool.not_true, Bool.false_or, decide_eq_true_eq] at hfirst
      exact hfirst
    case isFalse => exact ih hrest

/-- In canonical form a sector that reads erased has no byte listed. -/
theorem sectorErased_of_flashRead {lo n : Nat} {m : Memory} (hm : canonicalFrom lo m = true)
    (h : ∀ a, inSector n a = true → flashRead m a = 0xFF) : sectorErased m n = true := by
  induction m generalizing lo with
  | nil => rfl
  | cons c rest ih =>
    obtain ⟨k, v⟩ := c
    simp only [canonicalFrom, Bool.and_eq_true, bne_iff_ne] at hm
    obtain ⟨⟨-, hv⟩, hcanonical⟩ := hm
    have hout : inSector n k = false := by
      rw [Bool.eq_false_iff]
      intro hk
      have hread := h k hk
      rw [flashRead, if_pos rfl] at hread
      exact hv hread
    have hrest : sectorErased rest n = true := by
      refine ih hcanonical fun a ha => ?_
      have hne : k ≠ a := by
        rintro rfl
        rw [hout] at ha
        cases ha
      have hread := h a ha
      rwa [flashRead, if_neg hne] at hread
    rw [sectorErased, List.all_cons, hout]
    exact hrest

/-! ### Verification and the store built (R197) -/

theorem mem_keptSectors (kept : List Extent) (k : Nat) :
    k ∈ keptSectors kept ↔ ∃ e ∈ kept, e.firstSector ≤ k ∧ k < e.firstSector + e.extentLen := by
  simp only [keptSectors, extentSectors, List.mem_flatMap, List.mem_map, List.mem_range]
  refine exists_congr fun e => and_congr_right fun _ => ⟨?_, fun h => ⟨k - e.firstSector, by omega, by omega⟩⟩
  rintro ⟨i, hi, rfl⟩
  omega

/-- The first of some numbers in a range that is not below a first one and lies outside a list. -/
theorem find?_outside_eq_some {inside : List Nat} {m n bound : Nat} (hle : m ≤ n) (hn : n < bound) (hout : n ∉ inside)
    (hin : ∀ k, m ≤ k → k < n → k ∈ inside) :
    ((List.range bound).find? fun k => decide (m ≤ k) && !inside.contains k) = some n := by
  rw [List.find?_range_eq_some]
  refine ⟨by simp [hle, hout], List.mem_range.mpr hn, fun k hk => ?_⟩
  by_cases hmk : m ≤ k
  · simp [hin k hmk hk]
  · simp [hmk]

theorem find?_outside_eq_none {inside : List Nat} {m bound : Nat} (hin : ∀ k, m ≤ k → k < bound → k ∈ inside) :
    ((List.range bound).find? fun k => decide (m ≤ k) && !inside.contains k) = none := by
  rw [List.find?_eq_none]
  intro k hk
  have hlt : k < bound := List.mem_range.mp hk
  by_cases hmk : m ≤ k
  · simp [hin k hmk hlt]
  · simp [hmk]

theorem nextOutside_eq_some {kept : List Extent} {m n : Nat} (hle : m ≤ n) (hn : n < 2048) (hout : n ∉ keptSectors kept)
    (hin : ∀ k, m ≤ k → k < n → k ∈ keptSectors kept) : nextOutside kept m = some n :=
  find?_outside_eq_some (bound := Config.sectors) hle hn hout hin

theorem nextOutside_eq_none {kept : List Extent} {m : Nat} (hin : ∀ k, m ≤ k → k < 2048 → k ∈ keptSectors kept) :
    nextOutside kept m = none :=
  find?_outside_eq_none (bound := Config.sectors) hin

theorem firstPage_eq (n : Nat) : firstPage n = 16 * n := by
  have h : firstPage n = n * 4096 / 256 := rfl
  rw [h]
  omega

theorem State.verifyFrom_of_outside {kept : List Extent} {m n : Nat} {c : Scan} (hkept : c.kept = kept)
    (h : nextOutside kept m = some n) (v : State) :
    v.verifyFrom m c
      = v.scanned { c with wait := .verify n ((List.range 15).map fun i => 16 * n + 1 + i) } (.read (16 * n)) := by
  unfold State.verifyFrom
  rw [hkept, h]
  dsimp only
  rw [firstPage_eq]
  rfl

theorem State.verifyFrom_of_inside {m : Nat} {c : Scan} (h : nextOutside c.kept m = none) (v : State) :
    v.verifyFrom m c = State.beginEngineStep c.damaged c.duplicates { v with store := storeOf c } := by
  unfold State.verifyFrom
  rw [h]

theorem storeOf_sectorState (c : Scan) (k : Nat) : sectorState (storeOf c).sectorMap k =
    if k ∈ c.dirty then .queued else if k ∈ keptSectors c.kept then .held else .free := by
  unfold storeOf
  rw [sectorState_setSectors (by decide), sectorState_setSectors (by decide)]
  rfl

/-! ### The walk (R194 to R196) -/

theorem State.walkTo_of_lt {n : Nat} (h : n < 2048) (c : Scan) (v : State) :
    v.walkTo n c = v.scanned { c with wait := .header n } (.read (16 * n)) := by
  rw [State.walkTo, if_pos (show n < Config.sectors from h), firstPage_eq]
  rfl

theorem State.walkTo_of_le {n : Nat} (h : 2048 ≤ n) (c : Scan) (v : State) :
    v.walkTo n c = v.staleNext (c.candidates.filter (Extent.loses c.candidates))
      { c with kept := c.candidates.filter fun e => !e.loses c.candidates } := by
  rw [State.walkTo, if_neg (show ¬ n < Config.sectors from Nat.not_lt.mpr h)]

theorem State.scanned_checkEngineStep (v : State) (c : Scan) (op : AccessOp) :
    (v.scanned c op).checkEngineStep = v.scanned c op := rfl

/-- A header that begins no extent, or one whose marker is not LIVE, is passed by. -/
theorem State.judgeHeader_passed {s : State} {sector : Nat} {h : List Byte}
    (hh : h = flashRange s.flash (sector * 4096) 32)
    (hno : readMarker (byteAt h 0) ≠ .live ∨ extentOfHeader sector h = none) (c : Scan) :
    s.judgeHeader sector c = s.walkTo (sector + 1) c := by
  have hbase : flashRange s.flash (sectorBase sector) 32 = h := hh.symm
  unfold State.judgeHeader
  rw [hbase]
  dsimp only
  split
  case h_1 e hlive hextent => exact absurd hno (by simp [hlive, hextent])
  case h_2 => rfl

theorem State.judgeHeader_live {s : State} {sector : Nat} {h : List Byte} {e : Extent}
    (hh : h = flashRange s.flash (sector * 4096) 32) (hlive : readMarker (byteAt h 0) = .live)
    (hextent : extentOfHeader sector h = some e) (c : Scan) :
    s.judgeHeader sector c = s.readBody e (bodyPages e.firstSector 0 e.bodyLen) c := by
  have hbase : flashRange s.flash (sectorBase sector) 32 = h := hh.symm
  rw [State.judgeHeader, hbase]
  rw [hlive, hextent]

theorem bodyPages_zero (firstSector : Nat) : bodyPages firstSector 0 0 = [] := rfl

theorem byteSum_bodyBytes_zero (m : Memory) (firstSector : Nat) : byteSum (bodyBytes m firstSector 0) = 0 := rfl

theorem State.classLive_good {s : State} {e : Extent} (h : byteSum (bodyBytes s.flash e.firstSector e.bodyLen) = e.check)
    (c : Scan) : s.classLive e c
      = s.walkTo (e.firstSector + e.extentLen) { c with candidates := c.candidates ++ [e] } := if_pos h

theorem State.classLive_damaged {s : State} {e : Extent}
    (h : byteSum (bodyBytes s.flash e.firstSector e.bodyLen) ≠ e.check) (c : Scan) :
    s.classLive e c = s.walkTo (e.firstSector + 1) { c with damaged := c.damaged + 1 } := if_neg h

/-! ### Start-up begun (R192) -/

theorem State.cutArray_withLine (s : State) (l : LineIf) :
    ({ s with line := l } : State).cutArray = { s.cutArray with line := l } := by
  have hprogram : ∀ addr data, ({ s with line := l } : State).cutProgram addr data
      = { s.cutProgram addr data with line := l } := fun _ _ => rfl
  have herase : ∀ (x : State) sector, ({ x with line := l } : State).cutErase sector
      = { x.cutErase sector with line := l } := fun _ _ => by
    unfold State.cutErase
    dsimp only
  unfold State.cutArray
  simp only [hprogram]
  obtain _ | ⟨⟨client, page | ⟨addr, data⟩⟩, began⟩ := s.array.busy
  all_goals
    cases s.array.erase.sector with
    | none => rfl
    | some sector => exact herase _ sector

/-- The serial line as it was leaves nothing behind in a part that starts up. -/
theorem State.startedUp_line (s : State) (l : LineIf) (rate : Nat) :
    State.startedUp { s with line := l } rate = s.startedUp rate := by
  unfold State.startedUp State.blocksReset
  dsimp only
  rw [State.cutArray_withLine]

theorem State.startedUp_checkEngineStep (s : State) (rate : Nat) :
    (s.startedUp rate).checkEngineStep = s.startedUp rate := rfl

/-! ### The engine step (R198) -/

theorem State.beginEngineStep_faulty {s : State} {out : Bool} {causes : Causes}
    (hout : out = (decide (s.battery.settings.mediaType = .continuous) && s.lines.gap))
    (hcauses : causes = { headOpen := s.lines.headOpen, mediaOut := out, mediaLost := false
                          headFault := s.burn.sensorFault })
    (h : causes ≠ Causes.empty) (damaged duplicates : Nat) :
    s.beginEngineStep damaged duplicates = State.addCause causes
      { s with
        mode := .startUp (.engine damaged duplicates)
        media := { s.media with event := if out = true then .mediaOut else s.media.event } } := by
  unfold State.beginEngineStep
  dsimp only
  rw [← hout, ← hcauses, if_pos h]
  cases out <;> rfl

theorem State.beginEngineStep_sound {s : State}
    (h : ({ headOpen := s.lines.headOpen
            mediaOut := decide (s.battery.settings.mediaType = .continuous) && s.lines.gap
            mediaLost := false, headFault := s.burn.sensorFault } : Causes) = Causes.empty) (damaged duplicates : Nat) :
    s.beginEngineStep damaged duplicates = if s.battery.settings.registered then
        State.startResync false { s with mode := .startUp (.engine damaged duplicates) }
      else { s with mode := .startUp (.engine damaged duplicates) } := by
  unfold State.beginEngineStep
  dsimp only
  rw [if_neg (not_not.mpr h)]

theorem State.checkEngineStep_engine {s : State} {damaged duplicates : Nat}
    (hmode : s.mode = .startUp (.engine damaged duplicates)) : s.checkEngineStep =
      if s.media.motion = none ∧ s.media.due = none then { s with mode := .startUp (.ready damaged duplicates) } else s := by
  unfold State.checkEngineStep
  rw [hmode]
  simp only [Option.isNone_iff_eq_none]

end Sys2Proof.Machine
end


section
/-! SUPPORT. Start-up from its beginning to the end of the engine step (chapter 10). -/

set_option Elab.async false

namespace Sys2Proof.Machine

/-! ### The accesses of the scan end -/

/-- A page read of the scan that ends. -/
theorem exec_pageReadEnd_scan {s u w v : State} {c : Scan} {page began : Nat} (hu : s.settle = u)
    (hmode : u.mode = .startUp (.scan c))
    (hbusy : u.array.busy = some { access := { client := .scan, op := .read page }, started := began })
    (hpage : page < 32768) (hw : w = { u with now := max u.now (began + 40) })
    (hv : v = { w with array := u.array.passOn w.now }) :
    exec .pageReadEnd s = .next (v.scanRead c).checkEngineStep := by
  have hpass : (u.atLeast (began + 40)).passOn = v := by
    rw [hv, hw]
    rfl
  have hvmode : v.mode = .startUp (.scan c) := by
    rw [hv, hw]
    exact hmode
  rw [exec_pageReadEnd hu hbusy hpage, hpass, State.afterRead]
  simp only [hvmode]

theorem State.afterProgram_scan {s : State} {c : Scan} (h : s.mode = .startUp (.scan c)) (failed : Bool) :
    s.afterProgram .scan failed = s.scanProgram failed c := by
  rw [State.afterProgram]
  simp only [h]

/-- A program of the scan that ends as it was asked. -/
theorem exec_pageProgramEnd_scan {s u : State} {c : Scan} {addr began : Nat} {data : List Byte} (hu : s.settle = u)
    (hmode : u.mode = .startUp (.scan c))
    (hbusy : u.array.busy = some { access := { client := .scan, op := .program addr data }, started := began })
    (haddr : addr / 256 < 32768) (hnow : u.now - began ≤ 3000) :
    exec (.pageProgramEnd none) s = .next ((u.programDone addr data).scanProgram false c).checkEngineStep := by
  have hdone : (u.programDone addr data).mode = .startUp (.scan c) := hmode
  rw [exec_pageProgramEnd hu hbusy haddr hnow, State.endProgram_none, State.afterProgram_scan hdone]

/-- A program of the scan that is not reported ended sets no STORE_FAULT. -/
theorem exec_programTimeout_scan {s u v : State} {c : Scan} {addr began now : Nat} {data : List Byte} (hu : s.settle = u)
    (hmode : u.mode = .startUp (.scan c))
    (hbusy : u.array.busy = some { access := { client := .scan, op := .program addr data }, started := began })
    (haddr : addr / 256 < 32768) (hnow : now = max u.now (began + 3000))
    (hv : v = { u.programFailed addr data now with sticky := u.sticky }) :
    exec .programTimeout s = .next (v.scanProgram true c).checkEngineStep := by
  have hfail : ((u.atLeast (began + 3000)).cutProgram addr data).passOn = v := by
    rw [hv, hnow]
    rfl
  have hvmode : v.mode = .startUp (.scan c) := by
    rw [hv]
    exact hmode
  rw [exec_programTimeout hu hbusy haddr, State.failProgram, hfail, State.afterProgram_scan hvmode]

/-! ### The end of a page read -/

section
variable {v : State} {c : Scan}

theorem State.scanRead_header {sector : Nat} (h : c.wait = .header sector) : v.scanRead c = v.judgeHeader sector c := by
  rw [State.scanRead, h]

theorem State.scanRead_body {e : Extent} {left : List Nat} (h : c.wait = .body e left) :
    v.scanRead c = v.readBody e left c := by
  rw [State.scanRead, h]

theorem State.scanRead_verify_cons {n p : Nat} {rest : List Nat} (h : c.wait = .verify n (p :: rest)) :
    v.scanRead c = v.scanned { c with wait := .verify n rest } (.read p) := by
  rw [State.scanRead, h]
  rfl

theorem State.scanRead_verify_nil {n : Nat} (h : c.wait = .verify n []) : v.scanRead c
    = v.verifyFrom (n + 1) (if sectorErased v.flash n then c else { c with dirty := c.dirty ++ [n] }) := by
  rw [State.scanRead, h]

theorem State.readBody_cons (e : Extent) (p : Nat) (rest : List Nat) :
    v.readBody e (p :: rest) c = v.scanned { c with wait := .body e rest } (.read p) := rfl

theorem State.readBody_nil (e : Extent) : v.readBody e [] c = v.classLive e c := rfl

theorem State.scanProgram_stale {e : Extent} {rest : List Extent} (h : c.wait = .stale e rest) (failed : Bool) :
    v.scanProgram failed c = v.staleNext rest (if failed then { c with failed := c.failed ++
      [{ kind := e.kind, number := e.number, revision := e.revision, firstSector := e.firstSector }] } else c) := by
  rw [State.scanProgram, h]

end

/-- Settles O11. -/
theorem startUpBeginsAndScansTheStore : Obligations.StartUpBeginsAndScansTheStore := by
  unfold Obligations.StartUpBeginsAndScansTheStore
  refine ⟨⟨?power, ?limit, ?mark⟩, ?read, ?program, ?walk, ?resolve, ?verify, ?engine, ?ended⟩
  case power =>
    intro straps s u hu hmode
    rw [exec_event (f := State.powerUp straps) rfl hu, State.powerUp, if_pos hmode]
    by_cases hheld : u.lines.resetAsserted = true
    · rw [if_pos hheld, if_pos hheld]
      rfl
    · rw [if_neg hheld, if_neg hheld, State.beginStartUp_eq]
      rfl
  case limit =>
    intro straps s u m hu hm
    rw [exec_event (f := State.endRestart straps) rfl hu, State.endRestart, hm]
    dsimp only
    rw [State.beginStartUp_eq]
    rfl
  case mark =>
    intro straps s u m began hu hsending hm hbytes
    rw [exec_event (f := State.sendByte straps) rfl hu, State.sendByte, hsending]
    dsimp only [State.atLeast]
    rw [hm]
    dsimp only
    rw [if_pos hbytes, State.beginStartUp_eq, State.startedUp_checkEngineStep]
    exact congrArg Host.Outcome.next
      (State.startedUp_line { u with now := max u.now (began + byteTime u.line.rate) } _ _)
  case read =>
    intro s u w v c page began hu hmode hbusy hpage hw hv
    have hexec := exec_pageReadEnd_scan hu hmode hbusy hpage hw hv
    have hflash : v.flash = u.flash := by
      rw [hv, hw]
    rw [← hflash]
    refine ⟨fun sector h hwait hh => ⟨fun hno => ?_, fun e p rest hlive hextent hpages => ?_⟩,
      fun sector h e hwait hh hlive hextent hlen => ⟨fun hcheck => ?_, fun hcheck => ?_⟩, fun e p rest hwait => ?_,
      fun e hwait => ⟨fun hsum => ?_, fun hsum => ?_⟩, fun n p rest hwait => ?_,
      fun n hwait => ⟨fun herased hsound => ?_, fun hdirty => ?_⟩⟩
    · rw [hexec, State.scanRead_header hwait, State.judgeHeader_passed hh hno]
    · rw [hexec, State.scanRead_header hwait, State.judgeHeader_live hh hlive hextent, hpages, State.readBody_cons,
        State.scanned_checkEngineStep]
    · have hsum : byteSum (bodyBytes v.flash e.firstSector e.bodyLen) = e.check := by
        rw [hlen, byteSum_bodyBytes_zero, hcheck]
      rw [hexec, State.scanRead_header hwait, State.judgeHeader_live hh hlive hextent, hlen, bodyPages_zero,
        State.readBody_nil, State.classLive_good hsum]
    · have hsum : byteSum (bodyBytes v.flash e.firstSector e.bodyLen) ≠ e.check := by
        rw [hlen, byteSum_bodyBytes_zero]
        exact fun h0 => hcheck h0.symm
      rw [hexec, State.scanRead_header hwait, State.judgeHeader_live hh hlive hextent, hlen, bodyPages_zero,
        State.readBody_nil, State.classLive_damaged hsum]
    · rw [hexec, State.scanRead_body hwait, State.readBody_cons, State.scanned_checkEngineStep]
    · rw [hexec, State.scanRead_body hwait, State.readBody_nil, State.classLive_good hsum]
    · rw [hexec, State.scanRead_body hwait, State.readBody_nil, State.classLive_damaged hsum]
    · rw [hexec, State.scanRead_verify_cons hwait, State.scanned_checkEngineStep]
    · have hall : sectorErased v.flash n = true := by
        refine sectorErased_of_flashRead (lo := 0) (hflash ▸ hsound) fun a ha => ?_
        obtain ⟨hlow, hhigh⟩ := (inSector_iff n a).mp ha
        exact herased a hlow hhigh
      rw [hexec, State.scanRead_verify_nil hwait, if_pos hall]
    · obtain ⟨a, hlow, hhigh, hread⟩ := hdirty
      have hnot : ¬ sectorErased v.flash n = true := fun hall =>
        hread (flashRead_of_sectorErased hall ((inSector_iff n a).mpr ⟨hlow, hhigh⟩))
      rw [hexec, State.scanRead_verify_nil hwait, if_neg hnot]
  case program =>
    intro s u v c e rest addr began now data hu hmode hwait hbusy haddr hnow hv
    refine ⟨fun htime => ?_, ?_⟩
    · rw [exec_pageProgramEnd_scan hu hmode hbusy haddr htime, State.scanProgram_stale hwait]
      rfl
    · rw [exec_programTimeout_scan hu hmode hbusy haddr hnow hv, State.scanProgram_stale hwait, if_pos rfl]
  case walk =>
    rintro v c n losers e
    refine ⟨fun hn => State.walkTo_of_lt hn c v, ?_, rfl, rfl⟩
    rintro hn rfl
    exact State.walkTo_of_le hn c v
  case resolve =>
    intro cs e
    refine ⟨?_, fun hdistinct he => existsUnique_winner hdistinct he⟩
    simp only [Extent.loses_iff, Extent.rank_lt_iff, eq_comm (a := e.revision)]
  case verify =>
    intro v c m inside hinside
    have hkept : ∀ k, inside k ↔ k ∈ keptSectors c.kept := fun k => (hinside k).trans (mem_keptSectors c.kept k).symm
    simp only [hkept]
    refine ⟨fun n hle hn hout hin => State.verifyFrom_of_outside rfl (nextOutside_eq_some hle hn hout hin) v,
      fun hin => State.verifyFrom_of_inside (nextOutside_eq_none hin) v, rfl, rfl,
      fun k => ⟨fun hd => ?_, fun hd hin => ?_, fun hd hout => ?_⟩, rfl, rfl, rfl⟩
    · rw [storeOf_sectorState, if_pos hd]
    · rw [storeOf_sectorState, if_neg hd, if_pos hin]
    · rw [storeOf_sectorState, if_neg hd, if_neg hout]
  case engine =>
    intro s w damaged duplicates out causes hw hout hcauses
    refine ⟨fun hfaulty => ?_, fun hopen hnoOut hhead => ?_⟩
    · have hne : causes ≠ Causes.empty := by
        rw [hcauses]
        intro hempty
        simp only [Causes.empty, Causes.mk.injEq] at hempty
        obtain ⟨h1, h2, -, h3⟩ := hempty
        simp [h1, h2, h3] at hfaulty
      rw [State.beginEngineStep_faulty hout hcauses hne, hw]
    · have hempty : ({ headOpen := s.lines.headOpen
                       mediaOut := decide (s.battery.settings.mediaType = .continuous) && s.lines.gap
                       mediaLost := false, headFault := s.burn.sensorFault } : Causes) = Causes.empty := by
        rw [hopen, hhead, ← hout, hnoOut]
        rfl
      rw [State.beginEngineStep_sound hempty]
      refine ⟨fun hmedia hpitch hpower => ?_, fun hnone => ?_⟩
      · rw [if_pos ((Settings.registered_iff _).mpr ⟨hmedia, hpitch.ne'⟩), State.startResync_eq_tracked, hw]
        simp [State.tracked, Media.moving, hpower]
      · rw [if_neg, hw]
        rw [Settings.registered_iff]
        rintro ⟨hmedia, hpitch⟩
        exact hnone.elim hmedia hpitch
  case ended =>
    intro s damaged duplicates hmode
    rw [State.checkEngineStep_engine hmode]
    refine ⟨fun hmotion hdue => if_pos ⟨hmotion, hdue⟩, fun hmoving => if_neg fun ⟨hmotion, hdue⟩ => ?_⟩
    exact hmoving.elim (fun h => h hmotion) fun h => h hdue

end Sys2Proof.Machine
end
